-- ==== Sys2Proof/Config.lean ====
section
/-! DEFINITION. The constants that the manual fixes for every NK-4480. The part leaves no value open to an implementation, so no constant
here is opaque. -/

namespace Sys2Proof.Config

/-- Station ticks in one second (R4). -/
def ticksPerSecond : Nat := 180000

/-- Station ticks in one millisecond (R4). -/
def ticksPerMillisecond : Nat := 180

/-- ORDER_LEAD: the least interval between the commit of an order and its effect (R30). -/
def orderLead : Nat := 9000

/-- REF_STALE: the age above which a feed reference is stale (R62). -/
def refStale : Nat := 5400000

/-- The splice-time horizon, 2^30 ticks (R110). -/
def horizon : Nat := 1073741824

/-- The greatest number of break frames that the splice arithmetic gives (R108). -/
def maxFrames : Nat := 1048575

/-- The greatest lead of a LEAD cue and of a cell template (R59, R68). -/
def maxLead : Nat := 1800000

/-- Records that the intake FIFO holds (R54). -/
def fifoDepth : Nat := 16

/-- Notices that a port's queue holds (R184). -/
def noticeDepth : Nat := 16

/-- The error count at which a port is DETACHED (R189). -/
def detachCount : Nat := 192

/-- The error count from which a port in NORMAL is in CAUTION (R189). -/
def cautionCount : Nat := 96

/-- The error count below which a port in CAUTION returns to NORMAL (R189). -/
def normalCount : Nat := 64

/-- What a malformed frame adds to the error count (R188). -/
def malformedCost : Nat := 8

/-- The quiet interval of a rejoin, 2 s (R195). -/
def quietInterval : Nat := 360000

/-- What CAUTION adds to a claim's rank (R151). -/
def cautionPenalty : Nat := 4

/-- The greatest rank (R141). -/
def maxRank : Nat := 15

/-- Where the 16-bit counts stay (R41, R44, R56, R58, R87). -/
def countMax : Nat := 65535

/-- Where the 8-bit counts stay (R98, R115, R184). -/
def smallCountMax : Nat := 255

/-- The greatest length of a client frame's body (R186). -/
def maxBody : Nat := 48

end Sys2Proof.Config
end

