-- ==== Sys2Proof/Word.lean ====
section
/-! DEFINITION. The widths in which the NK-4480 speaks: bytes on its links, 48-bit station ticks, 32-bit feed stamps. -/

namespace Sys2Proof

/-- One byte on any link of the part (R198). -/
abbrev Byte := BitVec 8

/-- A station tick: the value of the 48-bit station tick counter (R1). Arithmetic on it wraps at 2^48 (R3). -/
abbrev Tick := BitVec 48

/-- A feed stamp: 32 bits of a feed's own clock, wrapping at 2^32 (R61). -/
abbrev Stamp := BitVec 32

/-- A lane set, a 32-lane mask: lane n is the bit of weight 2^n (R198). -/
abbrev LaneSet := BitVec 32

/-- A zone set: zone n is the bit of weight 2^n, and ALL is all 16 bits (R198). -/
abbrev ZoneSet := BitVec 16

end Sys2Proof
end

