-- ==== Sys2Proof/Syntax.lean ====
section
/-! DEFINITION. The named values of the NK-4480, the operands of its requests as they cross the links, and Instr, the commands: one
constructor for each row of spec/opcode_table.json. -/

namespace Sys2Proof

/-- The 20 programme sources, in the order of their codes (R198). -/
inductive Source where
  | net | ins (n : Fin 16) | alertA | alertB | fill
  deriving DecidableEq, Repr

/-- The six cadences of R5's table. -/
inductive Cadence where
  | c25 | c2997 | c30 | c50 | c5994 | c60
  deriving DecidableEq, Repr

/-- The four roles of a client port (R184). -/
inductive Role where
  | scheduler | inserter | alert | observer
  deriving DecidableEq, Repr

/-- The link state of a client port (R184). -/
inductive PortState where
  | normal | caution | detached
  deriving DecidableEq, Repr

/-- The kind of a cue (R59). -/
inductive CueKind where
  | out | ret | cancel | mark
  deriving DecidableEq, Repr

/-- The fabric's reason for refusing an order (R37). -/
inductive FabricCode where
  | sourceUnavailable | laneUnavailable | tooLate
  deriving DecidableEq, Repr

/-- The requests of the request directory (12.6), in the order of their codes 1 to 39. -/
inductive Req where
  | status | fetch | subscribe | rejoin | readTime | setCalendar | readLane | writeLane | laneReset | readOrderLink
  | readIntake | readFeed | readCueLogic | readPair | writePair | enablePair | setCueOutput | readFilter | writeFilter
  | readHit | readStrays | takeStray | readAvail | readLaneAvails | bookAvail | cancelAvail | release | claim | withdraw
  | stand | standClear | standPause | standResume | readStanding | readWindow | writeWindow | readAlerts | alertStart
  | alertEnd
  deriving DecidableEq, Repr

/-- The outcome codes of replies, in the order of their codes 0 to 13 (R198). -/
inductive ReplyCode where
  | ok | busy | role | range | stale | full | late | far | noRef | unknown | closed | detached | form | empty
  deriving DecidableEq, Repr

/-- The causes of a malformed client frame, in the order in which they are checked (R186). -/
inductive FormCause where
  | size | check | code | length
  deriving DecidableEq, Repr

/-- The causes of a malformed fabric message, in the order in which they are checked (R41). -/
inductive LinkCause where
  | length | check | type | lane | code
  deriving DecidableEq, Repr

/-- The causes of an invalid intake record, in the order in which they are checked (R58). -/
inductive RecordCause where
  | check | type | length | field
  deriving DecidableEq, Repr

/-- An optional field of a request body: a presence byte, 0 or 1, followed by the field when it is 1 (R198). A presence byte of another
value is kept as it came: it is a field outside its range, which the owning block refuses (R186). -/
inductive OptField (α : Type) where
  | absent
  | given (a : α)
  | undefinedPresence (b : Byte)
  deriving DecidableEq, Repr

/-- An avail handle as a request carries it: slot, then generation (R198). -/
structure RawHandle where
  slot : Byte
  gen : Byte
  deriving DecidableEq, Repr

/-- The body of SET CALENDAR (R12). -/
structure RawCalendar where
  year : BitVec 16
  month : Byte
  day : Byte
  hour : Byte
  minute : Byte
  second : Byte
  dow : Byte
  deriving DecidableEq, Repr

/-- The body of WRITE LANE (R18). -/
structure RawLane where
  lane : Byte
  enable : Byte
  feed : Byte
  zone : Byte
  cadence : Byte
  phase : BitVec 16
  pathDelay : BitVec 32
  claimLead : BitVec 32
  lateGrace : BitVec 32
  ceiling : BitVec 16
  ackGrace : BitVec 32
  expected : OptField Byte
  deriving DecidableEq, Repr

/-- An input selector or a cue output selection as a request carries it: a kind, then a number (R198). -/
structure RawSelector where
  kind : Byte
  number : Byte
  deriving DecidableEq, Repr

/-- The configuration of one cell as WRITE PAIR carries it (R68, R80). Entry i of the truth table is bit i of table. -/
structure RawCell where
  input0 : RawSelector
  input1 : RawSelector
  input2 : RawSelector
  table : Byte
  settle : Byte
  edge : Byte
  source : Byte
  feed : Byte
  kind : Byte
  cls : Byte
  lead : BitVec 32
  deriving DecidableEq, Repr

/-- The body of WRITE PAIR (R80). The even cell 2k stands first, then the odd cell 2k+1. -/
structure RawPair where
  pair : Byte
  mode : Byte
  even : RawCell
  odd : RawCell
  expected : OptField Byte
  deriving DecidableEq, Repr

/-- The body of ENABLE PAIR (R81). -/
structure RawEnable where
  pair : Byte
  enable : Byte
  expected : OptField Byte
  deriving DecidableEq, Repr

/-- The body of SET CUE OUTPUT (R84). -/
structure RawOutput where
  output : Byte
  selection : RawSelector
  deriving DecidableEq, Repr

/-- The body of WRITE FILTER (R88). -/
structure RawFilter where
  filter : Byte
  enable : Byte
  feed : Byte
  kinds : Byte
  idValue : BitVec 32
  idMask : BitVec 32
  classLow : Byte
  classHigh : Byte
  origin : Byte
  action : Byte
  notify : Byte
  lanes : LaneSet
  expected : OptField Byte
  deriving DecidableEq, Repr

/-- The body of BOOK AVAIL (R120). -/
structure RawBooking where
  lane : Byte
  eventId : BitVec 32
  cls : Byte
  outTick : Tick
  frames : BitVec 32
  deriving DecidableEq, Repr

/-- The body of CLAIM (R142). -/
structure RawClaim where
  handle : RawHandle
  rank : Byte
  source : Byte
  spot : OptField (BitVec 32)
  deriving DecidableEq, Repr

/-- The body of STAND (R145). -/
structure RawStand where
  lane : Byte
  rank : Byte
  source : Byte
  spot : OptField (BitVec 32)
  deriving DecidableEq, Repr

/-- The body of WRITE WINDOW (R164). -/
structure RawWindow where
  window : Byte
  enable : Byte
  type : Byte
  days : Byte
  hour : Byte
  minute : Byte
  second : Byte
  duration : BitVec 32
  lanes : LaneSet
  source : Byte
  expected : OptField Byte
  deriving DecidableEq, Repr

/-- The body of ALERT START (R172). -/
structure RawAlert where
  id : Byte
  level : Byte
  zones : ZoneSet
  source : Byte
  duration : BitVec 16
  deriving DecidableEq, Repr

/-- The commands of the NK-4480, one for each row of spec/opcode_table.json: the pins, the clock, the links, the events of its blocks and
the well-formed client frames at their taking. A request's fields stand as they cross the port, unchecked (R186). -/
inductive Instr where
  /-- POWER_ON_RESET (R1): the release of the reset pin, with the strap pins (bit 2p is port p's first strap, bit 2p+1 its second) and
  the levels of the 24 cue lines at the release. -/
  | powerOnReset (straps : BitVec 8) (lines : BitVec 24)
  /-- SECOND_BOUNDARY (R10). -/
  | secondBoundary
  /-- CHIP_SELECT_ASSERT (R187). -/
  | chipSelectAssert (port : Fin 4)
  /-- MALFORMED_FRAME (R188): the bytes clocked, up to the deassertion. -/
  | malformedFrame (port : Fin 4) (bytes : List Byte)
  /-- STATUS (R197). -/
  | status (port : Fin 4)
  /-- FETCH (R191) at its taking: whether the master clocked the item through to its check byte. -/
  | fetch (port : Fin 4) (through : Bool)
  /-- SUBSCRIBE (R194). -/
  | subscribe (port : Fin 4) (mask : BitVec 24)
  /-- REJOIN (R195). -/
  | rejoin (port : Fin 4)
  /-- QUIET_EXPIRY (R195). -/
  | quietExpiry (port : Fin 4)
  /-- READ_TIME (R11). -/
  | readTime (port : Fin 4)
  /-- SET_CALENDAR (R13). -/
  | setCalendar (port : Fin 4) (body : RawCalendar)
  /-- READ_LANE (R17). -/
  | readLane (port : Fin 4) (lane : Byte)
  /-- WRITE_LANE (R18). -/
  | writeLane (port : Fin 4) (body : RawLane)
  /-- LANE_RESET (R25). -/
  | laneReset (port : Fin 4) (lane : Byte)
  /-- ORDER_SEND_START (R39). -/
  | orderSendStart
  /-- ORDER_SEND_END (R39). -/
  | orderSendEnd
  /-- DONE (R45): a well-formed DONE message from the fabric. -/
  | done (lane : Fin 32) (seq : Byte)
  /-- FAULT (R47): a well-formed FAULT message from the fabric. -/
  | fault (lane : Fin 32) (seq : Byte) (code : FabricCode)
  /-- FABRIC_MESSAGE_MALFORMED (R41): the bytes of the message. -/
  | fabricMessageMalformed (bytes : List Byte)
  /-- ACK_TIMER_EXPIRY (R48). -/
  | ackTimerExpiry (lane : Fin 32)
  /-- READ_ORDER_LINK (R52). -/
  | readOrderLink (port : Fin 4)
  /-- RECORD_ARRIVAL (R53): the bytes of the record, as received. -/
  | recordArrival (bytes : List Byte)
  /-- INTAKE_TAKING (R57). -/
  | intakeTaking
  /-- READ_INTAKE (R65). -/
  | readIntake (port : Fin 4)
  /-- READ_FEED (R66). -/
  | readFeed (port : Fin 4) (feed : Byte)
  /-- LINE_CHANGE (R67): the line and its sampled level (true is high). -/
  | lineChange (line : Fin 24) (level : Bool)
  /-- SETTLE_EXPIRY (R72). -/
  | settleExpiry (cell : Fin 12)
  /-- READ_CUE_LOGIC (R85). -/
  | readCueLogic (port : Fin 4)
  /-- READ_PAIR (R85). -/
  | readPair (port : Fin 4) (pair : Byte)
  /-- WRITE_PAIR (R80). -/
  | writePair (port : Fin 4) (body : RawPair)
  /-- ENABLE_PAIR (R81). -/
  | enablePair (port : Fin 4) (body : RawEnable)
  /-- SET_CUE_OUTPUT (R84). -/
  | setCueOutput (port : Fin 4) (body : RawOutput)
  /-- READ_FILTER (R89). -/
  | readFilter (port : Fin 4) (filter : Byte)
  /-- WRITE_FILTER (R88). -/
  | writeFilter (port : Fin 4) (body : RawFilter)
  /-- READ_HIT (R97). -/
  | readHit (port : Fin 4) (filter : Byte)
  /-- READ_STRAYS (R101). -/
  | readStrays (port : Fin 4)
  /-- TAKE_STRAY (R100). -/
  | takeStray (port : Fin 4)
  /-- CLAIM_CLOSE (R123) of the avail in a slot. -/
  | claimClose (slot : Fin 64)
  /-- OUT_COMMIT_POINT (R124) of the avail in a slot. -/
  | outCommitPoint (slot : Fin 64)
  /-- FILL_COMMIT_POINT (R126) of the avail in a slot. -/
  | fillCommitPoint (slot : Fin 64)
  /-- IN_COMMIT_POINT (R127) of the avail in a slot. -/
  | inCommitPoint (slot : Fin 64)
  /-- READ_AVAIL (R140). -/
  | readAvail (port : Fin 4) (handle : RawHandle)
  /-- READ_LANE_AVAILS (R140). -/
  | readLaneAvails (port : Fin 4) (lane : Byte)
  /-- BOOK_AVAIL (R120). -/
  | bookAvail (port : Fin 4) (body : RawBooking)
  /-- CANCEL_AVAIL (R133). -/
  | cancelAvail (port : Fin 4) (handle : RawHandle)
  /-- RELEASE (R134). -/
  | release (port : Fin 4) (handle : RawHandle)
  /-- CLAIM (R142). -/
  | claim (port : Fin 4) (body : RawClaim)
  /-- WITHDRAW (R149). -/
  | withdraw (port : Fin 4) (handle : RawHandle)
  /-- STAND (R145). -/
  | stand (port : Fin 4) (body : RawStand)
  /-- STAND_CLEAR (R146). -/
  | standClear (port : Fin 4) (lane : Byte)
  /-- STAND_PAUSE (R147). -/
  | standPause (port : Fin 4) (lane : Byte)
  /-- STAND_RESUME (R147). -/
  | standResume (port : Fin 4) (lane : Byte)
  /-- READ_STANDING (R148). -/
  | readStanding (port : Fin 4) (lane : Byte)
  /-- READ_WINDOW (R170). -/
  | readWindow (port : Fin 4) (window : Byte)
  /-- WRITE_WINDOW (R164). -/
  | writeWindow (port : Fin 4) (body : RawWindow)
  /-- READ_ALERTS (R183). -/
  | readAlerts (port : Fin 4)
  /-- ALERT_START (R172). -/
  | alertStart (port : Fin 4) (body : RawAlert)
  /-- ALERT_END (R177). -/
  | alertEnd (port : Fin 4) (id : Byte)
  /-- ALERT_EXPIRY (R178) of the alert in a slot. -/
  | alertExpiry (slot : Fin 4)
  /-- STATION_TICK (R1). -/
  | stationTick
  /-- FETCH_CHECK_BYTE (R191): the part has received a FETCH's check byte, and the FETCH is well formed. -/
  | fetchCheckByte (port : Fin 4)
  deriving DecidableEq, Repr

end Sys2Proof
end

