-- ==== Sys2Proof/Machine/State.lean ====
section
/-! DEFINITION. The whole state of the NK-4480 as plain data, block by block, with the value of every field after power-on reset; the
replies and notices that its ports hold; the reasons a step can stop. -/

namespace Sys2Proof.Machine

/-! ## Time Base (Chapter 1) -/

/-- The calendar (R7). Day of week 1 is Monday. -/
structure Calendar where
  year : Nat := 2000
  month : Nat := 1
  day : Nat := 1
  hour : Nat := 0
  minute : Nat := 0
  second : Nat := 0
  dow : Nat := 6
  deriving DecidableEq, Repr

/-! ## Avail names -/

/-- An avail handle: slot and generation (R115). -/
structure Handle where
  slot : Fin 64
  gen : Byte
  deriving DecidableEq, Repr

/-! ## Lane Table (Chapter 2) -/

/-- The four lane states (2.3). -/
inductive LaneState where
  | off | run | stopping | fault
  deriving DecidableEq, Repr

/-- The owner of a lane (R16). -/
inductive Owner where
  | network
  | avail (h : Handle)
  | window (i : Fin 16)
  | alert (a : Fin 4)
  deriving DecidableEq, Repr

/-- The kinds of a planned transition (R16). -/
inductive PlanKind where
  | owner | stop | fill | inStep
  deriving DecidableEq, Repr

/-- The kinds of an outstanding order's step (R38). -/
inductive StepKind where
  | owner | stop | out | fill | inStep
  deriving DecidableEq, Repr

/-- A lane's fault reason (R16). -/
inductive FaultReason where
  | timeout | fabric
  deriving DecidableEq, Repr

/-- A planned transition (R16). The target of a planned IN step is the one it would have had when it was planned. It is computed again when
the step is committed (R35, R36). -/
structure Planned where
  kind : PlanKind
  target : Source
  effect : Tick
  avail : Option Handle
  deriving DecidableEq, Repr

/-- A committed order (R16, R31). -/
structure Committed where
  seq : Byte
  target : Source
  effect : Tick
  commit : Tick
  deriving DecidableEq, Repr

/-- The configuration of a lane (R15), with its initial values. -/
structure LaneConfig where
  enable : Bool := false
  feed : Fin 32 := 0
  zone : Fin 16 := 0
  cadence : Cadence := .c2997
  phase : Nat := 0
  pathDelay : Nat := 0
  claimLead : Nat := 360000
  lateGrace : Nat := 45000
  ceiling : Nat := 300
  ackGrace : Nat := 18000
  deriving DecidableEq, Repr

/-- A lane record (R15, R16). The confirmed source is none where the manual says UNKNOWN. -/
structure Lane where
  cfg : LaneConfig := {}
  revision : Byte := 0
  state : LaneState := .off
  owner : Owner := .network
  planned : Option Planned := none
  committed : Option Committed := none
  lastEffect : Option Tick := none
  confirmed : Option Source := some .net
  orderSeq : Byte := 0
  faultReason : Option FaultReason := none
  failedTarget : Option Source := none
  deriving DecidableEq, Repr

/-! ## Order Link Controller (Chapter 3) -/

/-- A lane's outstanding record (R38). The acknowledgement timer of R40 is armed exactly while the record stands. -/
structure Outstanding where
  seq : Byte
  target : Source
  effect : Tick
  kind : StepKind
  avail : Option Handle
  sent : Bool
  ackExpiry : Tick
  deriving DecidableEq, Repr

/-- An unsent ORDER message in the outbound queue (R37, R39). The effect tick is held whole and sent as its low 32 bits. -/
structure OrderMsg where
  lane : Fin 32
  seq : Byte
  target : Source
  effect : Tick
  deriving DecidableEq, Repr

/-- The last-late record (R44): a DONE has no fabric code. -/
structure LateAnswer where
  lane : Fin 32
  seq : Byte
  code : Option FabricCode
  tick : Tick
  deriving DecidableEq, Repr

/-- The last-error record of the order link (R41). -/
structure LinkError where
  cause : LinkCause
  tick : Tick
  deriving DecidableEq, Repr

/-! ## Cue Intake Unit (Chapter 4) -/

/-- A record in the intake FIFO: its bytes as received and its arrival tick (R54). -/
structure IntakeEntry where
  bytes : List Byte
  arrival : Tick
  deriving DecidableEq, Repr

/-- An entry of the feed reference table (R62). -/
structure FeedRef where
  valid : Bool := false
  stamp : Stamp := 0
  station : Tick := 0
  deriving DecidableEq, Repr

/-- The last-error record of the intake (R58). -/
structure IntakeError where
  cause : RecordCause
  typeCode : Byte
  feed : Option Byte
  arrival : Tick
  tick : Tick
  deriving DecidableEq, Repr

/-- How a cue gives its time (R59). -/
inductive Timing where
  | stamped (stamp : Stamp)
  | lead (ticks : Nat)
  deriving DecidableEq, Repr

/-- Where a cue came from (R60, R78). -/
inductive CueOrigin where
  | inband
  | cell (n : Fin 12)
  deriving DecidableEq, Repr

/-- A cue as the filter bank receives it (R60). -/
structure Cue where
  feed : Fin 32
  kind : CueKind
  eventId : BitVec 32
  cls : Byte
  timing : Timing
  duration : Option (BitVec 32)
  origin : CueOrigin
  arrival : Tick
  deriving DecidableEq, Repr

/-! ## Cue Logic Array (Chapter 5) -/

/-- The input selectors of a cell (R68). -/
inductive Selector where
  | low | line (k : Fin 24) | link | pair | laneOut (l : Fin 32) | alertAny
  deriving DecidableEq, Repr

/-- The emission edge of a cell (R68). -/
inductive EmitEdge where
  | none | rising | falling | both
  deriving DecidableEq, Repr

/-- The emission source of a cell (R68, R75). -/
inductive EmitSource where
  | filtered | pair
  deriving DecidableEq, Repr

/-- The modes of a pair element (R74). -/
inductive ElementMode where
  | off | follow | setReset | capture | toggle
  deriving DecidableEq, Repr

/-- The configuration of a cell (R68), with its initial values. Entry i of the truth table is bit i. The settle time is in milliseconds. -/
structure CellConfig where
  input0 : Selector := .low
  input1 : Selector := .low
  input2 : Selector := .low
  table : BitVec 8 := 0
  settle : Nat := 0
  edge : EmitEdge := .none
  source : EmitSource := .filtered
  feed : Fin 32 := 0
  kind : CueKind := .mark
  cls : Byte := 0
  lead : Nat := 0
  deriving DecidableEq, Repr

/-- A logic cell (R68): true is high. -/
structure Cell where
  cfg : CellConfig := {}
  raw : Bool := false
  filtered : Bool := false
  timer : Option Tick := none
  sequence : BitVec 16 := 0
  deriving DecidableEq, Repr

/-- A pair record (R79) with its pair element (R74). -/
structure Pair where
  enable : Bool := false
  mode : ElementMode := .off
  revision : Byte := 0
  output : Bool := false
  oddSeen : Bool := false
  deriving DecidableEq, Repr

/-- A cue output's selection (R83). -/
inductive OutputSelection where
  | low | cell (n : Fin 12) | pair (k : Fin 6)
  deriving DecidableEq, Repr

/-! ## Cue Filter Bank (Chapter 6) -/

/-- The origins a filter takes (R86). -/
inductive OriginMatch where
  | inband | cell | any
  deriving DecidableEq, Repr

/-- The action of a filter (R86). -/
inductive FilterAction where
  | arm | forward | drop
  deriving DecidableEq, Repr

/-- The outcome of a hit (R93, R94): a reply outcome code, or one of the four that only a filter gives. -/
inductive HitOutcome where
  | result (c : ReplyCode) | ignoredKind | noLane | forwarded | dropped
  deriving DecidableEq, Repr

/-- The configuration of a filter (R86), with its initial values. A feed of none is ANY. Bit n of kinds is the n-th of OUT, RETURN,
CANCEL, MARK. -/
structure FilterConfig where
  enable : Bool := false
  feed : Option (Fin 32) := none
  kinds : BitVec 4 := 0
  idValue : BitVec 32 := 0
  idMask : BitVec 32 := 0
  classLow : Byte := 0
  classHigh : Byte := 255
  origin : OriginMatch := .any
  action : FilterAction := .drop
  notify : Bool := false
  lanes : LaneSet := 0
  deriving DecidableEq, Repr

/-- A filter's hit record (R87), with its initial values. -/
structure HitRecord where
  count : Nat := 0
  lastCue : Option Cue := none
  hitTick : Option Tick := none
  outcome : Option HitOutcome := none
  outcomeLane : Option (Fin 32) := none
  lanesApplied : LaneSet := 0
  unread : Bool := false
  overwritten : Bool := false
  deriving DecidableEq, Repr

/-- A filter (R86, R87). -/
structure Filter where
  cfg : FilterConfig := {}
  revision : Byte := 0
  hit : HitRecord := {}
  deriving DecidableEq, Repr

/-- An entry of the stray buffer (R98). -/
structure Stray where
  cue : Cue
  tick : Tick
  deriving DecidableEq, Repr

/-! ## Avail Controller and Claim Arbiter (Chapters 8 and 9) -/

/-- The states of an avail (R117). -/
inductive AvailState where
  | empty | armed | closed | out | returning | ended | cancelled | missed
  deriving DecidableEq, Repr

/-- The origin of an avail (R115). -/
inductive AvailOrigin where
  | filter (f : Fin 48)
  | booked (p : Fin 4)
  deriving DecidableEq, Repr

/-- How far an avail's FILL step has gone (R115, R126). -/
inductive FillStep where
  | none | waiting | committed | confirmed | superseded
  deriving DecidableEq, Repr

/-- The final results (R117): four of ENDED, three of CANCELLED, six of MISSED. -/
inductive FinalResult where
  | returned | released | unfilled | preempted
  | cue | request | laneOff
  | late | alert | window | blackout | fault | laneBusy
  deriving DecidableEq, Repr

/-- A specific claim (R141), and the holder that a winning claim becomes (R153). -/
structure Claim where
  port : Fin 4
  rank : Nat
  source : Source
  spot : Option Nat
  deriving DecidableEq, Repr

/-- A standing claim (R144): its port is its place's. -/
structure Standing where
  rank : Nat
  source : Source
  spot : Option Nat
  paused : Bool
  deriving DecidableEq, Repr

/-- An avail record (R115), less the slot of its handle, which is its place in the table. -/
structure Avail where
  gen : Byte := 0
  state : AvailState := .empty
  lane : Fin 32 := 0
  eventId : BitVec 32 := 0
  cls : Byte := 0
  origin : Option AvailOrigin := none
  outTick : Tick := 0
  inTick : Tick := 0
  frames : Nat := 0
  provisional : Bool := false
  claimClose : Tick := 0
  claims : List Claim := []
  holder : Option Claim := none
  fillTick : Option Tick := none
  fillStep : FillStep := .none
  released : Bool := false
  repeats : Nat := 0
  conflicts : Nat := 0
  result : Option FinalResult := none
  finalTick : Option Tick := none
  deriving DecidableEq, Repr

/-! ## Window Scheduler (Chapter 10) -/

/-- The two types of window (R157). -/
inductive WindowType where
  | insert | blackout
  deriving DecidableEq, Repr

/-- The configuration of a window (R157), with its initial values. A start field of none is ANY. Bit d-1 of days is day of week d. -/
structure WindowConfig where
  enable : Bool := false
  type : WindowType := .insert
  days : BitVec 7 := 0
  hour : Option Nat := some 0
  minute : Option Nat := some 0
  second : Option Nat := some 0
  duration : Nat := 60
  lanes : LaneSet := 0
  source : Source := .fill
  deriving DecidableEq, Repr

/-- A window (R157, R158). -/
structure Window where
  cfg : WindowConfig := {}
  revision : Byte := 0
  isOpen : Bool := false
  remaining : Nat := 0
  deriving DecidableEq, Repr

/-! ## Alert Controller (Chapter 11) -/

/-- An active alert (R171). -/
structure Alert where
  id : Byte
  level : Nat
  zones : ZoneSet
  source : Source
  start : Tick
  expiry : Tick
  port : Fin 4
  deriving DecidableEq, Repr

/-! ## Notices -/

/-- What every avail notice carries (R139). -/
structure AvailHead where
  handle : Handle
  lane : Fin 32
  eventId : BitVec 32
  tick : Tick
  deriving DecidableEq, Repr

/-- The causes of AVAIL_RETIMED (R139). -/
inductive RetimeCause where
  | repeated | ret | cancel | release | step
  deriving DecidableEq, Repr

/-- The causes of LANE_STATE (R26). -/
inductive LaneCause where
  | state | owner | source | discontinuity
  deriving DecidableEq, Repr

/-- The kinds of a candidate (R150). -/
inductive ClaimKind where
  | specific | standing
  deriving DecidableEq, Repr

/-- The causes of WINDOW_OPEN and WINDOW_CLOSE (R169). -/
inductive WindowCause where
  | start | retrigger | edited | expired | disabled
  deriving DecidableEq, Repr

/-- The causes of ALERT_BEGIN (R182). -/
inductive BeginCause where
  | new | update
  deriving DecidableEq, Repr

/-- The reasons of ALERT_END (R182). -/
inductive EndReason where
  | ended | expired | displaced
  deriving DecidableEq, Repr

/-- The causes of PORT_STATE (R196). -/
inductive PortCause where
  | frame | rejoin
  deriving DecidableEq, Repr

/-- The fields of WINDOW_OPEN and WINDOW_CLOSE (R169). -/
structure WindowNotice where
  window : Fin 16
  cause : WindowCause
  type : WindowType
  lanes : LaneSet
  source : Option Source
  duration : Nat
  remaining : Nat
  calendar : Calendar
  tick : Tick
  deriving DecidableEq, Repr

/-- The fields of AVAIL_MISSED and AVAIL_CANCELLED (R139). -/
structure FinalNotice where
  head : AvailHead
  reason : FinalResult
  left : AvailState
  outTick : Tick
  inTick : Tick
  holder : Option Claim
  finalTick : Tick
  deriving DecidableEq, Repr

/-- The 19 notices, in the order of their kinds 1 to 19 (R198), each with the fields that its rule gives it. -/
inductive Notice where
  /-- AVAIL_NEW (R139). -/
  | availNew (head : AvailHead) (cls : Byte) (origin : Option AvailOrigin) (outTick inTick : Tick) (frames : Nat) (provisional : Bool)
      (claimClose : Tick)
  /-- AVAIL_RETIMED (R139). -/
  | availRetimed (head : AvailHead) (cause : RetimeCause) (state : AvailState) (outTick inTick : Tick) (frames : Nat)
      (provisional : Bool) (claimClose : Tick) (fillTick : Option Tick)
  /-- CLAIM_WON (R154). -/
  | claimWon (head : AvailHead) (port : Fin 4) (kind : ClaimKind) (winner : Fin 4) (source : Source) (effective : Nat) (penalty : Bool)
      (outTick inTick : Tick) (frames : Nat) (spot : Option Nat) (fillTick : Option Tick) (candidates : Nat)
  /-- CLAIM_LOST (R154). -/
  | claimLost (head : AvailHead) (port : Fin 4) (kind : ClaimKind) (winner : Fin 4) (source : Source) (effective best : Nat)
      (penalty : Bool) (outTick inTick : Tick) (frames : Nat) (candidates : Nat)
  /-- SPLICE_OUT (R139). -/
  | spliceOut (head : AvailHead) (holder : Option Claim) (outTick : Tick) (state : AvailState)
  /-- SPLICE_IN (R139). -/
  | spliceIn (head : AvailHead) (target : Source) (inTick : Tick) (frames : Nat) (result : FinalResult)
  /-- AVAIL_END (R139). -/
  | availEnd (head : AvailHead) (result : FinalResult) (outTick inTick : Tick) (frames : Nat) (holder : Option Claim) (finalTick : Tick)
  /-- AVAIL_MISSED (R139). -/
  | availMissed (n : FinalNotice)
  /-- AVAIL_CANCELLED (R139). -/
  | availCancelled (n : FinalNotice)
  /-- CUE_HIT (R96). -/
  | cueHit (filter : Fin 48) (action : FilterAction) (cue : Cue) (outcome : HitOutcome) (lane : Option (Fin 32)) (applied : LaneSet)
      (count : Nat) (tick : Tick)
  /-- STRAY (R99). -/
  | stray (cue : Cue) (strayTick : Tick) (entries : Nat) (replaced : Bool) (overruns : Nat)
  /-- WINDOW_OPEN (R169). -/
  | windowOpen (n : WindowNotice)
  /-- WINDOW_CLOSE (R169). -/
  | windowClose (n : WindowNotice)
  /-- ALERT_BEGIN (R182). -/
  | alertBegin (slot : Fin 4) (alert : Alert) (cause : BeginCause) (active : Nat) (tick : Tick)
  /-- ALERT_END (R182). -/
  | alertEnd (slot : Fin 4) (alert : Alert) (reason : EndReason) (ender : Option (Fin 4)) (active : Nat) (tick : Tick)
  /-- LANE_FAULT (R50). -/
  | laneFault (lane : Fin 32) (order : Outstanding) (reason : FaultReason) (code : Option FabricCode) (state : LaneState) (tick : Tick)
  /-- LANE_STATE (R26). -/
  | laneState (lane : Fin 32) (cause : LaneCause) (state : LaneState) (owner : Owner) (confirmed : Option Source)
      (reason : Option FaultReason) (tick : Tick)
  /-- PORT_STATE (R196). -/
  | portState (port : Fin 4) (before after : PortState) (errors : Nat) (cause : PortCause) (tick : Tick)
  /-- CALENDAR_SET (R14). -/
  | calendarSet (port : Fin 4) (tick : Tick) (calendar : Calendar) (phase : Nat)
  deriving DecidableEq, Repr

/-! ## Replies -/

/-- The disposition of a booking (R120). -/
inductive Disposition where
  | new | repeated | retimed | conflict
  deriving DecidableEq, Repr

/-- The disposition of an ALERT START (R172). -/
inductive AlertDisposition where
  | new | updated | displacing
  deriving DecidableEq, Repr

/-- The effect field of WITHDRAW (R149). -/
inductive WithdrawEffect where
  | removed | none | holderCleared | released
  deriving DecidableEq, Repr

/-- What a cell shows in READ CUE LOGIC (R85). -/
structure CellView where
  raw : Bool
  filtered : Bool
  timer : Option Tick
  sequence : BitVec 16
  deriving DecidableEq, Repr

/-- What a pair shows in READ CUE LOGIC (R85). -/
structure PairView where
  enable : Bool
  revision : Byte
  output : Bool
  deriving DecidableEq, Repr

/-- What an avail shows in READ LANE AVAILS (R140). -/
structure AvailView where
  handle : Handle
  state : AvailState
  eventId : BitVec 32
  outTick : Tick
  inTick : Tick
  deriving DecidableEq, Repr

/-- The body of a reply: the fields that the request's rule gives it. -/
inductive ReplyBody where
  /-- No body: most refusals, and the answers whose rule gives no field. -/
  | none
  /-- FORM (R188). -/
  | form (cause : FormCause)
  /-- STALE, and the OK of WRITE LANE, WRITE PAIR, ENABLE PAIR and WRITE FILTER: a revision. -/
  | revision (r : Byte)
  /-- STATUS (R197). -/
  | status (port : Fin 4) (role : Role) (state : PortState) (errors : Nat) (quiet : Option Tick) (queued dropped : Nat)
      (mask : BitVec 19)
  /-- SUBSCRIBE (R194): the mask before. -/
  | mask (m : BitVec 19)
  /-- REJOIN (R195). -/
  | quiet (expiry : Option Tick)
  /-- READ TIME (R11). -/
  | time (now : Tick) (calendar : Calendar) (phase into : Nat)
  /-- SET CALENDAR (R13). -/
  | calendarSet (now : Tick) (phase : Nat)
  /-- READ LANE (R17). -/
  | lane (lane : Lane) (earliest : Tick)
  /-- READ ORDER LINK (R52). -/
  | orderLink (late errors outstanding queued : Nat) (lastLate : Option LateAnswer) (lastError : Option LinkError)
  /-- READ INTAKE (R65). -/
  | intake (occupancy : Nat) (ready : Bool) (errors : Nat) (lastError : Option IntakeError) (overruns : Nat) (lastOverrun : Option Tick)
  /-- READ FEED (R66). -/
  | feed (ref : FeedRef) (age : Option Tick) (stale : Bool)
  /-- READ CUE LOGIC (R85). -/
  | cueLogic (lines : BitVec 24) (cells : List CellView) (pairs : List PairView) (outputs : List (OutputSelection × Bool))
  /-- READ PAIR (R85). -/
  | pair (enable : Bool) (mode : ElementMode) (revision : Byte) (even odd : CellConfig)
  /-- READ FILTER (R89). -/
  | filter (cfg : FilterConfig) (revision : Byte)
  /-- READ HIT (R97). -/
  | hit (record : HitRecord)
  /-- READ STRAYS (R101). -/
  | strays (entries : List Stray) (overruns : Nat)
  /-- TAKE STRAY (R100). -/
  | stray (entry : Stray) (left overruns : Nat)
  /-- READ AVAIL (R140). -/
  | avail (slot : Fin 64) (record : Avail)
  /-- READ LANE AVAILS (R140). -/
  | laneAvails (entries : List AvailView)
  /-- BOOK AVAIL (R120). -/
  | booked (handle : Handle) (disposition : Disposition) (outTick inTick : Tick) (frames : Nat) (claimClose : Tick)
  /-- CANCEL AVAIL (R133). -/
  | cancelled (state : AvailState) (inTick : Tick) (frames : Nat)
  /-- CLAIM (R142). -/
  | claimed (handle : Handle) (claimClose : Tick) (claims : Nat) (replaced : Bool)
  /-- WITHDRAW (R149). -/
  | withdrawn (effect : WithdrawEffect)
  /-- STAND (R145): the replaced flag. STAND PAUSE and STAND RESUME (R147): the flag's value before. -/
  | flag (b : Bool)
  /-- READ STANDING (R148). -/
  | standing (places : List (Option Standing))
  /-- READ WINDOW (R170). -/
  | window (cfg : WindowConfig) (revision : Byte) (isOpen : Bool) (remaining : Nat)
  /-- WRITE WINDOW (R164). -/
  | windowWritten (revision : Byte) (isOpen : Bool) (remaining : Nat)
  /-- READ ALERTS (R183). -/
  | alerts (slots : List (Option Alert)) (recency : List (Fin 4))
  /-- ALERT START (R172). -/
  | alertStarted (slot : Fin 4) (disposition : AlertDisposition) (start expiry : Tick) (displaced : Option Byte)
  /-- ALERT END (R177). -/
  | alertEnded (slot : Fin 4) (alert : Alert)
  deriving DecidableEq, Repr

/-- A reply (R199): the request code answered, the outcome and the body. -/
structure Reply where
  request : Byte
  outcome : ReplyCode
  body : ReplyBody
  deriving DecidableEq, Repr

/-- The item that a FETCH delivers (R191). -/
inductive Item where
  | reply (r : Reply)
  | notice (n : Notice)
  | empty
  deriving DecidableEq, Repr

/-! ## Client Port Controller (Chapter 12) -/

/-- A port record (R184). preamble is the snapshot of the port's latest select (R187); chosen is the item that the part is shifting out
after a FETCH's check byte (R191). -/
structure Port where
  role : Role := .scheduler
  state : PortState := .normal
  errors : Nat := 0
  reply : Option Reply := none
  queue : List Notice := []
  mask : BitVec 19 := 0
  quiet : Option Tick := none
  dropped : Nat := 0
  preamble : Option (Byte × Byte) := none
  chosen : Option Item := none
  deriving DecidableEq, Repr

/-! ## The whole part -/

/-- The state of the NK-4480, and the queue of the commands that wait for it, first in, first out. -/
structure State where
  /-- The station tick counter (R1). -/
  tick : Tick
  /-- A second boundary is due at this tick and has not been taken (R10, R13). -/
  boundaryDue : Bool
  /-- The calendar (R7). -/
  calendar : Calendar
  /-- The calendar phase (R10). -/
  calPhase : Nat
  /-- The lane records (R15, R16). -/
  lanes : Vector Lane 32
  /-- The outstanding records (R38). -/
  outstanding : Vector (Option Outstanding) 32
  /-- The outbound queue (R39). -/
  orderQueue : List OrderMsg
  /-- The tick at which the send of the queue's head began, none while the link is idle (R39). -/
  sending : Option Tick
  /-- The late-DONE count (R44). -/
  lateCount : Nat
  /-- The last-late record (R44). -/
  lastLate : Option LateAnswer
  /-- The order-link error count (R41). -/
  linkErrors : Nat
  /-- The last-error record of the order link (R41). -/
  lastLinkError : Option LinkError
  /-- The intake FIFO, oldest first (R54). -/
  fifo : List IntakeEntry
  /-- The feed reference table (R62). -/
  feedRefs : Vector FeedRef 32
  /-- The intake error count (R58). -/
  intakeErrors : Nat
  /-- The last-error record of the intake (R58). -/
  lastIntakeError : Option IntakeError
  /-- The intake overrun count (R56). -/
  overruns : Nat
  /-- The last-overrun tick (R56). -/
  lastOverrun : Option Tick
  /-- The cue line states, line k in bit k (R67). -/
  lines : BitVec 24
  /-- The logic cells (R68). -/
  cells : Vector Cell 12
  /-- The pair records and pair elements (R74, R79). -/
  pairs : Vector Pair 6
  /-- The cue output selections (R83). -/
  outputs : Vector OutputSelection 8
  /-- The filters with their hit records (R86, R87). -/
  filters : Vector Filter 48
  /-- The stray buffer, oldest first (R98). -/
  strays : List Stray
  /-- The stray overrun count (R98). -/
  strayOverruns : Nat
  /-- The avail table (R115). -/
  avails : Vector Avail 64
  /-- The standing-claim table, lane by lane, port by port (R144). -/
  standing : Vector (Vector (Option Standing) 4) 32
  /-- The windows (R157, R158). -/
  windows : Vector Window 16
  /-- The alert table (R171). -/
  alerts : Vector (Option Alert) 4
  /-- The recency order of the alert table, least recent first (R171). -/
  recency : List (Fin 4)
  /-- The port records (R184). -/
  ports : Vector Port 4
  /-- The commands that wait, first in, first out (the model's own). -/
  pending : List Instr
  deriving DecidableEq, Repr

/-- The state at the release of the power-on reset pin, with the roles latched from the straps and the cue lines as sampled (R1, R67,
R184). -/
def State.initial (roles : Vector Role 4) (lines : BitVec 24) : State where
  tick := 0
  boundaryDue := false
  calendar := {}
  calPhase := 0
  lanes := Vector.replicate 32 {}
  outstanding := Vector.replicate 32 none
  orderQueue := []
  sending := none
  lateCount := 0
  lastLate := none
  linkErrors := 0
  lastLinkError := none
  fifo := []
  feedRefs := Vector.replicate 32 {}
  intakeErrors := 0
  lastIntakeError := none
  overruns := 0
  lastOverrun := none
  lines := lines
  cells := Vector.replicate 12 {}
  pairs := Vector.replicate 6 {}
  outputs := Vector.replicate 8 .low
  filters := Vector.replicate 48 {}
  strays := []
  strayOverruns := 0
  avails := Vector.replicate 64 {}
  standing := Vector.replicate 32 (Vector.replicate 4 none)
  windows := Vector.replicate 16 {}
  alerts := Vector.replicate 4 none
  recency := []
  ports := #v[{ role := roles[0] }, { role := roles[1] }, { role := roles[2] }, { role := roles[3] }]
  pending := []

/-- The part right after reset. DESIGN CHOICE, unsafe: the pins are inputs, which no rule gives a value; here every strap pin is low, so
that every port is a SCHEDULER (R184), and every cue line is low. POWER_ON_RESET takes any levels of these pins. -/
def State.reset : State := State.initial (Vector.replicate 4 .scheduler) 0

/-- The reasons a command can stop the machine with a fault. The manual gives no command such an end (an order's fault, a lane fault and a
malformed frame are effects on State), so there is none. -/
inductive Fault where
  deriving DecidableEq, Repr

/-- The reasons a command can be refused by the model. -/
inductive Refusal where
  /-- Raised by exec for a command that has no meaning yet, which its row's mnemonic names. Safe: the model stops. -/
  | notModelled (mnemonic : String)
  deriving DecidableEq, Repr

/-- What a command answers. -/
abbrev Result := Host.Outcome State Fault Refusal

end Sys2Proof.Machine
end

