-- ==== Sys2Proof/Machine/Time.lean ====
section
/-! DEFINITION. Station time: the comparison of ticks (R3), the frame grid (R5, R6) and the calendar's count (R8, R9). -/

namespace Sys2Proof.Machine

/-! ## Comparing and moving ticks -/

/-- The signed difference a - b of two station times (R3). -/
def sdiff (a b : Tick) : Int := (a - b).toInt

/-- a is later than b (R3). -/
def later (a b : Tick) : Bool := decide (0 < sdiff a b)

/-- a is at or after b (R3). -/
def atOrAfter (a b : Tick) : Bool := decide (0 ≤ sdiff a b)

/-- The later of two ticks. -/
def maxTick (a b : Tick) : Tick := if later a b then a else b

/-- The earlier of two ticks. -/
def minTick (a b : Tick) : Tick := if later a b then b else a

/-- A tick n ticks after t, reduced modulo 2^48 (R3). -/
def addTicks (t : Tick) (n : Nat) : Tick := t + BitVec.ofNat 48 n

/-- A tick n ticks before t, reduced modulo 2^48 (R3). -/
def subTicks (t : Tick) (n : Nat) : Tick := t - BitVec.ofNat 48 n

/-! ## The frame grid -/

/-- The period of a cadence in ticks (R5's table). -/
def period : Cadence → Nat
  | .c25 => 7200
  | .c2997 => 6006
  | .c30 => 6000
  | .c50 => 3600
  | .c5994 => 3003
  | .c60 => 3000

/-- The period of a lane. -/
def Lane.period (L : Lane) : Nat := Machine.period L.cfg.cadence

/-- t is a boundary of the grid of period p and phase φ (R5). -/
def onGrid (p φ : Nat) (t : Tick) : Bool := decide (((t.toNat : Int) - φ) % p = 0)

/-- R6's sum for the boundary at or after a whole number of ticks: n + ((φ - n) mod p), not yet reduced modulo 2^48. -/
def gridSum (p φ n : Nat) : Nat := n + (((φ : Int) - n) % p).toNat

/-- The boundary at or after t (R6). Where R6's sum crosses the wrap of the counter it is the first boundary after the wrap: R5 says that a
boundary computed across the wrap is a boundary of the grid as it stands after it. DEDUCED, unsafe (log entry 6): the bare reduced sum would
lie off the grid, where R5, R30, R107 and R111 say that the result never lies, and a later boundary would lie further off than R30 and R107
allow. -/
def boundaryAtOrAfter (p φ : Nat) (t : Tick) : Tick :=
  let x := gridSum p φ t.toNat
  BitVec.ofNat 48 (if x < 2 ^ 48 then x else gridSum p φ 0)

/-- The boundary strictly after t (R6). -/
def boundaryAfter (p φ : Nat) (t : Tick) : Tick := boundaryAtOrAfter p φ (addTicks t 1)

/-- The whole number at or before n that is φ and whole periods of p (R107): φ + q × p with q the floor of (n - φ) ÷ p. -/
def gridFloor (p φ n : Nat) : Int := n - ((n : Int) - φ) % p

/-- The boundary at or before t (R107). Where it would lie below 0 it is the last boundary before the wrap of the counter (R5). DEDUCED,
unsafe (log entry 6). -/
def boundaryAtOrBefore (p φ : Nat) (t : Tick) : Tick :=
  let x := gridFloor p φ t.toNat
  BitVec.ofInt 48 (if 0 ≤ x then x else gridFloor p φ (2 ^ 48 - 1))

/-- The boundary n whole periods after the boundary t; where the sum crosses the wrap of the counter, the boundary at or after the reduced
sum (R6). -/
def addPeriods (p φ : Nat) (t : Tick) (n : Nat) : Tick :=
  let x := t.toNat + n * p
  if x < 2 ^ 48 then BitVec.ofNat 48 x else boundaryAtOrAfter p φ (BitVec.ofNat 48 x)

/-- The boundary nearest to the anchor S, an exact half going to the later one (R107). -/
def alignBoundary (p φ : Nat) (S : Tick) : Tick :=
  if 2 * (((S.toNat : Int) - φ) % p) < p then boundaryAtOrBefore p φ S else boundaryAtOrAfter p φ S

/-- The whole frames of period p from tick a to a later tick b, rounded down (R109). -/
def framesBetween (p : Nat) (a b : Tick) : Nat := (sdiff b a).toNat / p

/-- A duration of d ticks in whole frames, rounded to the nearest, an exact half going up (R108). -/
def roundFrames (p d : Nat) : Nat := if 2 * (d % p) ≥ p then d / p + 1 else d / p

/-- The clamp of R108. -/
def clampFrames (n : Nat) : Nat := min (max n 1) Config.maxFrames

/-! ## The calendar -/

/-- Leap years from 2000 to 2199 (R8). -/
def leapYear (y : Nat) : Bool := decide (y % 4 = 0 ∧ y ≠ 2100)

/-- The length of a month (R8). -/
def monthLength (y m : Nat) : Nat :=
  if m = 2 then (if leapYear y then 29 else 28)
  else if m = 4 ∨ m = 6 ∨ m = 9 ∨ m = 11 then 30
  else 31

/-- The calendar one day later at midnight: the carries of R9 from day of week upward. -/
def Calendar.nextDay (c : Calendar) : Calendar :=
  let dow := if c.dow + 1 = 8 then 1 else c.dow + 1
  if c.day + 1 ≤ monthLength c.year c.month then { c with day := c.day + 1, dow := dow }
  else if c.month + 1 ≤ 12 then { c with day := 1, month := c.month + 1, dow := dow }
  else { c with day := 1, month := 1, year := if c.year + 1 = 2200 then 2000 else c.year + 1, dow := dow }

/-- The calendar one second later (R9). -/
def Calendar.advance (c : Calendar) : Calendar :=
  if c.second + 1 < 60 then { c with second := c.second + 1 }
  else if c.minute + 1 < 60 then { c with second := 0, minute := c.minute + 1 }
  else if c.hour + 1 < 24 then { c with second := 0, minute := 0, hour := c.hour + 1 }
  else { c.nextDay with second := 0, minute := 0, hour := 0 }

/-- The counter stands on the calendar phase (R10). -/
def onCalendarPhase (t : Tick) (phase : Nat) : Bool :=
  decide (((t.toNat : Int) - phase) % Config.ticksPerSecond = 0)

/-- Ticks since the last tick on the calendar phase (R11). -/
def intoSecond (t : Tick) (phase : Nat) : Nat := (((t.toNat : Int) - phase) % Config.ticksPerSecond).toNat

end Sys2Proof.Machine
end

