-- ==== Sys2Proof/Machine/Flags.lean ====
section
/-! DEFINITION. The accessors of State's tables, and the flags and output levels that follow from State: attention, ready, the status
preamble, staleness, LANE_OUT, ALERT_ANY, covering, and the levels of the cue outputs. -/

namespace Sys2Proof.Machine

/-! ## Reading and updating one record of a table -/

/-- The record of a lane. -/
def State.lane (s : State) (l : Fin 32) : Lane := s.lanes[l.val]

/-- The outstanding record of a lane (R38). -/
def State.order (s : State) (l : Fin 32) : Option Outstanding := s.outstanding[l.val]

/-- The reference of a feed (R62). -/
def State.feedRef (s : State) (f : Fin 32) : FeedRef := s.feedRefs[f.val]

/-- A logic cell. -/
def State.cell (s : State) (n : Fin 12) : Cell := s.cells[n.val]

/-- A pair record. -/
def State.pair (s : State) (k : Fin 6) : Pair := s.pairs[k.val]

/-- A cue output's selection. -/
def State.output (s : State) (o : Fin 8) : OutputSelection := s.outputs[o.val]

/-- A filter. -/
def State.filter (s : State) (f : Fin 48) : Filter := s.filters[f.val]

/-- The avail record of a slot. -/
def State.avail (s : State) (i : Fin 64) : Avail := s.avails[i.val]

/-- The standing-claim place of a lane and a port (R144). -/
def State.place (s : State) (l : Fin 32) (p : Fin 4) : Option Standing := s.standing[l.val][p.val]

/-- A window. -/
def State.window (s : State) (w : Fin 16) : Window := s.windows[w.val]

/-- An alert slot. -/
def State.alert (s : State) (a : Fin 4) : Option Alert := s.alerts[a.val]

/-- A port record. -/
def State.port (s : State) (p : Fin 4) : Port := s.ports[p.val]

/-- Change a lane's record. -/
def State.updLane (s : State) (l : Fin 32) (f : Lane → Lane) : State := { s with lanes := s.lanes.set l.val (f (s.lane l)) l.isLt }

/-- Set or remove a lane's outstanding record. -/
def State.setOrder (s : State) (l : Fin 32) (o : Option Outstanding) : State :=
  { s with outstanding := s.outstanding.set l.val o l.isLt }

/-- Replace a feed's reference. -/
def State.setFeedRef (s : State) (f : Fin 32) (r : FeedRef) : State := { s with feedRefs := s.feedRefs.set f.val r f.isLt }

/-- Change a cell. -/
def State.updCell (s : State) (n : Fin 12) (f : Cell → Cell) : State := { s with cells := s.cells.set n.val (f (s.cell n)) n.isLt }

/-- Change a pair. -/
def State.updPair (s : State) (k : Fin 6) (f : Pair → Pair) : State := { s with pairs := s.pairs.set k.val (f (s.pair k)) k.isLt }

/-- Replace a cue output's selection. -/
def State.setOutput (s : State) (o : Fin 8) (x : OutputSelection) : State := { s with outputs := s.outputs.set o.val x o.isLt }

/-- Change a filter. -/
def State.updFilter (s : State) (i : Fin 48) (f : Filter → Filter) : State :=
  { s with filters := s.filters.set i.val (f (s.filter i)) i.isLt }

/-- Change an avail record. -/
def State.updAvail (s : State) (i : Fin 64) (f : Avail → Avail) : State :=
  { s with avails := s.avails.set i.val (f (s.avail i)) i.isLt }

/-- Fill or vacate a standing-claim place. -/
def State.setPlace (s : State) (l : Fin 32) (p : Fin 4) (x : Option Standing) : State :=
  { s with standing := s.standing.set l.val (s.standing[l.val].set p.val x p.isLt) l.isLt }

/-- Change a window. -/
def State.updWindow (s : State) (w : Fin 16) (f : Window → Window) : State :=
  { s with windows := s.windows.set w.val (f (s.window w)) w.isLt }

/-- Fill or empty an alert slot. -/
def State.setAlert (s : State) (a : Fin 4) (x : Option Alert) : State := { s with alerts := s.alerts.set a.val x a.isLt }

/-- Change a port record. -/
def State.updPort (s : State) (p : Fin 4) (f : Port → Port) : State := { s with ports := s.ports.set p.val (f (s.port p)) p.isLt }

/-! ## Saturating counts -/

/-- A count that stays at its maximum. -/
def satInc (max n : Nat) : Nat := min (n + 1) max

/-! ## Avails and alerts -/

/-- Not EMPTY and not final (R117). -/
def Avail.live (a : Avail) : Bool :=
  match a.state with
  | .armed | .closed | .out | .returning => true
  | .empty | .ended | .cancelled | .missed => false

/-- ENDED, CANCELLED or MISSED (R117). -/
def Avail.final (a : Avail) : Bool :=
  match a.state with
  | .ended | .cancelled | .missed => true
  | .empty | .armed | .closed | .out | .returning => false

/-- OUT or RETURNING (R117). -/
def Avail.airing (a : Avail) : Bool :=
  match a.state with
  | .out | .returning => true
  | .empty | .armed | .closed | .ended | .cancelled | .missed => false

/-- The alert covers a lane of this zone (R171). ALL is all 16 zones. -/
def Alert.covers (a : Alert) (zone : Fin 16) : Bool := a.zones.getLsbD zone.val

/-- The LANE_OUT input of a lane (R69, R117). -/
def State.laneOut (s : State) (l : Fin 32) : Bool :=
  (List.finRange 64).any fun i => (s.avail i).airing && decide ((s.avail i).lane = l)

/-- The number of active alerts (R171). -/
def State.alertsActive (s : State) : Nat := ((List.finRange 4).filter fun a => (s.alert a).isSome).length

/-- The ALERT_ANY input (R69). -/
def State.alertAny (s : State) : Bool := (List.finRange 4).any fun a => (s.alert a).isSome

/-! ## Feed references -/

/-- A reference is stale at now (R62). -/
def FeedRef.stale (r : FeedRef) (now : Tick) : Bool := r.valid && decide (sdiff now r.station > Config.refStale)

/-! ## The cue logic's signals -/

/-- The pair of a cell: cells 2k and 2k+1 form pair k. -/
def pairOf (n : Fin 12) : Fin 6 := ⟨n.val / 2, by omega⟩

/-- The even cell of a pair. -/
def evenCell (k : Fin 6) : Fin 12 := ⟨2 * k.val, by omega⟩

/-- The odd cell of a pair. -/
def oddCell (k : Fin 6) : Fin 12 := ⟨2 * k.val + 1, by omega⟩

/-- The cell that LINK reads (R69). -/
def linkCell (n : Fin 12) : Fin 12 := ⟨(n.val + 1) % 12, by omega⟩

/-- The filtered output of a cell, low while its pair is disabled (R68, R69). -/
def State.filteredOut (s : State) (n : Fin 12) : Bool := (s.pair (pairOf n)).enable && (s.cell n).filtered

/-- The output of a pair element, low while its pair is disabled (R82, R83). -/
def State.elementOut (s : State) (k : Fin 6) : Bool := (s.pair k).enable && (s.pair k).output

/-- The level that a cue output drives (R83). -/
def State.outputLevel (s : State) (o : Fin 8) : Bool :=
  match s.output o with
  | .low => false
  | .cell n => s.filteredOut n
  | .pair k => s.elementOut k

/-! ## Outputs of the links -/

/-- The ready output of the cue intake link (R55). -/
def State.ready (s : State) : Bool := decide (s.fifo.length < Config.fifoDepth)

/-- The attention output of a port (R193). -/
def State.attention (s : State) (p : Fin 4) : Bool := (s.port p).reply.isSome || !(s.port p).queue.isEmpty

/-- The code of a port state in the preamble (R199). -/
def portStateCode : PortState → Byte
  | .normal => 0
  | .caution => 1
  | .detached => 2

/-- The two preamble bytes that show a port as it stands (R187, R199). -/
def Port.preambleBytes (P : Port) : Byte × Byte :=
  (portStateCode P.state * 64 + (if P.reply.isSome then 32 else 0) + (if P.queue.isEmpty then 0 else 16) + (if P.quiet.isSome then 8 else 0),
    BitVec.ofNat 8 P.queue.length)

/-- The item that a FETCH chooses from a port as it stands (R191). -/
def Port.choose (P : Port) : Item :=
  match P.reply with
  | some r => .reply r
  | none =>
    match P.queue with
    | n :: _ => .notice n
    | [] => .empty

/-- A notice's kind (R198). -/
def Notice.kind : Notice → Nat
  | .availNew .. => 1
  | .availRetimed .. => 2
  | .claimWon .. => 3
  | .claimLost .. => 4
  | .spliceOut .. => 5
  | .spliceIn .. => 6
  | .availEnd .. => 7
  | .availMissed .. => 8
  | .availCancelled .. => 9
  | .cueHit .. => 10
  | .stray .. => 11
  | .windowOpen .. => 12
  | .windowClose .. => 13
  | .alertBegin .. => 14
  | .alertEnd .. => 15
  | .laneFault .. => 16
  | .laneState .. => 17
  | .portState .. => 18
  | .calendarSet .. => 19

/-- The port's subscription mask includes the notice's kind (R192, R198). -/
def Port.subscribed (P : Port) (n : Notice) : Bool := P.mask.getLsbD (n.kind - 1)

end Sys2Proof.Machine
end

