-- ==== Sys2Proof/Machine/Operands.lean ====
section
/-! DEFINITION. The operand forms of the requests: the codes of the named values on the links (R198), and the range checks that turn a
request's raw fields into the values of State. None of these answers is where the request is refused RANGE. -/

namespace Sys2Proof.Machine

/-- A number below n as an index. -/
def toFin (n : Nat) (b : Byte) : Option (Fin n) := if h : b.toNat < n then some ⟨b.toNat, h⟩ else none

/-- A field of values 0 and 1. -/
def toFlag (b : Byte) : Option Bool :=
  match b.toNat with
  | 0 => some false
  | 1 => some true
  | _ => none

/-- A number that must lie within lo to hi. -/
def within (lo hi n : Nat) : Option Nat := if lo ≤ n ∧ n ≤ hi then some n else none

/-- An optional field whose value passes a check. -/
def OptField.check {α β : Type} (f : α → Option β) : OptField α → Option (Option β)
  | .absent => some none
  | .given a => (f a).map some
  | .undefinedPresence _ => none

/-! ## Codes of named values -/

/-- The source of a code (R198). 255 is UNKNOWN, which no request can ask for. -/
def sourceOf (b : Byte) : Option Source :=
  match b.toNat with
  | 0 => some .net
  | 17 => some .alertA
  | 18 => some .alertB
  | 19 => some .fill
  | n => if h : 1 ≤ n ∧ n ≤ 16 then some (.ins ⟨n - 1, by omega⟩) else none

/-- A source that a claim or a window may name: INS0 to INS15 or FILL (R141, R157). -/
def spotSourceOf (b : Byte) : Option Source :=
  match sourceOf b with
  | some (.ins n) => some (.ins n)
  | some .fill => some .fill
  | _ => none

/-- A source that an alert may name: ALERT_A or ALERT_B (R172). -/
def alertSourceOf (b : Byte) : Option Source :=
  match sourceOf b with
  | some .alertA => some .alertA
  | some .alertB => some .alertB
  | _ => none

/-- Cadence codes, in the order of R5's table. -/
def cadenceOf (b : Byte) : Option Cadence :=
  match b.toNat with
  | 0 => some .c25
  | 1 => some .c2997
  | 2 => some .c30
  | 3 => some .c50
  | 4 => some .c5994
  | 5 => some .c60
  | _ => none

/-- Cue kinds (R200). -/
def cueKindOf (b : Byte) : Option CueKind :=
  match b.toNat with
  | 0 => some .out
  | 1 => some .ret
  | 2 => some .cancel
  | 3 => some .mark
  | _ => none

/-- Fabric codes (R201). -/
def fabricCodeOf (b : Byte) : Option FabricCode :=
  match b.toNat with
  | 1 => some .sourceUnavailable
  | 2 => some .laneUnavailable
  | 3 => some .tooLate
  | _ => none

/-- Input selectors (R198): the number is 0 where the kind has none. -/
def selectorOf (r : RawSelector) : Option Selector :=
  match r.kind.toNat with
  | 0 => if r.number = 0 then some .low else none
  | 1 => (toFin 24 r.number).map .line
  | 2 => if r.number = 0 then some .link else none
  | 3 => if r.number = 0 then some .pair else none
  | 4 => (toFin 32 r.number).map .laneOut
  | 5 => if r.number = 0 then some .alertAny else none
  | _ => none

/-- Cue output selections (R198). -/
def outputSelectionOf (r : RawSelector) : Option OutputSelection :=
  match r.kind.toNat with
  | 0 => if r.number = 0 then some .low else none
  | 1 => (toFin 12 r.number).map .cell
  | 2 => (toFin 6 r.number).map .pair
  | _ => none

/-- Emission edges, in the order of R68. -/
def emitEdgeOf (b : Byte) : Option EmitEdge :=
  match b.toNat with
  | 0 => some .none
  | 1 => some .rising
  | 2 => some .falling
  | 3 => some .both
  | _ => none

/-- Emission sources, in the order of R68. -/
def emitSourceOf (b : Byte) : Option EmitSource :=
  match b.toNat with
  | 0 => some .filtered
  | 1 => some .pair
  | _ => none

/-- Element modes, in the order of R74. -/
def elementModeOf (b : Byte) : Option ElementMode :=
  match b.toNat with
  | 0 => some .off
  | 1 => some .follow
  | 2 => some .setReset
  | 3 => some .capture
  | 4 => some .toggle
  | _ => none

/-- Filter origins, in the order of R86. -/
def originMatchOf (b : Byte) : Option OriginMatch :=
  match b.toNat with
  | 0 => some .inband
  | 1 => some .cell
  | 2 => some .any
  | _ => none

/-- Filter actions, in the order of R86. -/
def filterActionOf (b : Byte) : Option FilterAction :=
  match b.toNat with
  | 0 => some .arm
  | 1 => some .forward
  | 2 => some .drop
  | _ => none

/-- Window types, in the order of R157. -/
def windowTypeOf (b : Byte) : Option WindowType :=
  match b.toNat with
  | 0 => some .insert
  | 1 => some .blackout
  | _ => none

/-- A feed, hour, minute or second field: 255 is ANY (R198), which is none here. -/
def anyOr {α : Type} (f : Byte → Option α) (b : Byte) : Option (Option α) :=
  if b = 255 then some none else (f b).map some

/-! ## Straps -/

/-- The role that a port's two straps give (R184): the second pin stands first. -/
def roleOfStraps (second first : Bool) : Role :=
  match second, first with
  | false, false => .scheduler
  | false, true => .inserter
  | true, false => .alert
  | true, true => .observer

/-- The roles of the four ports from the eight strap pins: bit 2p is port p's first pin, bit 2p+1 its second. -/
def rolesOfStraps (straps : BitVec 8) : Vector Role 4 :=
  #v[roleOfStraps (straps.getLsbD 1) (straps.getLsbD 0), roleOfStraps (straps.getLsbD 3) (straps.getLsbD 2),
    roleOfStraps (straps.getLsbD 5) (straps.getLsbD 4), roleOfStraps (straps.getLsbD 7) (straps.getLsbD 6)]

/-! ## Bodies -/

/-- The calendar that SET CALENDAR gives, when every field is within R12's bounds. -/
def calendarOf (r : RawCalendar) : Option Calendar := do
  let year ← within 2000 2199 r.year.toNat
  let month ← within 1 12 r.month.toNat
  let day ← within 1 (monthLength year month) r.day.toNat
  let hour ← within 0 23 r.hour.toNat
  let minute ← within 0 59 r.minute.toNat
  let second ← within 0 59 r.second.toNat
  let dow ← within 1 7 r.dow.toNat
  return { year, month, day, hour, minute, second, dow }

/-- The lane, its configuration and the expected revision of WRITE LANE, when every field is within R15's ranges (R18, check 1). -/
def laneWriteOf (r : RawLane) : Option (Fin 32 × LaneConfig × Option Byte) := do
  let lane ← toFin 32 r.lane
  let enable ← toFlag r.enable
  let feed ← toFin 32 r.feed
  let zone ← toFin 16 r.zone
  let cadence ← cadenceOf r.cadence
  let phase ← within 0 (period cadence - 1) r.phase.toNat
  let pathDelay ← within 0 1800000 r.pathDelay.toNat
  let claimLead ← within 90000 1800000 r.claimLead.toNat
  let lateGrace ← within 0 180000 r.lateGrace.toNat
  let ceiling ← within 1 3600 r.ceiling.toNat
  let ackGrace ← within 1800 180000 r.ackGrace.toNat
  let expected ← OptField.check some r.expected
  return (lane, { enable, feed, zone, cadence, phase, pathDelay, claimLead, lateGrace, ceiling, ackGrace }, expected)

/-- A cell's configuration, when every field is within R68's ranges. -/
def cellConfigOf (r : RawCell) : Option CellConfig := do
  let input0 ← selectorOf r.input0
  let input1 ← selectorOf r.input1
  let input2 ← selectorOf r.input2
  let edge ← emitEdgeOf r.edge
  let source ← emitSourceOf r.source
  let feed ← toFin 32 r.feed
  let kind ← cueKindOf r.kind
  let lead ← within 0 Config.maxLead r.lead.toNat
  return { input0, input1, input2, table := r.table, settle := r.settle.toNat, edge, source, feed, kind, cls := r.cls, lead }

/-- The body of WRITE PAIR, when every field is within range (R80, check 1): pair, mode, even cell, odd cell, expected revision. -/
def pairWriteOf (r : RawPair) : Option (Fin 6 × ElementMode × CellConfig × CellConfig × Option Byte) := do
  let pair ← toFin 6 r.pair
  let mode ← elementModeOf r.mode
  let even ← cellConfigOf r.even
  let odd ← cellConfigOf r.odd
  let expected ← OptField.check some r.expected
  return (pair, mode, even, odd, expected)

/-- The body of ENABLE PAIR, when every field is within range (R81). -/
def enableWriteOf (r : RawEnable) : Option (Fin 6 × Bool × Option Byte) := do
  let pair ← toFin 6 r.pair
  let enable ← toFlag r.enable
  let expected ← OptField.check some r.expected
  return (pair, enable, expected)

/-- The body of SET CUE OUTPUT, when every field is within range (R84). -/
def outputWriteOf (r : RawOutput) : Option (Fin 8 × OutputSelection) := do
  let output ← toFin 8 r.output
  let selection ← outputSelectionOf r.selection
  return (output, selection)

/-- The body of WRITE FILTER, when every field is within range (R88, check 1). -/
def filterWriteOf (r : RawFilter) : Option (Fin 48 × FilterConfig × Option Byte) := do
  let filter ← toFin 48 r.filter
  let enable ← toFlag r.enable
  let feed ← anyOr (toFin 32) r.feed
  let kinds ← within 0 15 r.kinds.toNat
  let origin ← originMatchOf r.origin
  let action ← filterActionOf r.action
  let notify ← toFlag r.notify
  let _ ← within r.classLow.toNat 255 r.classHigh.toNat
  let expected ← OptField.check some r.expected
  return (filter,
    { enable, feed, kinds := BitVec.ofNat 4 kinds, idValue := r.idValue, idMask := r.idMask, classLow := r.classLow,
      classHigh := r.classHigh, origin, action, notify, lanes := r.lanes }, expected)

/-- The body of WRITE WINDOW, when every field is within range (R164, check 1). -/
def windowWriteOf (r : RawWindow) : Option (Fin 16 × WindowConfig × Option Byte) := do
  let window ← toFin 16 r.window
  let enable ← toFlag r.enable
  let type ← windowTypeOf r.type
  let days ← within 0 127 r.days.toNat
  let hour ← anyOr (fun b => within 0 23 b.toNat) r.hour
  let minute ← anyOr (fun b => within 0 59 b.toNat) r.minute
  let second ← anyOr (fun b => within 0 59 b.toNat) r.second
  let duration ← within 1 86400 r.duration.toNat
  let source ← spotSourceOf r.source
  let expected ← OptField.check some r.expected
  return (window,
    { enable, type, days := BitVec.ofNat 7 days, hour, minute, second, duration, lanes := r.lanes, source }, expected)

/-- Spot frames, 1 to 1,048,575 when they are given (R141). -/
def spotOf (r : OptField (BitVec 32)) : Option (Option Nat) := OptField.check (fun b => within 1 Config.maxFrames b.toNat) r

/-- The claim that CLAIM asks for, when its rank, source and spot frames are within range (R142, check 1). -/
def claimOf (port : Fin 4) (r : RawClaim) : Option Claim := do
  let rank ← within 0 Config.maxRank r.rank.toNat
  let source ← spotSourceOf r.source
  let spot ← spotOf r.spot
  return { port, rank, source, spot }

/-- The lane and the standing claim that STAND asks for, when every field is within range (R145). -/
def standOf (r : RawStand) : Option (Fin 32 × Standing) := do
  let lane ← toFin 32 r.lane
  let rank ← within 0 Config.maxRank r.rank.toNat
  let source ← spotSourceOf r.source
  let spot ← spotOf r.spot
  return (lane, { rank, source, spot, paused := false })

/-- The level, source and duration in seconds of ALERT START, when every field is within range (R172). -/
def alertOf (r : RawAlert) : Option (Nat × Source × Nat) := do
  let _ ← within 1 255 r.id.toNat
  let level ← within 1 3 r.level.toNat
  let source ← alertSourceOf r.source
  let duration ← within 1 7200 r.duration.toNat
  if r.zones = 0 then none else return (level, source, duration)

/-- The subscription mask of SUBSCRIBE, when it names no undefined kind (R194). -/
def maskOf (m : BitVec 24) : Option (BitVec 19) := if m.toNat < 2 ^ 19 then some (BitVec.ofNat 19 m.toNat) else none

end Sys2Proof.Machine
end

