-- ==== Sys2Proof/Machine/Ops.lean ====
section
/-! DEFINITION. The operations that several commands share: notices and replies (Chapter 12), owner resolution and the commit of
transitions (Chapter 2), the endings and the re-timing of avails (Chapter 8), and the outcomes of orders (Chapter 3). -/

namespace Sys2Proof.Machine

/-! ## Notices (R192) -/

/-- A port's part in a raised notice: queued, dropped and counted when the queue is full, and passed over in DETACHED (R192). -/
def Port.receive (P : Port) (n : Notice) (addressed : Bool) : Port :=
  if (addressed || P.subscribed n) = false then P
  else if P.state = .detached then P
  else if Config.noticeDepth ≤ P.queue.length then { P with dropped := satInc Config.smallCountMax P.dropped }
  else { P with queue := P.queue ++ [n] }

/-- Raise a notice to every subscribed port and to the ports it is addressed to, one copy each (R192). -/
def raise (n : Notice) (addressed : List (Fin 4)) (s : State) : State :=
  { s with
    ports := #v[(s.port 0).receive n (addressed.contains 0), (s.port 1).receive n (addressed.contains 1),
      (s.port 2).receive n (addressed.contains 2), (s.port 3).receive n (addressed.contains 3)] }

/-- Raise LANE_STATE for a lane as it stands (R26). -/
def raiseLaneState (l : Fin 32) (cause : LaneCause) (s : State) : State :=
  let L := s.lane l
  raise (.laneState l cause L.state L.owner L.confirmed L.faultReason s.tick) [] s

/-! ## Requests (R185, R188, R189) -/

/-- The code of a request (12.6). -/
def reqCode : Req → Byte
  | .status => 1 | .fetch => 2 | .subscribe => 3 | .rejoin => 4 | .readTime => 5 | .setCalendar => 6 | .readLane => 7
  | .writeLane => 8 | .laneReset => 9 | .readOrderLink => 10 | .readIntake => 11 | .readFeed => 12 | .readCueLogic => 13
  | .readPair => 14 | .writePair => 15 | .enablePair => 16 | .setCueOutput => 17 | .readFilter => 18 | .writeFilter => 19
  | .readHit => 20 | .readStrays => 21 | .takeStray => 22 | .readAvail => 23 | .readLaneAvails => 24 | .bookAvail => 25
  | .cancelAvail => 26 | .release => 27 | .claim => 28 | .withdraw => 29 | .stand => 30 | .standClear => 31 | .standPause => 32
  | .standResume => 33 | .readStanding => 34 | .readWindow => 35 | .writeWindow => 36 | .readAlerts => 37 | .alertStart => 38
  | .alertEnd => 39

/-- A role may send a request (R185). -/
def permitted (role : Role) : Req → Bool
  | .writeLane | .laneReset | .setCalendar | .writePair | .enablePair | .setCueOutput | .writeFilter | .writeWindow | .bookAvail
  | .cancelAvail => role = .scheduler
  | .takeStray => role = .scheduler || role = .inserter
  | .claim | .withdraw | .release | .stand | .standClear | .standPause | .standResume => role = .inserter
  | .alertStart | .alertEnd => role = .alert
  | .status | .fetch | .subscribe | .rejoin | .readTime | .readLane | .readOrderLink | .readIntake | .readFeed | .readCueLogic
  | .readPair | .readFilter | .readHit | .readStrays | .readAvail | .readLaneAvails | .readStanding | .readWindow | .readAlerts => true

/-- A request that a DETACHED port may have executed, besides FETCH (R188, step 3). -/
def takenDetached : Req → Bool
  | .status | .fetch | .rejoin => true
  | _ => false

/-- The port state after a change of the error count to n (R189). -/
def portStateAfter (before : PortState) (n : Nat) : PortState :=
  match before with
  | .detached => .detached
  | .normal => if n = Config.detachCount then .detached else if Config.cautionCount ≤ n then .caution else .normal
  | .caution => if n = Config.detachCount then .detached else if n < Config.normalCount then .normal else .caution

/-- Set a port's error count, and bring its state up to date where that is not a detach, raising PORT_STATE on a change (R189, R196). -/
def setErrors (p : Fin 4) (n : Nat) (s : State) : State :=
  let before := (s.port p).state
  let after := portStateAfter before n
  let s1 := s.updPort p fun P => { P with errors := n, state := after }
  if after = before then s1 else raise (.portState p before after n .frame s.tick) [p] s1

/-- The form step of a well-formed frame: the error count falls by one and the port state follows; in DETACHED the count stays (R188, step
1). The select has ended, so no item is being shifted out. -/
def goodFrame (p : Fin 4) (s : State) : State :=
  let s1 := s.updPort p fun P => { P with chosen := none }
  if (s1.port p).state = .detached then s1 else setErrors p ((s1.port p).errors - 1) s1

/-- Place a reply in a port's slot. -/
def answer (p : Fin 4) (r : Req) (code : ReplyCode) (body : ReplyBody) (s : State) : State :=
  s.updPort p fun P => { P with reply := some { request := reqCode r, outcome := code, body } }

/-- What the block that owns a request answers: the outcome, the reply's body and the state it leaves. -/
structure Answer where
  code : ReplyCode
  body : ReplyBody
  state : State

/-- The answer of a request that changes nothing. -/
def refuse (code : ReplyCode) (s : State) : Answer := { code, body := .none, state := s }

/-- Take a well-formed frame that carries a request other than FETCH (R188). The block's answer is placed in the slot, which keeps it apart
from the notices that the block raises. -/
def takeRequest (p : Fin 4) (r : Req) (act : State → Answer) (s : State) : State :=
  let s1 := goodFrame p s
  if (s1.port p).reply.isSome then s1
  else if (s1.port p).state = .detached ∧ takenDetached r = false then answer p r .detached .none s1
  else if permitted (s1.port p).role r = false then answer p r .role .none s1
  else answer p r (act s1).code (act s1).body (act s1).state

/-! ## Avails: names, notices and endings -/

/-- The handle of the avail in a slot. -/
def State.handleOf (s : State) (i : Fin 64) : Handle := { slot := i, gen := (s.avail i).gen }

/-- The slot that a request's handle names (R116). -/
def lookup (h : RawHandle) (s : State) : Except ReplyCode (Fin 64) :=
  match toFin 64 h.slot with
  | none => .error .range
  | some i => if (s.avail i).state = .empty ∨ (s.avail i).gen ≠ h.gen then .error .unknown else .ok i

/-- What every avail notice carries (R139). -/
def State.head (s : State) (i : Fin 64) : AvailHead :=
  { handle := s.handleOf i, lane := (s.avail i).lane, eventId := (s.avail i).eventId, tick := s.tick }

/-- The holder's port, which receives an avail's notices whatever its mask (R138). -/
def Avail.addressed (a : Avail) : List (Fin 4) :=
  match a.holder with
  | some h => [h.port]
  | none => []

/-- Raise AVAIL_RETIMED for an avail as it stands (R139). -/
def raiseRetimed (i : Fin 64) (cause : RetimeCause) (s : State) : State :=
  let a := s.avail i
  raise (.availRetimed (s.head i) cause a.state a.outTick a.inTick a.frames a.provisional a.claimClose a.fillTick) a.addressed s

/-- The final notice of an avail that left the state left and stands final (R138, R139). -/
def raiseFinal (i : Fin 64) (left : AvailState) (r : FinalResult) (s : State) : State :=
  let a := s.avail i
  let n : FinalNotice :=
    { head := s.head i, reason := r, left := left, outTick := a.outTick, inTick := a.inTick, holder := a.holder, finalTick := s.tick }
  match a.state with
  | .ended => raise (.availEnd (s.head i) r a.outTick a.inTick a.frames a.holder s.tick) a.addressed s
  | .missed => raise (.availMissed n) a.addressed s
  | .cancelled => raise (.availCancelled n) a.addressed s
  | .empty | .armed | .closed | .out | .returning => s

/-- Make an avail final (R117) and raise its final notice. -/
def finish (i : Fin 64) (st : AvailState) (r : FinalResult) (s : State) : State :=
  raiseFinal i (s.avail i).state r
    (s.updAvail i fun a => { a with state := st, result := some r, finalTick := some s.tick, claims := [] })

/-- A preemption event (R135): it is disregarded unless the avail it names is in OUT. -/
def preempt (h : Handle) (s : State) : State :=
  if (s.avail h.slot).gen = h.gen ∧ (s.avail h.slot).state = .out then finish h.slot .ended .preempted s else s

/-- Make every non-final avail of a lane final, in ascending slot order (R136, R137). -/
def finishLane (l : Fin 32) (st : AvailState) (r : FinalResult) (s : State) : State :=
  (List.finRange 64).foldl (fun s i => if (s.avail i).live ∧ (s.avail i).lane = l then finish i st r s else s) s

/-! ## Lanes: the earliest effect, the commit and the owner -/

/-- The earliest effect of a lane at now (R30). -/
def earliestEffect (L : Lane) (now : Tick) : Tick :=
  let lead := addTicks now Config.orderLead
  let bound := match L.lastEffect with
    | none => lead
    | some e => maxTick lead (addTicks e L.period)
  boundaryAtOrAfter L.period L.cfg.phase bound

/-- Commit a transition (R31): the lane's committed order, its outstanding record with the acknowledgement timer, and the ORDER at the tail
of the outbound queue (R38, R39, R40). -/
def commit (l : Fin 32) (kind : StepKind) (target : Source) (effect : Tick) (avail : Option Handle) (s : State) : State :=
  let L := s.lane l
  let s1 := s.updLane l fun L =>
    { L with committed := some { seq := L.orderSeq, target, effect, commit := s.tick }, orderSeq := L.orderSeq + 1,
             lastEffect := some effect, planned := none }
  let s2 := s1.setOrder l (some { seq := L.orderSeq, target, effect, kind, avail, sent := false,
                                  ackExpiry := addTicks effect L.cfg.ackGrace })
  { s2 with orderQueue := s2.orderQueue ++ [{ lane := l, seq := L.orderSeq, target, effect }] }

/-- The alert that owns the lanes of a zone: the highest level, and among equals the most recent (R28, R171). -/
def coveringAlert (s : State) (zone : Fin 16) : Option (Fin 4 × Alert) :=
  s.recency.foldl (fun best a =>
    match s.alert a with
    | none => best
    | some A =>
      if A.covers zone then
        match best with
        | none => some (a, A)
        | some (_, B) => if B.level ≤ A.level then some (a, A) else best
      else best) none

/-- An open window of a type that includes the lane; the lowest-indexed one (R28, R124). -/
def openWindow (s : State) (t : WindowType) (l : Fin 32) : Option (Fin 16) :=
  (List.finRange 16).find? fun w =>
    (s.window w).isOpen && decide ((s.window w).cfg.type = t) && (s.window w).cfg.lanes.getLsbD l.val

/-- The avail in OUT on a lane, one avail left out (R28, R35). -/
def outAvail (s : State) (l : Fin 32) (without : Option Handle) : Option (Fin 64) :=
  (List.finRange 64).find? fun i =>
    decide ((s.avail i).state = .out) && decide ((s.avail i).lane = l) && decide (some (s.handleOf i) ≠ without)

/-- The target of an avail as owner: FILL once its FILL step has been committed, else the holder's source (R28, R35). -/
def Avail.target (a : Avail) : Source :=
  match a.fillStep with
  | .committed | .confirmed => .fill
  | .none | .waiting | .superseded =>
    match a.holder with
    | some h => h.source
    | none => .net

/-- The owner of a lane and its target, with one avail left out (R28). -/
def resolve (s : State) (l : Fin 32) (without : Option Handle) : Owner × Source :=
  match coveringAlert s (s.lane l).cfg.zone with
  | some (a, A) => (.alert a, A.source)
  | none =>
    match openWindow s .insert l with
    | some w => (.window w, (s.window w).cfg.source)
    | none =>
      match outAvail s l without with
      | some i => (.avail (s.handleOf i), (s.avail i).target)
      | none => (.network, .net)

/-- Make an OWNER transition the planned transition of a lane with a committed order (R32). -/
def planOwner (l : Fin 32) (c : Committed) (target : Source) (s : State) : State :=
  s.updLane l fun L =>
    { L with planned := some { kind := .owner, target, effect := addPeriods L.period L.cfg.phase c.effect 1, avail := none } }

/-- Set an OWNER transition (R32): committed at once, or planned behind the committed order where the planned transition gives way (R36).
DEDUCED, unsafe (log entry 26): R178 says of two alert changes of one tick that a lane in RUN without a committed order commits a transition at
each. R31 lets a lane hold one committed order, so the first change commits its transition and the second plans its own behind it. -/
def setOwner (l : Fin 32) (target : Source) (preempted : Bool) (s : State) : State :=
  let L := s.lane l
  match L.committed with
  | none => commit l .owner target (earliestEffect L s.tick) none s
  | some c =>
    match L.planned.map Planned.kind with
    | none | some .owner => planOwner l c target s
    | some .fill => if preempted then planOwner l c target s else s
    | some .inStep | some .stop => s

/-- Discard a planned OWNER transition (R29). -/
def dropOwner (l : Fin 32) (s : State) : State :=
  if (s.lane l).planned.map Planned.kind = some .owner then s.updLane l fun L => { L with planned := none } else s

/-- No OWNER transition is needed (R29). A planned FILL of an avail that was just preempted gives way all the same (R135): its place is
taken by an OWNER transition, which the DONE compares again. -/
def noOwner (l : Fin 32) (target : Source) (preempted : Bool) (s : State) : State :=
  match (s.lane l).committed, (s.lane l).planned.map Planned.kind, preempted with
  | some c, some .fill, true => planOwner l c target s
  | _, _, _ => dropOwner l s

/-- Why a lane is re-resolved: R29 and R25 treat an alert change and a LANE RESET apart. -/
inductive ResolveCause where
  | ordinary | alertChange | laneReset
  deriving DecidableEq, Repr

/-- The first part of a re-resolution (R29): the owner field, its notice and a preemption. -/
def setOwnerField (l : Fin 32) (owner : Owner) (s : State) : State :=
  let old := (s.lane l).owner
  if owner = old then s
  else
    let s1 := raiseLaneState l .owner (s.updLane l fun L => { L with owner })
    match old, owner with
    | .avail h, .alert _ => preempt h s1
    | .avail h, .window _ => preempt h s1
    | _, _ => s1

/-- The re-resolution hands a preemption event (R29). -/
def preempting (old new : Owner) : Bool :=
  match old, new with
  | .avail _, .alert _ => true
  | .avail _, .window _ => true
  | _, _ => false

/-- The second part of a re-resolution (R29): whether the owner's target needs a transition. -/
def setTransition (l : Fin 32) (cause : ResolveCause) (owner : Owner) (target : Source) (preempted : Bool) (s : State) : State :=
  let L := s.lane l
  let producing := match L.state, owner with
    | .run, _ => true
    | .fault, .alert _ => true
    | _, _ => false
  let reference := match L.committed with
    | some c => some c.target
    | none => L.confirmed
  if producing = false then dropOwner l s
  else if some target = reference ∧ cause ≠ .laneReset then noOwner l target preempted s
  else if L.state = .fault ∧ L.committed = none ∧ L.failedTarget = some target ∧ cause ≠ .alertChange then s
  else setOwner l target preempted s

/-- Re-resolve the owner of a lane (R27, R28, R29). -/
def reresolve (cause : ResolveCause) (l : Fin 32) (s : State) : State :=
  let old := (s.lane l).owner
  let new := resolve s l none
  setTransition l cause new.1 new.2 (preempting old new.1) (setOwnerField l new.1 s)

/-- Re-resolve the lanes that satisfy a condition, in ascending lane number (R27). -/
def reresolveLanes (cause : ResolveCause) (which : Fin 32 → Bool) (s : State) : State :=
  (List.finRange 32).foldl (fun s l => if which l then reresolve cause l s else s) s

/-- A window change that names a lane set (R161, R166). -/
def windowChange (lanes : LaneSet) (s : State) : State := reresolveLanes .ordinary (fun l => lanes.getLsbD l.val) s

/-- An alert change that names a zone set (R176). -/
def alertChange (zones : ZoneSet) (s : State) : State :=
  reresolveLanes .alertChange (fun l => zones.getLsbD (s.lane l).cfg.zone.val) s

/-! ## Avails: the fill tick and the in tick -/

/-- The fill tick that a holder and a break give (R122). -/
def deriveFill (L : Lane) (a : Avail) : Option Tick :=
  match a.holder with
  | none => none
  | some h =>
    match h.spot with
    | none => none
    | some n => if n < a.frames then some (addPeriods L.period L.cfg.phase a.outTick n) else none

/-- The fill step has gone past NONE and was not superseded (R130, step 1). -/
def FillStep.started : FillStep → Bool
  | .waiting | .committed | .confirmed => true
  | .none | .superseded => false

/-- The in tick that R130 takes for a proposed one: not before one period after the fill tick of a started FILL step. -/
def raisedIn (L : Lane) (a : Avail) (T : Tick) : Tick :=
  match a.fillTick with
  | some f => if a.fillStep.started then maxTick (addPeriods L.period L.cfg.phase f 1) T else T
  | none => T

/-- An avail with a proposed in tick applied (R130, steps 1 to 3). -/
def Avail.moved (a : Avail) (L : Lane) (T : Tick) (clear : Bool) : Avail :=
  let inTick := raisedIn L a T
  let a1 := { a with inTick, frames := framesBetween L.period a.outTick inTick, provisional := a.provisional && !clear }
  if a1.fillStep = .none then { a1 with fillTick := deriveFill L a1 } else a1

/-- Apply a proposed in tick (R130), clearing the provisional flag on a RETURN (R131). -/
def moveIn (i : Fin 64) (T : Tick) (cause : RetimeCause) (clear : Bool) (s : State) : State :=
  let a := s.avail i
  let b := a.moved (s.lane a.lane) T clear
  let s1 := s.updAvail i fun _ => b
  if b.inTick = a.inTick ∧ b.frames = a.frames ∧ b.provisional = a.provisional ∧ b.fillTick = a.fillTick then s1
  else raiseRetimed i cause s1

/-- Pull in the in tick of an avail in OUT: the earlier of its in tick and its lane's earliest effect (R132, R134). -/
def pullIn (i : Fin 64) (cause : RetimeCause) (s : State) : State :=
  let a := s.avail i
  moveIn i (minTick a.inTick (earliestEffect (s.lane a.lane) s.tick)) cause false s

/-! ## Avail steps and the outcomes of orders -/

/-- The Lane Table's answer to a FILL or IN step request (R35). -/
inductive StepAnswer where
  | committed (effect : Tick) | waiting | busy
  deriving DecidableEq, Repr

/-- The target of a FILL or IN step as it would be committed now (R35). -/
def stepTarget (s : State) (l : Fin 32) (fill : Bool) (h : Option Handle) : Source := if fill then .fill else (resolve s l h).2

/-- The tick at which a FILL or IN step requested for a tick is committed (R35). -/
def stepEffect (s : State) (l : Fin 32) (T : Tick) : Tick := maxTick T (earliestEffect (s.lane l) s.tick)

/-- A FILL or IN step request (R35, R36). -/
def requestStep (l : Fin 32) (fill : Bool) (h : Handle) (T : Tick) (s : State) : StepAnswer × State :=
  let target := stepTarget s l fill (some h)
  if (s.lane l).state = .run then
    match (s.lane l).committed with
    | none =>
      (.committed (stepEffect s l T), commit l (if fill then .fill else .inStep) target (stepEffect s l T) (some h) s)
    | some _ =>
      (.waiting, s.updLane l fun L =>
        { L with planned := some { kind := if fill then .fill else .inStep, target, effect := T, avail := some h } })
  else (.busy, s)

/-- A report that an avail's FILL or IN step was committed at a tick (R126, R127). It is disregarded for a recycled or a final avail
(R129). -/
def reportCommitted (fill : Bool) (h : Handle) (effect : Tick) (s : State) : State :=
  let a := s.avail h.slot
  if a.gen ≠ h.gen ∨ a.live = false then s
  else if fill then
    let s1 := s.updAvail h.slot fun a => { a with fillStep := .committed }
    match a.fillTick with
    | some f =>
      if later effect f then
        raiseRetimed h.slot .step (s1.updAvail h.slot fun a => { a with fillTick := some effect })
      else s1
    | none => s1
  else if later effect a.inTick then moveIn h.slot effect .step false s
  else s

/-- A step-done event (R51): SPLICE_OUT for an OUT order (R125, R129), CONFIRMED for a FILL order (R126), the end of the break for an IN
order (R128). -/
def stepDone (kind : StepKind) (h : Handle) (target : Source) (s : State) : State :=
  let a := s.avail h.slot
  if a.gen ≠ h.gen ∨ a.state = .empty then s
  else
    match kind with
    | .out => if a.airing ∨ a.final then raise (.spliceOut (s.head h.slot) a.holder a.outTick a.state) a.addressed s else s
    | .fill => if a.airing then s.updAvail h.slot fun a => { a with fillStep := .confirmed } else s
    | .inStep =>
      if a.state = .returning then
        let r : FinalResult := if a.released then .released else .returned
        finish h.slot .ended r (raise (.spliceIn (s.head h.slot) target a.inTick a.frames r) a.addressed s)
      else s
    | .owner | .stop => s

/-- What becomes of the planned transition at a DONE (R33). -/
def handlePlanned (l : Fin 32) (s : State) : State :=
  let L := s.lane l
  let E := earliestEffect L s.tick
  match L.planned with
  | none => s
  | some P =>
    match P.kind with
    | .owner =>
      if some P.target = L.confirmed then s.updLane l fun L => { L with planned := none } else commit l .owner P.target E none s
    | .stop => commit l .stop .net E none s
    | .fill | .inStep =>
      let fill := decide (P.kind = .fill)
      let effect := stepEffect s l P.effect
      let s1 := commit l (if fill then .fill else .inStep) (stepTarget s l fill P.avail) effect P.avail s
      match P.avail with
      | some h => reportCommitted fill h effect s1
      | none => s1

/-- Set the confirmed source, raising LANE_STATE with cause SOURCE on a change (R45, R49). -/
def setConfirmed (l : Fin 32) (x : Option Source) (s : State) : State :=
  if (s.lane l).confirmed = x then s else raiseLaneState l .source (s.updLane l fun L => { L with confirmed := x })

/-- Set the lane state and raise LANE_STATE with cause STATE (R26). -/
def setLaneState (l : Fin 32) (x : LaneState) (s : State) : State :=
  raiseLaneState l .state (s.updLane l fun L => { L with state := x })

/-- A lane in STOPPING goes to OFF when its stop order is done, with no planned transition (R23). -/
def endStop (l : Fin 32) (kind : StepKind) (s : State) : State :=
  if (s.lane l).state = .stopping ∧ kind = .stop then setLaneState l .off (s.updLane l fun L => { L with planned := none }) else s

/-- A matched DONE for the outstanding record o of a lane (R45). -/
def orderDone (l : Fin 32) (o : Outstanding) (s : State) : State :=
  let s1 := setConfirmed l (some o.target) (s.setOrder l none)
  let s2 := endStop l o.kind (s1.updLane l fun L => { L with committed := none })
  let s3 := match o.avail with
    | some h => stepDone o.kind h o.target s2
    | none => s2
  handlePlanned l s3

/-- The lane state after a lane fault (R49, step 4). -/
def faultedState : LaneState → LaneState
  | .run => .fault
  | .stopping => .off
  | .fault => .fault
  | .off => .off

/-- A lane fault for the outstanding record o of a lane, which has been removed (R49, R50). -/
def laneFault (l : Fin 32) (o : Outstanding) (reason : FaultReason) (code : Option FabricCode) (s : State) : State :=
  let s1 := setConfirmed l none s
  let s2 := s1.updLane l fun L =>
    { L with committed := none, planned := none, faultReason := some reason, failedTarget := some o.target }
  let next := faultedState (s2.lane l).state
  let s3 := if next = (s2.lane l).state then s2 else setLaneState l next s2
  let s4 := raise (.laneFault l o reason code next s.tick) [] s3
  let s5 := finishLane l .missed .fault s4
  if next = .fault then reresolve .ordinary l s5 else s5

end Sys2Proof.Machine
end

