-- ==== Sys2Proof/Machine/Alerts.lean ====
section
/-! DEFINITION. The Alert Controller (Chapter 11): starting, updating, displacing, ending and expiry of alerts, and READ ALERTS. -/

namespace Sys2Proof.Machine

/-! ## The alert table (11.1) -/

/-- The slot of the active alert with an id (R172). -/
def findAlert (s : State) (id : Byte) : Option (Fin 4) :=
  (List.finRange 4).find? fun a =>
    match s.alert a with
    | some A => decide (A.id = id)
    | none => false

/-- The lowest-numbered empty slot (R174). -/
def emptyAlertSlot (s : State) : Option (Fin 4) := (List.finRange 4).find? fun a => (s.alert a).isNone

/-- The candidate for displacement: the lowest level, and among equals the least recent (R175). -/
def displaceable (s : State) : Option (Fin 4 × Alert) :=
  s.recency.foldl (fun best a =>
    match s.alert a, best with
    | none, _ => best
    | some A, none => some (a, A)
    | some A, some (_, B) => if A.level < B.level then some (a, A) else best) none

/-- A slot moves to, or joins, the tail of the recency order (R171). -/
def touch (a : Fin 4) (s : State) : State := { s with recency := s.recency.filter (fun b => decide (b ≠ a)) ++ [a] }

/-- A slot is emptied and leaves the recency order (R171, R177). -/
def emptyAlert (a : Fin 4) (s : State) : State :=
  { s.setAlert a none with recency := s.recency.filter fun b => decide (b ≠ a) }

/-- An alert ends (R177): its slot is emptied and ALERT_END is raised with its fields as they stood. -/
def endAlert (a : Fin 4) (A : Alert) (reason : EndReason) (ender : Option (Fin 4)) (s : State) : State :=
  let s1 := emptyAlert a s
  raise (.alertEnd a A reason ender s1.alertsActive s1.tick) [] s1

/-- An alert starts or is updated in a slot, and ALERT_BEGIN is raised (R173, R174). -/
def beginAlert (a : Fin 4) (A : Alert) (cause : BeginCause) (s : State) : State :=
  let s1 := touch a (s.setAlert a (some A))
  raise (.alertBegin a A cause s1.alertsActive s1.tick) [] s1

/-! ## Starting and updating (11.2) -/

/-- What an accepted ALERT START answers (R172). -/
def alertReply (a : Fin 4) (A : Alert) (d : AlertDisposition) (displaced : Option Byte) (s : State) : Answer :=
  { code := .ok, body := .alertStarted a d A.start A.expiry displaced, state := s }

/-- ALERT START with the fields checked (R173, R174, R175). -/
def startAlert (A : Alert) (s : State) : Answer :=
  match findAlert s A.id with
  | some a =>
    let old : ZoneSet := match s.alert a with
      | some B => B.zones
      | none => 0
    alertReply a A .updated none (alertChange (old ||| A.zones) (beginAlert a A .update s))
  | none =>
    match emptyAlertSlot s with
    | some a => alertReply a A .new none (alertChange A.zones (beginAlert a A .new s))
    | none =>
      match displaceable s with
      | none => refuse .full s
      | some (a, B) =>
        if A.level < B.level then refuse .full s
        else
          alertReply a A .displacing (some B.id)
            (alertChange (B.zones ||| A.zones) (beginAlert a A .new (endAlert a B .displaced (some A.port) s)))

/-- ALERT START (R172). -/
def alertStartAct (p : Fin 4) (r : RawAlert) (s : State) : Answer :=
  match alertOf r with
  | none => refuse .range s
  | some (level, source, seconds) =>
    startAlert
      { id := r.id, level, zones := r.zones, source, start := s.tick, expiry := addTicks s.tick (seconds * Config.ticksPerSecond)
        port := p } s

/-! ## Ending and expiry (11.3) -/

/-- ALERT END (R177). -/
def alertEndAct (p : Fin 4) (id : Byte) (s : State) : Answer :=
  if id = 0 then refuse .range s
  else
    match findAlert s id with
    | none => refuse .unknown s
    | some a =>
      match s.alert a with
      | none => refuse .unknown s
      | some A => { code := .ok, body := .alertEnded a A, state := alertChange A.zones (endAlert a A .ended (some p) s) }

/-- The expiry of an alert, where it is due (R178). -/
def takeAlertExpiry (a : Fin 4) (s : State) : State :=
  match s.alert a with
  | some A => if A.expiry = s.tick then alertChange A.zones (endAlert a A .expired none s) else s
  | none => s

/-- READ ALERTS (R183). -/
def readAlertsAct (s : State) : Answer :=
  { code := .ok, body := .alerts ((List.finRange 4).map s.alert) s.recency, state := s }

/-! ## The commands -/

/-- READ ALERTS (R183). -/
def execReadAlerts (p : Fin 4) (s : State) : Result := .next (takeRequest p .readAlerts readAlertsAct s)

/-- ALERT START (R172). -/
def execAlertStart (p : Fin 4) (r : RawAlert) (s : State) : Result := .next (takeRequest p .alertStart (alertStartAct p r) s)

/-- ALERT END (R177). -/
def execAlertEnd (p : Fin 4) (id : Byte) (s : State) : Result := .next (takeRequest p .alertEnd (alertEndAct p id) s)

/-- ALERT_EXPIRY (R178). -/
def execAlertExpiry (a : Fin 4) (s : State) : Result := .next (takeAlertExpiry a s)

end Sys2Proof.Machine
end

