-- ==== Sys2Proof/Machine/Claims.lean ====
section
/-! DEFINITION. The Claim Arbiter (Chapter 9): specific and standing claims, withdrawal, arbitration, and the claims of a detached port. -/

namespace Sys2Proof.Machine

/-! ## Arbitration (9.4) -/

/-- A candidate of an arbitration (R150, R151). -/
structure Candidate where
  kind : ClaimKind
  claim : Claim
  effective : Nat
  deriving DecidableEq, Repr

/-- The effective rank of a claim whose port is in a state (R151). -/
def effectiveRank (st : PortState) (rank : Nat) : Nat :=
  match st with
  | .caution => min (rank + Config.cautionPenalty) Config.maxRank
  | .normal | .detached => rank

/-- The candidate that a claim makes. -/
def candidateOf (s : State) (kind : ClaimKind) (c : Claim) : Candidate :=
  { kind, claim := c, effective := effectiveRank (s.port c.port).state c.rank }

/-- A lane's standing claims that are not paused, in port order. -/
def standingClaims (s : State) (l : Fin 32) : List Claim :=
  (List.finRange 4).filterMap fun p =>
    match s.place l p with
    | some x => if x.paused then none else some { port := p, rank := x.rank, source := x.source, spot := x.spot }
    | none => none

/-- The candidates of an avail's arbitration (R150). -/
def candidates (s : State) (i : Fin 64) : List Candidate :=
  ((s.avail i).claims.map (candidateOf s .specific) ++ (standingClaims s (s.avail i).lane).map (candidateOf s .standing)).filter
    fun c => decide ((s.port c.claim.port).state ≠ .detached)

/-- a precedes b in the order of R152. -/
def Candidate.precedes (a b : Candidate) : Bool :=
  if a.effective ≠ b.effective then decide (a.effective < b.effective)
  else if a.kind ≠ b.kind then decide (a.kind = .specific)
  else decide (a.claim.port < b.claim.port)

/-- The winner of a list of candidates (R152). -/
def winner : List Candidate → Option Candidate
  | [] => none
  | c :: cs =>
    match winner cs with
    | none => some c
    | some d => if d.precedes c then some d else some c

/-- The lowest effective rank among a port's candidates. -/
def bestRank (p : Fin 4) (cs : List Candidate) : Option Nat :=
  ((cs.filter fun c => decide (c.claim.port = p)).map Candidate.effective).min?

/-- CLAIM_LOST to one port, if it supplied a candidate and did not win (R154). -/
def raiseLost (i : Fin 64) (w : Candidate) (cs : List Candidate) (s : State) (p : Fin 4) : State :=
  let a := s.avail i
  if p = w.claim.port then s
  else
    match bestRank p cs with
    | none => s
    | some best =>
      raise (.claimLost (s.head i) p w.kind w.claim.port w.claim.source w.effective best (decide ((s.port p).state = .caution))
        a.outTick a.inTick a.frames cs.length) [p] s

/-- The notices of an arbitration (R154): CLAIM_WON, then CLAIM_LOST in ascending port order. -/
def raiseClaims (i : Fin 64) (w : Candidate) (cs : List Candidate) (s : State) : State :=
  let a := s.avail i
  let p := w.claim.port
  let s1 := raise (.claimWon (s.head i) p w.kind p w.claim.source w.effective (decide ((s.port p).state = .caution)) a.outTick a.inTick
    a.frames w.claim.spot a.fillTick cs.length) [p] s
  (List.finRange 4).foldl (raiseLost i w cs) s1

/-- Close an avail with a holder or none (R123, R153). -/
def closeAvail (i : Fin 64) (holder : Option Claim) (s : State) : State :=
  s.updAvail i fun a =>
    let a1 := { a with holder, claims := [], state := .closed }
    { a1 with fillTick := deriveFill (s.lane a.lane) a1 }

/-- Arbitrate an avail and close it (R123, R150 to R154). -/
def arbitrate (i : Fin 64) (s : State) : State :=
  let cs := candidates s i
  match winner cs with
  | none => closeAvail i none s
  | some w => raiseClaims i w cs (closeAvail i (some w.claim) s)

/-- The claim close of an avail is due (R123). -/
def claimCloseDue (i : Fin 64) (s : State) : Bool :=
  decide ((s.avail i).state = .armed) && decide ((s.avail i).claimClose = s.tick)

/-- The claim close of an avail, where it is due (R123). -/
def takeClaimClose (i : Fin 64) (s : State) : State := if claimCloseDue i s then arbitrate i s else s

/-! ## Specific claims (9.1, 9.3) -/

/-- CLAIM (R142). -/
def claimAct (p : Fin 4) (r : RawClaim) (s : State) : Answer :=
  match claimOf p r with
  | none => refuse .range s
  | some c =>
    match lookup r.handle s with
    | .error e => refuse e s
    | .ok i =>
      let a := s.avail i
      if a.state ≠ .armed then refuse .closed s
      else
        let claims := a.claims.filter (fun x => decide (x.port ≠ p)) ++ [c]
        { code := .ok
          body := .claimed (s.handleOf i) a.claimClose claims.length (a.claims.any fun x => decide (x.port = p))
          state := s.updAvail i fun a => { a with claims } }

/-- Clear the holder of a CLOSED avail (R123, R149, R155). -/
def clearHolder (i : Fin 64) (s : State) : State := s.updAvail i fun a => { a with holder := none, fillTick := none }

/-- The requesting port is the avail's holder. -/
def Avail.heldBy (a : Avail) (p : Fin 4) : Bool :=
  match a.holder with
  | some h => decide (h.port = p)
  | none => false

/-- The release of an airing avail by its holder (R134). -/
def releaseAvail (i : Fin 64) (s : State) : State := pullIn i .release (s.updAvail i fun a => { a with released := true })

/-- WITHDRAW (R149). -/
def withdrawAct (p : Fin 4) (h : RawHandle) (s : State) : Answer :=
  match lookup h s with
  | .error e => refuse e s
  | .ok i =>
    let a := s.avail i
    match a.state with
    | .armed =>
      if a.claims.any fun x => decide (x.port = p) then
        { code := .ok, body := .withdrawn .removed
          state := s.updAvail i fun a => { a with claims := a.claims.filter fun x => decide (x.port ≠ p) } }
      else { code := .ok, body := .withdrawn .none, state := s }
    | .closed =>
      if a.heldBy p then { code := .ok, body := .withdrawn .holderCleared, state := clearHolder i s }
      else { code := .ok, body := .withdrawn .none, state := s }
    | .out =>
      if a.heldBy p then { code := .ok, body := .withdrawn .released, state := releaseAvail i s }
      else { code := .ok, body := .withdrawn .none, state := s }
    | .returning => if a.heldBy p then refuse .late s else { code := .ok, body := .withdrawn .none, state := s }
    | .empty | .ended | .cancelled | .missed => { code := .ok, body := .withdrawn .none, state := s }

/-! ## Standing claims (9.2) -/

/-- STAND (R145). -/
def standAct (p : Fin 4) (r : RawStand) (s : State) : Answer :=
  match standOf r with
  | none => refuse .range s
  | some (l, x) => { code := .ok, body := .flag (s.place l p).isSome, state := s.setPlace l p (some x) }

/-- STAND CLEAR (R146). -/
def standClearAct (p : Fin 4) (lane : Byte) (s : State) : Answer :=
  match toFin 32 lane with
  | none => refuse .range s
  | some l => if (s.place l p).isSome then { code := .ok, body := .none, state := s.setPlace l p none } else refuse .unknown s

/-- STAND PAUSE and STAND RESUME (R147): set the paused flag of the port's standing claim. -/
def setPaused (p : Fin 4) (lane : Byte) (paused : Bool) (s : State) : Answer :=
  match toFin 32 lane with
  | none => refuse .range s
  | some l =>
    match s.place l p with
    | none => refuse .unknown s
    | some x => { code := .ok, body := .flag x.paused, state := s.setPlace l p (some { x with paused }) }

/-- READ STANDING (R148). -/
def readStandingAct (lane : Byte) (s : State) : Answer :=
  match toFin 32 lane with
  | none => refuse .range s
  | some l => { code := .ok, body := .standing ((List.finRange 4).map (s.place l)), state := s }

/-! ## The claims of a detached port (9.5) -/

/-- What a detach does to one avail (R155, steps 1 and 3). -/
def detachAvail (p : Fin 4) (s : State) (i : Fin 64) : State :=
  let a := s.avail i
  match a.state with
  | .armed => s.updAvail i fun a => { a with claims := a.claims.filter fun x => decide (x.port ≠ p) }
  | .closed => if a.heldBy p then clearHolder i s else s
  | .empty | .out | .returning | .ended | .cancelled | .missed => s

/-- The detach event of a port (R155). -/
def detachClaims (p : Fin 4) (s : State) : State :=
  (List.finRange 64).foldl (detachAvail p) ((List.finRange 32).foldl (fun s l => s.setPlace l p none) s)

/-! ## The commands -/

/-- CLAIM_CLOSE (R123). -/
def execClaimClose (i : Fin 64) (s : State) : Result := .next (takeClaimClose i s)

/-- CLAIM (R142). -/
def execClaim (p : Fin 4) (r : RawClaim) (s : State) : Result := .next (takeRequest p .claim (claimAct p r) s)

/-- WITHDRAW (R149). -/
def execWithdraw (p : Fin 4) (h : RawHandle) (s : State) : Result := .next (takeRequest p .withdraw (withdrawAct p h) s)

/-- STAND (R145). -/
def execStand (p : Fin 4) (r : RawStand) (s : State) : Result := .next (takeRequest p .stand (standAct p r) s)

/-- STAND CLEAR (R146). -/
def execStandClear (p : Fin 4) (l : Byte) (s : State) : Result := .next (takeRequest p .standClear (standClearAct p l) s)

/-- STAND PAUSE (R147). -/
def execStandPause (p : Fin 4) (l : Byte) (s : State) : Result := .next (takeRequest p .standPause (setPaused p l true) s)

/-- STAND RESUME (R147). -/
def execStandResume (p : Fin 4) (l : Byte) (s : State) : Result := .next (takeRequest p .standResume (setPaused p l false) s)

/-- READ STANDING (R148). -/
def execReadStanding (p : Fin 4) (l : Byte) (s : State) : Result := .next (takeRequest p .readStanding (readStandingAct l) s)

end Sys2Proof.Machine
end

