-- ==== Sys2Proof/Machine/Splice.lean ====
section
/-! DEFINITION. Splice time arithmetic (Chapter 7): from a cue or a booking on one lane to the ticks of its break, or to a refusal. -/

namespace Sys2Proof.Machine

/-- A complete set of times (R103). -/
structure Times where
  outTick : Tick
  inTick : Tick
  frames : Nat
  provisional : Bool
  claimClose : Tick
  due : Bool
  deriving DecidableEq, Repr

/-- The difference of two feed stamps, read as signed (R104). -/
def feedDiff (a b : Stamp) : Int := (a - b).toInt

/-- Stage 1: the anchor of a cue on a lane (R104, R105). -/
def anchor (s : State) (L : Lane) (c : Cue) : Except ReplyCode Tick :=
  match c.timing with
  | .stamped fc =>
    let ref := s.feedRef c.feed
    if ref.valid = false ∨ ref.stale s.tick = true then .error .noRef
    else
      let S : Int := (ref.station.toNat : Int) + feedDiff fc ref.stamp + L.cfg.pathDelay
      if S < 0 then .error .late else .ok (BitVec.ofInt 48 S)
  | .lead n => .ok (BitVec.ofNat 48 (c.arrival.toNat + n + L.cfg.pathDelay))

/-- Stage 3: the break frames of a cue on a lane, with the provisional flag (R108). -/
def cueFrames (L : Lane) (c : Cue) : Nat × Bool :=
  match c.duration with
  | some d => (clampFrames (roundFrames L.period d.toNat), false)
  | none => (clampFrames (roundFrames L.period (L.cfg.ceiling * Config.ticksPerSecond)), true)

/-- Stage 5: the claim close of a break that goes out at a tick (R112). -/
def timesOf (L : Lane) (now outTick inTick : Tick) (frames : Nat) (provisional : Bool) : Times :=
  let claimClose := subTicks outTick L.cfg.claimLead
  { outTick, inTick, frames, provisional, claimClose, due := atOrAfter now claimClose }

/-- Stages 2, 4 and 5 for an anchor and a number of frames (R107, R109 to R112). -/
def placeBreak (L : Lane) (now S : Tick) (frames : Nat) (provisional : Bool) : Except ReplyCode Times :=
  let p := L.period
  let φ := L.cfg.phase
  let B := alignBoundary p φ S
  let inTick := addPeriods p φ B frames
  let E := earliestEffect L now
  if sdiff B now > Config.horizon then .error .far
  else if atOrAfter B E then .ok (timesOf L now B inTick frames provisional)
  else if sdiff E B > L.cfg.lateGrace then .error .late
  else if later inTick E = false then .error .late
  else .ok (timesOf L now E inTick (framesBetween p E inTick) provisional)

/-- The splice time computation for an OUT cue on a lane (R102). -/
def cueTimes (s : State) (l : Fin 32) (c : Cue) : Except ReplyCode Times :=
  let L := s.lane l
  match anchor s L c with
  | .error e => .error e
  | .ok S => placeBreak L s.tick S (cueFrames L c).1 (cueFrames L c).2

/-- The splice time computation for a booking on a lane (R106, R108). -/
def bookingTimes (s : State) (l : Fin 32) (r : RawBooking) : Except ReplyCode Times :=
  placeBreak (s.lane l) s.tick r.outTick (clampFrames r.frames.toNat) false

/-- The in tick that a RETURN cue computes for an avail (R114). -/
def returnTick (s : State) (a : Avail) (c : Cue) : Except ReplyCode Tick :=
  let L := s.lane a.lane
  let p := L.period
  let φ := L.cfg.phase
  match anchor s L c with
  | .error e => .error e
  | .ok S =>
    let B := alignBoundary p φ S
    if sdiff B s.tick > Config.horizon then .error .far
    else
      let T := maxTick B (earliestEffect L s.tick)
      if framesBetween p a.outTick T > Config.maxFrames then .ok (addPeriods p φ a.outTick Config.maxFrames) else .ok T

end Sys2Proof.Machine
end

