-- ==== Sys2Proof/Machine/Avails.lean ====
section
/-! DEFINITION. The Avail Controller (Chapter 8): creation, repeats, commit points, cues and requests on a running avail, reading. -/

namespace Sys2Proof.Machine

/-! ## Creation (8.2) -/

/-- The non-final avail of a lane with an event id (R119). -/
def findLive (s : State) (l : Fin 32) (id : BitVec 32) : Option (Fin 64) :=
  (List.finRange 64).find? fun i => (s.avail i).live && decide ((s.avail i).lane = l) && decide ((s.avail i).eventId = id)

/-- Slot i holds a final avail whose final tick is earlier than slot j's (R118). -/
def finalBefore (s : State) (i j : Fin 64) : Bool :=
  match (s.avail i).finalTick, (s.avail j).finalTick with
  | some a, some b => later b a
  | _, _ => false

/-- The final avail with the oldest final tick, the lowest slot among equals (R118). -/
def oldestFinal (s : State) : Option (Fin 64) :=
  (List.finRange 64).foldl (fun best i =>
    if (s.avail i).final then
      match best with
      | none => some i
      | some j => if finalBefore s i j then some i else best
    else best) none

/-- The slot that a creation takes (R118): the lowest EMPTY one, else the oldest final one, else none. -/
def pickSlot (s : State) : Option (Fin 64) :=
  match (List.finRange 64).find? fun i => decide ((s.avail i).state = .empty) with
  | some i => some i
  | none => oldestFinal s

/-- The generation that a slot has after it is taken (R118). -/
def Avail.nextGen (a : Avail) : Byte := if a.state = .empty then a.gen else a.gen + 1

/-- Raise AVAIL_NEW for an avail as it stands (R139). -/
def raiseNew (i : Fin 64) (s : State) : State :=
  let a := s.avail i
  raise (.availNew (s.head i) a.cls a.origin a.outTick a.inTick a.frames a.provisional a.claimClose) [] s

/-- Arbitration due at a creation or a re-timing (R112, R119, R121). -/
def arbitrateIf (due : Bool) (i : Fin 64) (s : State) : State := if due then arbitrate i s else s

/-- Fill a slot with a new avail, raise AVAIL_NEW and arbitrate if that is due (R119, steps 4 to 6). -/
def createAvail (i : Fin 64) (l : Fin 32) (id : BitVec 32) (cls : Byte) (origin : AvailOrigin) (t : Times) (s : State) : State :=
  arbitrateIf t.due i (raiseNew i (s.updAvail i fun a =>
    { gen := a.nextGen, state := .armed, lane := l, eventId := id, cls, origin := some origin, outTick := t.outTick,
      inTick := t.inTick, frames := t.frames, provisional := t.provisional, claimClose := t.claimClose }))

/-- What an OUT cue action or a booking comes to: the lane result or reply code, the slot and the disposition. -/
structure Admission where
  code : ReplyCode
  slot : Fin 64
  disposition : Disposition
  state : State

/-- A repeat of the avail in slot i whose computation gave the times t (R121). -/
def repeatAvail (i : Fin 64) (t : Times) (s : State) : Admission :=
  let a := s.avail i
  if t.outTick = a.outTick then
    { code := .ok, slot := i, disposition := .repeated
      state := s.updAvail i fun a => { a with repeats := satInc Config.smallCountMax a.repeats } }
  else if a.state = .armed then
    { code := .ok, slot := i, disposition := .retimed
      state := arbitrateIf t.due i (raiseRetimed i .repeated (s.updAvail i fun a =>
        { a with outTick := t.outTick, inTick := t.inTick, frames := t.frames, provisional := t.provisional, claimClose := t.claimClose })) }
  else
    { code := .ok, slot := i, disposition := .conflict
      state := s.updAvail i fun a => { a with conflicts := satInc Config.smallCountMax a.conflicts } }

/-- Take an OUT cue action or a booking whose computation came to times (R119, R120, R121). -/
def acceptBreak (l : Fin 32) (id : BitVec 32) (cls : Byte) (origin : AvailOrigin) (times : Except ReplyCode Times) (s : State) : Admission :=
  match times with
  | .error e => { code := e, slot := 0, disposition := .new, state := s }
  | .ok t =>
    match findLive s l id with
    | some i => repeatAvail i t s
    | none =>
      match pickSlot s with
      | none => { code := .full, slot := 0, disposition := .new, state := s }
      | some i => { code := .ok, slot := i, disposition := .new, state := createAvail i l id cls origin t s }

/-- BOOK AVAIL (R120). -/
def bookAct (p : Fin 4) (r : RawBooking) (s : State) : Answer :=
  match toFin 32 r.lane with
  | none => refuse .range s
  | some l =>
    if (s.lane l).state ≠ .run then refuse .busy s
    else
      let x := acceptBreak l r.eventId r.cls (.booked p) (bookingTimes s l r) s
      if x.code ≠ .ok then refuse x.code x.state
      else
        let a := x.state.avail x.slot
        { code := .ok, body := .booked (x.state.handleOf x.slot) x.disposition a.outTick a.inTick a.frames a.claimClose
          state := x.state }

/-! ## Cue actions (8.2, 8.6) -/

/-- Count a conflict on an avail. -/
def countConflict (i : Fin 64) (s : State) : State :=
  s.updAvail i fun a => { a with conflicts := satInc Config.smallCountMax a.conflicts }

/-- A RETURN cue action on a lane (R131). -/
def returnCue (l : Fin 32) (c : Cue) (s : State) : ReplyCode × State :=
  match findLive s l c.eventId with
  | none => (.unknown, s)
  | some i =>
    let a := s.avail i
    if a.state = .returning then (.late, countConflict i s)
    else
      match returnTick s a c with
      | .error e => (e, s)
      | .ok T =>
        if later T a.outTick = false ∧ a.state ≠ .out then (.ok, finish i .cancelled .cue s)
        else (.ok, moveIn i T .ret true s)

/-- A CANCEL cue action on a lane (R132). -/
def cancelCue (l : Fin 32) (c : Cue) (s : State) : ReplyCode × State :=
  match findLive s l c.eventId with
  | none => (.unknown, s)
  | some i =>
    match (s.avail i).state with
    | .out => (.ok, pullIn i .cancel s)
    | .returning => (.late, countConflict i s)
    | .empty | .armed | .closed | .ended | .cancelled | .missed => (.ok, finish i .cancelled .cue s)

/-- The cue action of a filter's cue on one lane (R92). -/
def cueAction (f : Fin 48) (c : Cue) (l : Fin 32) (s : State) : ReplyCode × State :=
  match c.kind with
  | .out =>
    let x := acceptBreak l c.eventId c.cls (.filter f) (cueTimes s l c) s
    (x.code, x.state)
  | .ret => returnCue l c s
  | .cancel => cancelCue l c s
  | .mark => (.ok, s)

/-! ## Commit points (8.4, 8.5) -/

/-- The out commit point of an avail is due (R124). -/
def outDue (i : Fin 64) (s : State) : Bool :=
  decide ((s.avail i).state = .closed) && decide (subTicks (s.avail i).outTick Config.orderLead = s.tick)

/-- Another avail on the lane is in OUT or RETURNING (R124, check 6). -/
def laneTaken (i : Fin 64) (l : Fin 32) (s : State) : Bool :=
  (List.finRange 64).any fun j => decide (j ≠ i) && (s.avail j).airing && decide ((s.avail j).lane = l)

/-- The owner of a lane is an alert. -/
def Owner.isAlert : Owner → Bool
  | .alert _ => true
  | .network | .avail _ | .window _ => false

/-- The out commit point of an avail (R124): the checks in their order, or the OUT step of R34. -/
def outCommit (i : Fin 64) (s : State) : State :=
  let a := s.avail i
  let l := a.lane
  let L := s.lane l
  if L.state = .fault then finish i .missed .fault s
  else if L.state ≠ .run then finish i .cancelled .laneOff s
  else if L.owner.isAlert then finish i .missed .alert s
  else if (openWindow s .insert l).isSome then finish i .missed .window s
  else if (openWindow s .blackout l).isSome then finish i .missed .blackout s
  else
    match a.holder with
    | none => finish i .ended .unfilled s
    | some h =>
      if laneTaken i l s ∨ L.committed.isSome then finish i .missed .laneBusy s
      else if atOrAfter a.outTick (earliestEffect L s.tick) = false then finish i .missed .late s
      else
        reresolve .ordinary l
          ((commit l .out h.source a.outTick (some (s.handleOf i)) s).updAvail i fun a => { a with state := .out })

/-- The out commit point of an avail, where it is due (R124). -/
def takeOutCommit (i : Fin 64) (s : State) : State := if outDue i s then outCommit i s else s

/-- The fill commit point of an avail is due (R126). -/
def fillDue (i : Fin 64) (s : State) : Bool :=
  let a := s.avail i
  decide (a.state = .out) && decide (a.fillStep = .none) &&
    match a.fillTick with
    | some f => atOrAfter s.tick (subTicks f Config.orderLead)
    | none => false

/-- The fill commit point of an avail with a fill tick f (R126). -/
def fillCommit (i : Fin 64) (f : Tick) (s : State) : State :=
  let h := s.handleOf i
  let r := requestStep (s.avail i).lane true h f s
  match r.1 with
  | .committed effect => reportCommitted true h effect r.2
  | .waiting => r.2.updAvail i fun a => { a with fillStep := .waiting }
  | .busy => r.2

/-- The fill commit point of an avail, where it is due (R126). -/
def takeFillCommit (i : Fin 64) (s : State) : State :=
  match (s.avail i).fillTick with
  | some f => if fillDue i s then fillCommit i f s else s
  | none => s

/-- The in commit point of an avail is due (R127). -/
def inDue (i : Fin 64) (s : State) : Bool :=
  decide ((s.avail i).state = .out) && decide (subTicks (s.avail i).inTick Config.orderLead = s.tick)

/-- The fill step of an avail whose IN step was accepted: a waiting FILL is superseded (R36, R127). -/
def FillStep.superseding : FillStep → FillStep
  | .waiting => .superseded
  | .none => .none
  | .committed => .committed
  | .confirmed => .confirmed
  | .superseded => .superseded

/-- The in commit point of an avail (R127). -/
def inCommit (i : Fin 64) (s : State) : State :=
  let h := s.handleOf i
  let l := (s.avail i).lane
  let r := requestStep l false h (s.avail i).inTick s
  let go := fun s : State =>
    reresolve .ordinary l (s.updAvail i fun a => { a with state := .returning, fillStep := a.fillStep.superseding })
  match r.1 with
  | .committed effect => reportCommitted false h effect (go r.2)
  | .waiting => go r.2
  | .busy => r.2

/-- The in commit point of an avail, where it is due (R127). -/
def takeInCommit (i : Fin 64) (s : State) : State := if inDue i s then inCommit i s else s

/-! ## Requests on an avail (8.6, 8.9) -/

/-- CANCEL AVAIL (R133). -/
def cancelAct (h : RawHandle) (s : State) : Answer :=
  match lookup h s with
  | .error e => refuse e s
  | .ok i =>
    let reply := fun s : State =>
      ({ code := .ok, body := .cancelled (s.avail i).state (s.avail i).inTick (s.avail i).frames, state := s } : Answer)
    match (s.avail i).state with
    | .armed | .closed => reply (finish i .cancelled .request s)
    | .out => reply (pullIn i .cancel s)
    | .returning => refuse .late s
    | .empty | .ended | .cancelled | .missed => refuse .closed s

/-- RELEASE (R134). -/
def releaseAct (p : Fin 4) (h : RawHandle) (s : State) : Answer :=
  match lookup h s with
  | .error e => refuse e s
  | .ok i =>
    match (s.avail i).state with
    | .out => if (s.avail i).heldBy p then { code := .ok, body := .none, state := releaseAvail i s } else refuse .closed s
    | .armed | .closed => refuse .busy s
    | .returning => refuse .late s
    | .empty | .ended | .cancelled | .missed => refuse .closed s

/-- READ AVAIL (R140). -/
def readAvailAct (h : RawHandle) (s : State) : Answer :=
  match lookup h s with
  | .error e => refuse e s
  | .ok i => { code := .ok, body := .avail i (s.avail i), state := s }

/-- READ LANE AVAILS (R140). -/
def readLaneAvailsAct (lane : Byte) (s : State) : Answer :=
  match toFin 32 lane with
  | none => refuse .range s
  | some l =>
    { code := .ok
      body := .laneAvails (((List.finRange 64).filter fun i => (s.avail i).live && decide ((s.avail i).lane = l)).map fun i =>
        { handle := s.handleOf i, state := (s.avail i).state, eventId := (s.avail i).eventId, outTick := (s.avail i).outTick,
          inTick := (s.avail i).inTick })
      state := s }

/-! ## The commands -/

/-- OUT_COMMIT_POINT (R124). -/
def execOutCommitPoint (i : Fin 64) (s : State) : Result := .next (takeOutCommit i s)

/-- FILL_COMMIT_POINT (R126). -/
def execFillCommitPoint (i : Fin 64) (s : State) : Result := .next (takeFillCommit i s)

/-- IN_COMMIT_POINT (R127). -/
def execInCommitPoint (i : Fin 64) (s : State) : Result := .next (takeInCommit i s)

/-- READ AVAIL (R140). -/
def execReadAvail (p : Fin 4) (h : RawHandle) (s : State) : Result := .next (takeRequest p .readAvail (readAvailAct h) s)

/-- READ LANE AVAILS (R140). -/
def execReadLaneAvails (p : Fin 4) (l : Byte) (s : State) : Result := .next (takeRequest p .readLaneAvails (readLaneAvailsAct l) s)

/-- BOOK AVAIL (R120). -/
def execBookAvail (p : Fin 4) (r : RawBooking) (s : State) : Result := .next (takeRequest p .bookAvail (bookAct p r) s)

/-- CANCEL AVAIL (R133). -/
def execCancelAvail (p : Fin 4) (h : RawHandle) (s : State) : Result := .next (takeRequest p .cancelAvail (cancelAct h) s)

/-- RELEASE (R134). -/
def execRelease (p : Fin 4) (h : RawHandle) (s : State) : Result := .next (takeRequest p .release (releaseAct p h) s)

end Sys2Proof.Machine
end

