-- ==== Sys2Proof/Machine/Filters.lean ====
section
/-! DEFINITION. The Cue Filter Bank (Chapter 6): matching, actions, hit records, the stray buffer and its requests. -/

namespace Sys2Proof.Machine

/-! ## Matching (6.2) -/

/-- The bit of a cue kind in a kinds set (R198). -/
def kindBit : CueKind → Nat
  | .out => 0
  | .ret => 1
  | .cancel => 2
  | .mark => 3

/-- A filter's origin field takes a cue's origin (R91). -/
def OriginMatch.takes (o : OriginMatch) (c : CueOrigin) : Bool :=
  match o, c with
  | .any, _ => true
  | .inband, .inband => true
  | .cell, .cell _ => true
  | .inband, .cell _ => false
  | .cell, .inband => false

/-- A filter's match conditions all hold for a cue (R91). -/
def FilterConfig.matches (f : FilterConfig) (c : Cue) : Bool :=
  (match f.feed with
    | none => true
    | some x => decide (x = c.feed)) &&
  f.kinds.getLsbD (kindBit c.kind) &&
  decide (c.eventId &&& f.idMask = f.idValue &&& f.idMask) &&
  decide (f.classLow.toNat ≤ c.cls.toNat ∧ c.cls.toNat ≤ f.classHigh.toNat) &&
  f.origin.takes c.origin

/-- The filter that takes a cue: the first enabled one that matches it (R90). -/
def takingFilter (s : State) (c : Cue) : Option (Fin 48) :=
  (List.finRange 48).find? fun i => (s.filter i).cfg.enable && (s.filter i).cfg.matches c

/-! ## Actions (6.3) -/

/-- The lanes that qualify for an ARM filter's cue, in ascending lane number (R92). -/
def qualifying (s : State) (f : FilterConfig) (c : Cue) : List (Fin 32) :=
  (List.finRange 32).filter fun l =>
    f.lanes.getLsbD l.val && decide ((s.lane l).state = .run) && decide ((s.lane l).cfg.feed = c.feed)

/-- A list of lanes as a lane set. -/
def laneSetOf (ls : List (Fin 32)) : LaneSet := ls.foldr (fun l m => m ||| BitVec.twoPow 32 l.val) 0

/-- Hand a cue to the Avail Controller for each lane of a list in turn; the first result that is not OK stands, with its lane (R92, R93). -/
def armLanes (f : Fin 48) (c : Cue) : List (Fin 32) → State → Option (ReplyCode × Fin 32) × State
  | [], s => (none, s)
  | l :: ls, s =>
    let x := cueAction f c l s
    let y := armLanes f c ls x.2
    if x.1 = .ok then y else (some (x.1, l), y.2)

/-- What a filter's action came to (R92, R93, R94). -/
structure HitResult where
  outcome : HitOutcome
  lane : Option (Fin 32)
  applied : LaneSet
  state : State

/-- The action of a filter on a cue it took (R92, R93, R94). -/
def filterAct (i : Fin 48) (c : Cue) (s : State) : HitResult :=
  let f := (s.filter i).cfg
  match f.action with
  | .forward => { outcome := .forwarded, lane := none, applied := 0, state := s }
  | .drop => { outcome := .dropped, lane := none, applied := 0, state := s }
  | .arm =>
    if c.kind = .mark then { outcome := .ignoredKind, lane := none, applied := 0, state := s }
    else
      let ls := qualifying s f c
      if ls = [] then { outcome := .noLane, lane := none, applied := 0, state := s }
      else
        let x := armLanes i c ls s
        match x.1 with
        | none => { outcome := .result .ok, lane := none, applied := laneSetOf ls, state := x.2 }
        | some (code, l) => { outcome := .result code, lane := some l, applied := laneSetOf ls, state := x.2 }

/-! ## Hit records and CUE_HIT (6.4) -/

/-- A hit record after a hit (R95). -/
def HitRecord.hit (h : HitRecord) (c : Cue) (now : Tick) (outcome : HitOutcome) (lane : Option (Fin 32)) (applied : LaneSet) : HitRecord :=
  { count := satInc Config.countMax h.count, lastCue := some c, hitTick := some now, outcome := some outcome, outcomeLane := lane,
    lanesApplied := applied, unread := true, overwritten := h.overwritten || h.unread }

/-- CUE_HIT is raised for a hit of this filter (R96). -/
def FilterConfig.notifies (f : FilterConfig) : Bool :=
  match f.action with
  | .arm => f.notify
  | .forward => true
  | .drop => false

/-- A filter takes a cue: its action, its hit record, its CUE_HIT (R90, R95, R96). -/
def takeHit (i : Fin 48) (c : Cue) (s : State) : State :=
  let f := (s.filter i).cfg
  let r := filterAct i c s
  let s1 := r.state.updFilter i fun F => { F with hit := F.hit.hit c s.tick r.outcome r.lane r.applied }
  if f.notifies then
    raise (.cueHit i f.action c r.outcome r.lane r.applied (s1.filter i).hit.count s.tick) [] s1
  else s1

/-! ## The stray buffer (6.5) -/

/-- The stray buffer after a stray (R98). -/
def pushStray (x : Stray) : List Stray → List Stray
  | [] => [x]
  | [a] => [a, x]
  | a :: _ :: _ => [a, x]

/-- A cue that no filter matched (R98, R99). -/
def takeStrayCue (c : Cue) (s : State) : State :=
  let full := decide (2 ≤ s.strays.length)
  let strays := pushStray { cue := c, tick := s.tick } s.strays
  let strayOverruns := if full then satInc Config.smallCountMax s.strayOverruns else s.strayOverruns
  raise (.stray c s.tick strays.length full strayOverruns) [] { s with strays, strayOverruns }

/-- Deliver a cue to the filter bank and settle it whole (R90). -/
def deliverCue (c : Cue) (s : State) : State :=
  match takingFilter s c with
  | some i => takeHit i c s
  | none => takeStrayCue c s

/-! ## Requests -/

/-- READ FILTER (R89). -/
def readFilterAct (f : Byte) (s : State) : Answer :=
  match toFin 48 f with
  | none => refuse .range s
  | some i => { code := .ok, body := .filter (s.filter i).cfg (s.filter i).revision, state := s }

/-- WRITE FILTER (R88). -/
def writeFilterAct (r : RawFilter) (s : State) : Answer :=
  match filterWriteOf r with
  | none => refuse .range s
  | some (i, cfg, expected) =>
    let F := s.filter i
    if expected.any (fun e => decide (e ≠ F.revision)) then { code := .stale, body := .revision F.revision, state := s }
    else
      { code := .ok, body := .revision (F.revision + 1)
        state := s.updFilter i fun F => { F with cfg, revision := F.revision + 1 } }

/-- READ HIT (R97). -/
def readHitAct (f : Byte) (s : State) : Answer :=
  match toFin 48 f with
  | none => refuse .range s
  | some i =>
    { code := .ok, body := .hit (s.filter i).hit
      state := s.updFilter i fun F => { F with hit := { F.hit with unread := false, overwritten := false } } }

/-- READ STRAYS (R101). -/
def readStraysAct (s : State) : Answer := { code := .ok, body := .strays s.strays s.strayOverruns, state := s }

/-- TAKE STRAY (R100). -/
def takeStrayAct (s : State) : Answer :=
  match s.strays with
  | [] => refuse .empty s
  | x :: rest => { code := .ok, body := .stray x rest.length s.strayOverruns, state := { s with strays := rest } }

/-! ## The commands -/

/-- READ FILTER (R89). -/
def execReadFilter (p : Fin 4) (f : Byte) (s : State) : Result := .next (takeRequest p .readFilter (readFilterAct f) s)

/-- WRITE FILTER (R88). -/
def execWriteFilter (p : Fin 4) (r : RawFilter) (s : State) : Result := .next (takeRequest p .writeFilter (writeFilterAct r) s)

/-- READ HIT (R97). -/
def execReadHit (p : Fin 4) (f : Byte) (s : State) : Result := .next (takeRequest p .readHit (readHitAct f) s)

/-- READ STRAYS (R101). -/
def execReadStrays (p : Fin 4) (s : State) : Result := .next (takeRequest p .readStrays readStraysAct s)

/-- TAKE STRAY (R100). -/
def execTakeStray (p : Fin 4) (s : State) : Result := .next (takeRequest p .takeStray takeStrayAct s)

end Sys2Proof.Machine
end

