-- ==== Sys2Proof/Machine/CueLogic.lean ====
section
/-! DEFINITION. The Cue Logic Array (Chapter 5): lines, cells, the evaluation pass, pair elements, synthetic cues, cue outputs and the
array's requests. -/

namespace Sys2Proof.Machine

/-! ## Cells (5.2) -/

/-- The value that a selector reads in cell n, the pair's output being given (R69, R81). -/
def inputValue (s : State) (n : Fin 12) (pairOutput : Bool) : Selector → Bool
  | .low => false
  | .line k => s.lines.getLsbD k.val
  | .link => s.filteredOut (linkCell n)
  | .pair => pairOutput
  | .laneOut l => s.laneOut l
  | .alertAny => s.alertAny

/-- The raw output that cell n computes (R70). -/
def rawOutput (s : State) (n : Fin 12) (pairOutput : Bool) : Bool :=
  let c := (s.cell n).cfg
  let bit := fun x : Selector => if inputValue s n pairOutput x then 1 else 0
  c.table.getLsbD (bit c.input2 * 4 + bit c.input1 * 2 + bit c.input0)

/-! ## Emission (5.5) -/

/-- The kind of cue that an edge emits, if any (R76). -/
def emittedKind (c : CellConfig) (rising : Bool) : Option CueKind :=
  match c.edge, rising with
  | .none, _ => none
  | .rising, true => some c.kind
  | .rising, false => none
  | .falling, true => none
  | .falling, false => some c.kind
  | .both, true => some c.kind
  | .both, false => if c.kind = .out then some .ret else some c.kind

/-- The event id of a cell's cue (R77). -/
def cellEventId (feed : Fin 32) (sequence : BitVec 16) : BitVec 32 := BitVec.ofNat 32 (feed.val * 65536 + sequence.toNat)

/-- A part of an event of the array: the state, and the cues emitted so far, in the order of their edges (R78). -/
abbrev Pass := State × List Cue

/-- The emission of cell n on an edge of its emission source (R76, R77, R78). -/
def emit (n : Fin 12) (rising : Bool) (x : Pass) : Pass :=
  let c := x.1.cell n
  match emittedKind c.cfg rising with
  | none => x
  | some k =>
    let sequence := if k = .out then c.sequence + 1 else c.sequence
    (x.1.updCell n fun c => { c with sequence },
      x.2 ++ [{ feed := c.cfg.feed, kind := k, eventId := cellEventId c.cfg.feed sequence, cls := c.cfg.cls, timing := .lead c.cfg.lead,
                duration := none, origin := .cell n, arrival := x.1.tick }])

/-- The emission of cell n where its source is src, on a change of that signal (R75). -/
def emitOn (src : EmitSource) (n : Fin 12) (rising : Bool) (x : Pass) : Pass :=
  if (x.1.cell n).cfg.source = src then emit n rising x else x

/-- One evaluation of cell n (R69, R70, R71). -/
def evalCell (n : Fin 12) (x : Pass) : Pass :=
  let s := x.1
  if (s.pair (pairOf n)).enable = false then x
  else
    let c := s.cell n
    let raw := rawOutput s n (s.pair (pairOf n)).output
    if raw = c.raw then x
    else if c.cfg.settle = 0 then
      let x1 : Pass := (s.updCell n fun c => { c with raw, filtered := raw }, x.2)
      if c.filtered = raw then x1 else emitOn .filtered n raw x1
    else (s.updCell n fun c => { c with raw, timer := some (addTicks s.tick (c.cfg.settle * Config.ticksPerMillisecond)) }, x.2)

/-- The output of a pair element after an evaluation (R74). -/
def elementNext (mode : ElementMode) (output oddSeen odd even : Bool) : Bool :=
  let edge := !oddSeen && odd
  match mode with
  | .off => false
  | .follow => if odd then even else output
  | .setReset => if odd then false else if even then true else output
  | .capture => if edge then even else output
  | .toggle => if edge && even then !output else output

/-- One evaluation of pair element k (R74, R75): the odd cell's emission stands before the even cell's (R78). -/
def evalElement (k : Fin 6) (x : Pass) : Pass :=
  let s := x.1
  let P := s.pair k
  if P.enable = false then x
  else
    let odd := s.filteredOut (oddCell k)
    let output := elementNext P.mode P.output P.oddSeen odd (s.filteredOut (evenCell k))
    let x1 : Pass := (s.updPair k fun P => { P with output, oddSeen := odd }, x.2)
    if output = P.output then x1 else emitOn .pair (evenCell k) output (emitOn .pair (oddCell k) output x1)

/-- The part of a pass that evaluates pair k: its odd cell, its even cell, its element (R73). -/
def evalPair (x : Pass) (k : Fin 6) : Pass := evalElement k (evalCell (evenCell k) (evalCell (oddCell k) x))

/-- An evaluation pass (R73): pairs 5 down to 0. -/
def evalPass (x : Pass) : Pass := [5, 4, 3, 2, 1, 0].foldl evalPair x

/-- The pass of an event, and then the cues emitted in it, each settled whole (R78). -/
def runPass (x : Pass) : State :=
  let y := evalPass x
  y.2.foldl (fun s c => deliverCue c s) y.1

/-! ## Events of the array -/

/-- A cue line takes a level (R67). -/
def setLine (lines : BitVec 24) (k : Fin 24) (level : Bool) : BitVec 24 :=
  if level then lines ||| BitVec.twoPow 24 k.val else lines &&& ~~~(BitVec.twoPow 24 k.val)

/-- A line change, where the sampled level differs from the held one (R67). -/
def takeLineChange (k : Fin 24) (level : Bool) (s : State) : State :=
  if s.lines.getLsbD k.val = level then s else runPass ({ s with lines := setLine s.lines k level }, [])

/-- The settle expiry of a cell is due (R72). -/
def settleDue (n : Fin 12) (s : State) : Bool := decide ((s.cell n).timer = some s.tick)

/-- A settle expiry (R72). -/
def settle (n : Fin 12) (s : State) : State :=
  let c := s.cell n
  let x : Pass := (s.updCell n fun c => { c with timer := none, filtered := c.raw }, [])
  runPass (if c.raw = c.filtered then x else emitOn .filtered n c.raw x)

/-- The settle expiry of a cell, where it is due (R72). -/
def takeSettle (n : Fin 12) (s : State) : State := if settleDue n s then settle n s else s

/-! ## Pair records (5.6) -/

/-- A cell primed at the enabling of its pair (R81). -/
def primeCell (n : Fin 12) (s : State) : State :=
  let raw := rawOutput s n false
  s.updCell n fun c => { c with raw, filtered := raw, timer := none }

/-- A cell forced low at the disabling of its pair (R82). -/
def forceCell (n : Fin 12) (s : State) : State := s.updCell n fun c => { c with raw := false, filtered := false, timer := none }

/-- Enable and prime a pair (R81). -/
def primePair (k : Fin 6) (s : State) : State :=
  let s1 := s.updPair k fun P => { P with enable := true, output := false }
  let s2 := primeCell (evenCell k) (primeCell (oddCell k) s1)
  s2.updPair k fun P => { P with oddSeen := (s2.cell (oddCell k)).filtered }

/-- Disable and force a pair (R82). -/
def forcePair (k : Fin 6) (s : State) : State :=
  (forceCell (evenCell k) (forceCell (oddCell k) s)).updPair k fun P => { P with enable := false, output := false, oddSeen := false }

/-- WRITE PAIR (R80). -/
def writePairAct (r : RawPair) (s : State) : Answer :=
  match pairWriteOf r with
  | none => refuse .range s
  | some (k, mode, even, odd, expected) =>
    let P := s.pair k
    if expected.any (fun e => decide (e ≠ P.revision)) then { code := .stale, body := .revision P.revision, state := s }
    else if P.enable then refuse .busy s
    else
      { code := .ok, body := .revision (P.revision + 1)
        state := ((s.updCell (evenCell k) fun c => { c with cfg := even }).updCell (oddCell k) fun c => { c with cfg := odd }).updPair k
          fun P => { P with mode, revision := P.revision + 1 } }

/-- ENABLE PAIR (R81, R82). -/
def enablePairAct (r : RawEnable) (s : State) : Answer :=
  match enableWriteOf r with
  | none => refuse .range s
  | some (k, enable, expected) =>
    let P := s.pair k
    if expected.any (fun e => decide (e ≠ P.revision)) then { code := .stale, body := .revision P.revision, state := s }
    else
      let s1 := s.updPair k fun P => { P with revision := P.revision + 1 }
      { code := .ok, body := .revision (P.revision + 1)
        state := match P.enable, enable with
          | false, true => primePair k s1
          | true, false => forcePair k s1
          | false, false => s1
          | true, true => s1 }

/-- SET CUE OUTPUT (R84). -/
def setCueOutputAct (r : RawOutput) (s : State) : Answer :=
  match outputWriteOf r with
  | none => refuse .range s
  | some (o, x) => { code := .ok, body := .none, state := s.setOutput o x }

/-- READ CUE LOGIC (R85). -/
def readCueLogicAct (s : State) : Answer :=
  { code := .ok
    body := .cueLogic s.lines
      ((List.finRange 12).map fun n =>
        { raw := (s.cell n).raw, filtered := (s.cell n).filtered, timer := (s.cell n).timer, sequence := (s.cell n).sequence })
      ((List.finRange 6).map fun k => { enable := (s.pair k).enable, revision := (s.pair k).revision, output := (s.pair k).output })
      ((List.finRange 8).map fun o => (s.output o, s.outputLevel o))
    state := s }

/-- READ PAIR (R85). -/
def readPairAct (k : Byte) (s : State) : Answer :=
  match toFin 6 k with
  | none => refuse .range s
  | some k =>
    { code := .ok
      body := .pair (s.pair k).enable (s.pair k).mode (s.pair k).revision (s.cell (evenCell k)).cfg (s.cell (oddCell k)).cfg
      state := s }

/-! ## The commands -/

/-- LINE_CHANGE (R67). -/
def execLineChange (k : Fin 24) (level : Bool) (s : State) : Result := .next (takeLineChange k level s)

/-- SETTLE_EXPIRY (R72). -/
def execSettleExpiry (n : Fin 12) (s : State) : Result := .next (takeSettle n s)

/-- READ CUE LOGIC (R85). -/
def execReadCueLogic (p : Fin 4) (s : State) : Result := .next (takeRequest p .readCueLogic readCueLogicAct s)

/-- READ PAIR (R85). -/
def execReadPair (p : Fin 4) (k : Byte) (s : State) : Result := .next (takeRequest p .readPair (readPairAct k) s)

/-- WRITE PAIR (R80). -/
def execWritePair (p : Fin 4) (r : RawPair) (s : State) : Result := .next (takeRequest p .writePair (writePairAct r) s)

/-- ENABLE PAIR (R81). -/
def execEnablePair (p : Fin 4) (r : RawEnable) (s : State) : Result := .next (takeRequest p .enablePair (enablePairAct r) s)

/-- SET CUE OUTPUT (R84). -/
def execSetCueOutput (p : Fin 4) (r : RawOutput) (s : State) : Result := .next (takeRequest p .setCueOutput (setCueOutputAct r) s)

end Sys2Proof.Machine
end

