-- ==== Sys2Proof/Decode.lean ====
section
/-! DEFINITION. What the part reads from its links: client frames (R186, R198, R199), messages from the fabric (R41, R201) and intake
records (R58, R200); then the encoder of client frames, written from the same tables; then decodeTableWord. -/

namespace Sys2Proof

open Sys2Proof.Machine

/-! ## Bytes and words -/

/-- The sum of a run of bytes modulo 256. -/
def byteSum (bs : List Byte) : Byte := bs.foldr (· + ·) 0

/-- The check byte that makes a run of bytes, itself included, sum to 0 modulo 256 (R199, R200, R201). -/
def checkByte (bs : List Byte) : Byte := 0 - byteSum bs

/-- Two bytes, big-endian. -/
def word16 (a b : Byte) : BitVec 16 := a ++ b

/-- Three bytes, big-endian. -/
def word24 (a b c : Byte) : BitVec 24 := a ++ b ++ c

/-- Four bytes, big-endian. -/
def word32 (a b c d : Byte) : BitVec 32 := a ++ b ++ c ++ d

/-- Six bytes, big-endian. -/
def word48 (a b c d e f : Byte) : BitVec 48 := a ++ b ++ c ++ d ++ e ++ f

/-- The bytes of a 16-bit field. -/
def bytes16 (x : BitVec 16) : List Byte := [x.extractLsb' 8 8, x.extractLsb' 0 8]

/-- The bytes of a 24-bit field. -/
def bytes24 (x : BitVec 24) : List Byte := [x.extractLsb' 16 8, x.extractLsb' 8 8, x.extractLsb' 0 8]

/-- The bytes of a 32-bit field. -/
def bytes32 (x : BitVec 32) : List Byte := [x.extractLsb' 24 8, x.extractLsb' 16 8, x.extractLsb' 8 8, x.extractLsb' 0 8]

/-- The bytes of a 48-bit field. -/
def bytes48 (x : BitVec 48) : List Byte :=
  [x.extractLsb' 40 8, x.extractLsb' 32 8, x.extractLsb' 24 8, x.extractLsb' 16 8, x.extractLsb' 8 8, x.extractLsb' 0 8]

/-! ## Messages from the fabric -/

/-- The length that a fabric message's type requires; the types that the fabric does not send require none (R201). -/
def fabricLength (type : Byte) : Option Nat :=
  match type.toNat with
  | 2 => some 4
  | 3 => some 5
  | _ => none

/-- What a message from the fabric is: the cause for which it is malformed (R41), or the DONE or FAULT that it spells (R201). -/
def decodeFabric (bytes : List Byte) : Except LinkCause Instr :=
  match bytes with
  | [] => .error .length
  | type :: rest =>
    match fabricLength type with
    | none => if byteSum bytes = 0 then .error .type else .error .check
    | some n =>
      if bytes.length ≠ n then .error .length
      else if byteSum bytes ≠ 0 then .error .check
      else
        match rest with
        | [lane, seq, _] =>
          match toFin 32 lane with
          | none => .error .lane
          | some l => .ok (.done l seq)
        | [lane, seq, code, _] =>
          match toFin 32 lane with
          | none => .error .lane
          | some l =>
            match fabricCodeOf code with
            | none => .error .code
            | some c => .ok (.fault l seq c)
        | _ => .error .length

/-! ## Intake records -/

/-- A valid record (R59, R61): a CUE's fields, or a TIMEREF's. -/
inductive Record where
  | cue (feed : Fin 32) (kind : CueKind) (eventId : BitVec 32) (cls : Byte) (timing : Timing) (duration : Option (BitVec 32))
  | timeref (feed : Fin 32) (stamp : Stamp) (discontinuity : Bool)
  deriving DecidableEq, Repr

/-- The timing of a CUE record: form STAMPED 0 or LEAD 1, a lead being at most 1,800,000 ticks (R59, R200). -/
def timingOf (form : Byte) (x : BitVec 32) : Option Timing :=
  match form.toNat with
  | 0 => some (.stamped x)
  | 1 => (within 0 Config.maxLead x.toNat).map .lead
  | _ => none

/-- The fields of a CUE record of the right length (R59). -/
def cueFields (feed kind : Byte) (eventId : BitVec 32) (cls form : Byte) (x : BitVec 32) (duration : Option (BitVec 32)) :
    Except RecordCause Record :=
  match toFin 32 feed, cueKindOf kind, timingOf form x with
  | some f, some k, some t => .ok (.cue f k eventId cls t duration)
  | _, _, _ => .error .field

/-- A CUE record: 15 bytes without a duration, 19 with one (R200). -/
def decodeCue (bytes : List Byte) : Except RecordCause Record :=
  match bytes with
  | [_, feed, kind, i3, i2, i1, i0, cls, form, t3, t2, t1, t0, present, _] =>
    if present = 1 then .error .length
    else if present ≠ 0 then .error .field
    else cueFields feed kind (word32 i3 i2 i1 i0) cls form (word32 t3 t2 t1 t0) none
  | [_, feed, kind, i3, i2, i1, i0, cls, form, t3, t2, t1, t0, present, d3, d2, d1, d0, _] =>
    if present = 0 then .error .length
    else if present ≠ 1 then .error .field
    else cueFields feed kind (word32 i3 i2 i1 i0) cls form (word32 t3 t2 t1 t0) (some (word32 d3 d2 d1 d0))
  | _ => .error .length

/-- A TIMEREF record: 8 bytes (R61, R200). -/
def decodeTimeref (bytes : List Byte) : Except RecordCause Record :=
  match bytes with
  | [_, feed, s3, s2, s1, s0, flag, _] =>
    match toFin 32 feed, toFlag flag with
    | some f, some d => .ok (.timeref f (word32 s3 s2 s1 s0) d)
    | _, _ => .error .field
  | _ => .error .length

/-- What a record is at its taking: the first cause for which it is invalid (R58), or its fields. -/
def decodeRecord (bytes : List Byte) : Except RecordCause Record :=
  if byteSum bytes ≠ 0 then .error .check
  else
    match bytes with
    | [] => .error .type
    | type :: _ =>
      match type.toNat with
      | 1 => decodeCue bytes
      | 2 => decodeTimeref bytes
      | _ => .error .type

/-! ## Client frames -/

/-- The form of a select's bytes (R186): too short to be a frame, malformed, or a well-formed frame's command. -/
inductive FrameForm where
  | notAFrame
  | malformed (cause : FormCause) (code : Byte)
  | wellFormed (i : Instr)
  deriving DecidableEq, Repr

/-- The request of a code (12.6). -/
def reqOf (code : Byte) : Option Req :=
  match code.toNat with
  | 1 => some .status | 2 => some .fetch | 3 => some .subscribe | 4 => some .rejoin | 5 => some .readTime | 6 => some .setCalendar
  | 7 => some .readLane | 8 => some .writeLane | 9 => some .laneReset | 10 => some .readOrderLink | 11 => some .readIntake
  | 12 => some .readFeed | 13 => some .readCueLogic | 14 => some .readPair | 15 => some .writePair | 16 => some .enablePair
  | 17 => some .setCueOutput | 18 => some .readFilter | 19 => some .writeFilter | 20 => some .readHit | 21 => some .readStrays
  | 22 => some .takeStray | 23 => some .readAvail | 24 => some .readLaneAvails | 25 => some .bookAvail | 26 => some .cancelAvail
  | 27 => some .release | 28 => some .claim | 29 => some .withdraw | 30 => some .stand | 31 => some .standClear
  | 32 => some .standPause | 33 => some .standResume | 34 => some .readStanding | 35 => some .readWindow | 36 => some .writeWindow
  | 37 => some .readAlerts | 38 => some .alertStart | 39 => some .alertEnd
  | _ => none

/-- Reads one field from the front of a body. -/
abbrev Parser (α : Type) := List Byte → Option (α × List Byte)

/-- A 1-byte field. -/
def get8 : Parser Byte
  | b :: r => some (b, r)
  | [] => none

/-- A 2-byte field. -/
def get16 : Parser (BitVec 16)
  | a :: b :: r => some (word16 a b, r)
  | _ => none

/-- A 3-byte field. -/
def get24 : Parser (BitVec 24)
  | a :: b :: c :: r => some (word24 a b c, r)
  | _ => none

/-- A 4-byte field. -/
def get32 : Parser (BitVec 32)
  | a :: b :: c :: d :: r => some (word32 a b c d, r)
  | _ => none

/-- A 6-byte field. -/
def get48 : Parser (BitVec 48)
  | a :: b :: c :: d :: e :: f :: r => some (word48 a b c d e f, r)
  | _ => none

/-- An optional field: a presence byte, followed by the field when it is 1 (R198). -/
def getOpt {α : Type} (f : Parser α) : Parser (OptField α)
  | [] => none
  | b :: r => if b = 0 then some (.absent, r) else if b = 1 then (f r).map fun x => (.given x.1, x.2) else some (.undefinedPresence b, r)

/-- A handle. -/
def getHandle : Parser RawHandle := fun bs => do
  let (slot, bs) ← get8 bs
  let (gen, bs) ← get8 bs
  return ({ slot, gen }, bs)

/-- An input selector or a cue output selection. -/
def getSelector : Parser RawSelector := fun bs => do
  let (kind, bs) ← get8 bs
  let (number, bs) ← get8 bs
  return ({ kind, number }, bs)

/-- The body of SET CALENDAR. -/
def getCalendar : Parser RawCalendar := fun bs => do
  let (year, bs) ← get16 bs
  let (month, bs) ← get8 bs
  let (day, bs) ← get8 bs
  let (hour, bs) ← get8 bs
  let (minute, bs) ← get8 bs
  let (second, bs) ← get8 bs
  let (dow, bs) ← get8 bs
  return ({ year, month, day, hour, minute, second, dow }, bs)

/-- The body of WRITE LANE. -/
def getLane : Parser RawLane := fun bs => do
  let (lane, bs) ← get8 bs
  let (enable, bs) ← get8 bs
  let (feed, bs) ← get8 bs
  let (zone, bs) ← get8 bs
  let (cadence, bs) ← get8 bs
  let (phase, bs) ← get16 bs
  let (pathDelay, bs) ← get32 bs
  let (claimLead, bs) ← get32 bs
  let (lateGrace, bs) ← get32 bs
  let (ceiling, bs) ← get16 bs
  let (ackGrace, bs) ← get32 bs
  let (expected, bs) ← getOpt get8 bs
  return ({ lane, enable, feed, zone, cadence, phase, pathDelay, claimLead, lateGrace, ceiling, ackGrace, expected }, bs)

/-- A cell's configuration. -/
def getCell : Parser RawCell := fun bs => do
  let (input0, bs) ← getSelector bs
  let (input1, bs) ← getSelector bs
  let (input2, bs) ← getSelector bs
  let (table, bs) ← get8 bs
  let (settle, bs) ← get8 bs
  let (edge, bs) ← get8 bs
  let (source, bs) ← get8 bs
  let (feed, bs) ← get8 bs
  let (kind, bs) ← get8 bs
  let (cls, bs) ← get8 bs
  let (lead, bs) ← get32 bs
  return ({ input0, input1, input2, table, settle, edge, source, feed, kind, cls, lead }, bs)

/-- The body of WRITE PAIR. -/
def getPair : Parser RawPair := fun bs => do
  let (pair, bs) ← get8 bs
  let (mode, bs) ← get8 bs
  let (even, bs) ← getCell bs
  let (odd, bs) ← getCell bs
  let (expected, bs) ← getOpt get8 bs
  return ({ pair, mode, even, odd, expected }, bs)

/-- The body of ENABLE PAIR. -/
def getEnable : Parser RawEnable := fun bs => do
  let (pair, bs) ← get8 bs
  let (enable, bs) ← get8 bs
  let (expected, bs) ← getOpt get8 bs
  return ({ pair, enable, expected }, bs)

/-- The body of SET CUE OUTPUT. -/
def getOutput : Parser RawOutput := fun bs => do
  let (output, bs) ← get8 bs
  let (selection, bs) ← getSelector bs
  return ({ output, selection }, bs)

/-- The body of WRITE FILTER. -/
def getFilter : Parser RawFilter := fun bs => do
  let (filter, bs) ← get8 bs
  let (enable, bs) ← get8 bs
  let (feed, bs) ← get8 bs
  let (kinds, bs) ← get8 bs
  let (idValue, bs) ← get32 bs
  let (idMask, bs) ← get32 bs
  let (classLow, bs) ← get8 bs
  let (classHigh, bs) ← get8 bs
  let (origin, bs) ← get8 bs
  let (action, bs) ← get8 bs
  let (notify, bs) ← get8 bs
  let (lanes, bs) ← get32 bs
  let (expected, bs) ← getOpt get8 bs
  return ({ filter, enable, feed, kinds, idValue, idMask, classLow, classHigh, origin, action, notify, lanes, expected }, bs)

/-- The body of BOOK AVAIL. -/
def getBooking : Parser RawBooking := fun bs => do
  let (lane, bs) ← get8 bs
  let (eventId, bs) ← get32 bs
  let (cls, bs) ← get8 bs
  let (outTick, bs) ← get48 bs
  let (frames, bs) ← get32 bs
  return ({ lane, eventId, cls, outTick, frames }, bs)

/-- The body of CLAIM. -/
def getClaim : Parser RawClaim := fun bs => do
  let (handle, bs) ← getHandle bs
  let (rank, bs) ← get8 bs
  let (source, bs) ← get8 bs
  let (spot, bs) ← getOpt get32 bs
  return ({ handle, rank, source, spot }, bs)

/-- The body of STAND. -/
def getStand : Parser RawStand := fun bs => do
  let (lane, bs) ← get8 bs
  let (rank, bs) ← get8 bs
  let (source, bs) ← get8 bs
  let (spot, bs) ← getOpt get32 bs
  return ({ lane, rank, source, spot }, bs)

/-- The body of WRITE WINDOW. -/
def getWindow : Parser RawWindow := fun bs => do
  let (window, bs) ← get8 bs
  let (enable, bs) ← get8 bs
  let (type, bs) ← get8 bs
  let (days, bs) ← get8 bs
  let (hour, bs) ← get8 bs
  let (minute, bs) ← get8 bs
  let (second, bs) ← get8 bs
  let (duration, bs) ← get32 bs
  let (lanes, bs) ← get32 bs
  let (source, bs) ← get8 bs
  let (expected, bs) ← getOpt get8 bs
  return ({ window, enable, type, days, hour, minute, second, duration, lanes, source, expected }, bs)

/-- The body of ALERT START. -/
def getAlert : Parser RawAlert := fun bs => do
  let (id, bs) ← get8 bs
  let (level, bs) ← get8 bs
  let (zones, bs) ← get16 bs
  let (source, bs) ← get8 bs
  let (duration, bs) ← get16 bs
  return ({ id, level, zones, source, duration }, bs)

/-- Reads a whole body: none where its length is not one that the request allows (R186, LENGTH). -/
def whole {α : Type} (f : Parser α) (mk : α → Instr) (bs : List Byte) : Option Instr :=
  match f bs with
  | some (a, []) => some (mk a)
  | _ => none

/-- An empty body. -/
def getNone : Parser Unit := fun bs => some ((), bs)

/-- The command that a request's body spells (R198). through says whether the master clocked a FETCH's item through (R191). -/
def decodeBody (p : Fin 4) (through : Bool) : Req → List Byte → Option Instr
  | .status => whole getNone fun _ => .status p
  | .fetch => whole getNone fun _ => .fetch p through
  | .subscribe => whole get24 (.subscribe p)
  | .rejoin => whole getNone fun _ => .rejoin p
  | .readTime => whole getNone fun _ => .readTime p
  | .setCalendar => whole getCalendar (.setCalendar p)
  | .readLane => whole get8 (.readLane p)
  | .writeLane => whole getLane (.writeLane p)
  | .laneReset => whole get8 (.laneReset p)
  | .readOrderLink => whole getNone fun _ => .readOrderLink p
  | .readIntake => whole getNone fun _ => .readIntake p
  | .readFeed => whole get8 (.readFeed p)
  | .readCueLogic => whole getNone fun _ => .readCueLogic p
  | .readPair => whole get8 (.readPair p)
  | .writePair => whole getPair (.writePair p)
  | .enablePair => whole getEnable (.enablePair p)
  | .setCueOutput => whole getOutput (.setCueOutput p)
  | .readFilter => whole get8 (.readFilter p)
  | .writeFilter => whole getFilter (.writeFilter p)
  | .readHit => whole get8 (.readHit p)
  | .readStrays => whole getNone fun _ => .readStrays p
  | .takeStray => whole getNone fun _ => .takeStray p
  | .readAvail => whole getHandle (.readAvail p)
  | .readLaneAvails => whole get8 (.readLaneAvails p)
  | .bookAvail => whole getBooking (.bookAvail p)
  | .cancelAvail => whole getHandle (.cancelAvail p)
  | .release => whole getHandle (.release p)
  | .claim => whole getClaim (.claim p)
  | .withdraw => whole getHandle (.withdraw p)
  | .stand => whole getStand (.stand p)
  | .standClear => whole get8 (.standClear p)
  | .standPause => whole get8 (.standPause p)
  | .standResume => whole get8 (.standResume p)
  | .readStanding => whole get8 (.readStanding p)
  | .readWindow => whole get8 (.readWindow p)
  | .writeWindow => whole getWindow (.writeWindow p)
  | .readAlerts => whole getNone fun _ => .readAlerts p
  | .alertStart => whole getAlert (.alertStart p)
  | .alertEnd => whole get8 (.alertEnd p)

/-- The bytes of a select that are its frame (R186): all of them, but where they begin with a well-formed FETCH its 3 bytes alone. The
bytes that the master sends during the delivered item are no part of the frame (R191). -/
def frameBytes (bytes : List Byte) : List Byte := if bytes.take 3 = [2, 0, 254] then bytes.take 3 else bytes

/-- The bytes that a frame must have: L + 3, and for FETCH 3 (R186). DEDUCED, unsafe (log entry 25): a FETCH whose length or check byte is
wrong delivers no item (R191), so that every byte clocked counts. -/
def frameSizeOk (code len : Byte) (n : Nat) : Bool :=
  decide (len.toNat ≤ Config.maxBody) && if code = 2 then decide (n = 3) else decide (n = len.toNat + 3)

/-- The form of the bytes of a frame (R186): the causes in their order. -/
def frameForm (p : Fin 4) (through : Bool) (frame : List Byte) : FrameForm :=
  match frame with
  | code :: len :: rest =>
    if frameSizeOk code len frame.length = false then .malformed .size code
    else if byteSum frame ≠ 0 then .malformed .check code
    else
      match reqOf code with
      | none => .malformed .code code
      | some r =>
        if code = 2 ∧ len ≠ 0 then .malformed .length code
        else
          match decodeBody p through r (rest.take len.toNat) with
          | none => .malformed .length code
          | some i => .wellFormed i
  | _ => .notAFrame

/-- The form of the bytes clocked in a select, those during a FETCH's item among them (R186, R191). -/
def decodeFrame (p : Fin 4) (through : Bool) (bytes : List Byte) : FrameForm := frameForm p through (frameBytes bytes)

/-! ## The encoder of client frames -/

/-- The bytes of an optional field. -/
def putOpt {α : Type} (f : α → List Byte) : OptField α → List Byte
  | .absent => [0]
  | .given a => 1 :: f a
  | .undefinedPresence b => [b]

/-- The bytes of a handle. -/
def putHandle (h : RawHandle) : List Byte := [h.slot, h.gen]

/-- The bytes of a selector. -/
def putSelector (x : RawSelector) : List Byte := [x.kind, x.number]

/-- The bytes of a 1-byte field. -/
def put8 (b : Byte) : List Byte := [b]

/-- The bytes of a cell's configuration. -/
def putCell (c : RawCell) : List Byte :=
  putSelector c.input0 ++ putSelector c.input1 ++ putSelector c.input2 ++
    [c.table, c.settle, c.edge, c.source, c.feed, c.kind, c.cls] ++ bytes32 c.lead

/-- The request and the body that spell a client command (R198); none for a command that is no client request. -/
def encodeBody : Instr → Option (Req × List Byte)
  | .status _ => some (.status, [])
  | .fetch _ _ => some (.fetch, [])
  | .subscribe _ m => some (.subscribe, bytes24 m)
  | .rejoin _ => some (.rejoin, [])
  | .readTime _ => some (.readTime, [])
  | .setCalendar _ r => some (.setCalendar, bytes16 r.year ++ [r.month, r.day, r.hour, r.minute, r.second, r.dow])
  | .readLane _ l => some (.readLane, [l])
  | .writeLane _ r =>
    some (.writeLane, [r.lane, r.enable, r.feed, r.zone, r.cadence] ++ bytes16 r.phase ++ bytes32 r.pathDelay ++ bytes32 r.claimLead ++
      bytes32 r.lateGrace ++ bytes16 r.ceiling ++ bytes32 r.ackGrace ++ putOpt put8 r.expected)
  | .laneReset _ l => some (.laneReset, [l])
  | .readOrderLink _ => some (.readOrderLink, [])
  | .readIntake _ => some (.readIntake, [])
  | .readFeed _ f => some (.readFeed, [f])
  | .readCueLogic _ => some (.readCueLogic, [])
  | .readPair _ k => some (.readPair, [k])
  | .writePair _ r => some (.writePair, [r.pair, r.mode] ++ putCell r.even ++ putCell r.odd ++ putOpt put8 r.expected)
  | .enablePair _ r => some (.enablePair, [r.pair, r.enable] ++ putOpt put8 r.expected)
  | .setCueOutput _ r => some (.setCueOutput, [r.output] ++ putSelector r.selection)
  | .readFilter _ f => some (.readFilter, [f])
  | .writeFilter _ r =>
    some (.writeFilter, [r.filter, r.enable, r.feed, r.kinds] ++ bytes32 r.idValue ++ bytes32 r.idMask ++
      [r.classLow, r.classHigh, r.origin, r.action, r.notify] ++ bytes32 r.lanes ++ putOpt put8 r.expected)
  | .readHit _ f => some (.readHit, [f])
  | .readStrays _ => some (.readStrays, [])
  | .takeStray _ => some (.takeStray, [])
  | .readAvail _ h => some (.readAvail, putHandle h)
  | .readLaneAvails _ l => some (.readLaneAvails, [l])
  | .bookAvail _ r => some (.bookAvail, [r.lane] ++ bytes32 r.eventId ++ [r.cls] ++ bytes48 r.outTick ++ bytes32 r.frames)
  | .cancelAvail _ h => some (.cancelAvail, putHandle h)
  | .release _ h => some (.release, putHandle h)
  | .claim _ r => some (.claim, putHandle r.handle ++ [r.rank, r.source] ++ putOpt bytes32 r.spot)
  | .withdraw _ h => some (.withdraw, putHandle h)
  | .stand _ r => some (.stand, [r.lane, r.rank, r.source] ++ putOpt bytes32 r.spot)
  | .standClear _ l => some (.standClear, [l])
  | .standPause _ l => some (.standPause, [l])
  | .standResume _ l => some (.standResume, [l])
  | .readStanding _ l => some (.readStanding, [l])
  | .readWindow _ w => some (.readWindow, [w])
  | .writeWindow _ r =>
    some (.writeWindow, [r.window, r.enable, r.type, r.days, r.hour, r.minute, r.second] ++ bytes32 r.duration ++ bytes32 r.lanes ++
      [r.source] ++ putOpt put8 r.expected)
  | .readAlerts _ => some (.readAlerts, [])
  | .alertStart _ r => some (.alertStart, [r.id, r.level] ++ bytes16 r.zones ++ [r.source] ++ bytes16 r.duration)
  | .alertEnd _ a => some (.alertEnd, [a])
  | .powerOnReset _ _ | .secondBoundary | .chipSelectAssert _ | .malformedFrame _ _ | .quietExpiry _ | .orderSendStart | .orderSendEnd
  | .done _ _ | .fault _ _ _ | .fabricMessageMalformed _ | .ackTimerExpiry _ | .recordArrival _ | .intakeTaking | .lineChange _ _
  | .settleExpiry _ | .claimClose _ | .outCommitPoint _ | .fillCommitPoint _ | .inCommitPoint _ | .alertExpiry _ | .stationTick
  | .fetchCheckByte _ => none

/-- The code byte of a request (12.6). -/
def codeOf (r : Req) : Byte := reqCode r

/-- The frame of a client command (R199): request code, body length, body, check byte. -/
def encodeFrame (i : Instr) : Option (List Byte) :=
  (encodeBody i).map fun x =>
    let front := codeOf x.1 :: BitVec.ofNat 8 x.2.length :: x.2
    front ++ [checkByte front]

/-! ## Words of the opcode table -/

/-- The command that a word spells by the bits of spec/opcode_table.json. No row of that table gives bits, so no word spells one; the
links' own bytes are read by decodeFrame, decodeFabric and decodeRecord. -/
def decodeTableWord (_nbits _w : Nat) : Option Instr := none

end Sys2Proof
end

