-- ==== Sys2Proof/Machine/Intake.lean ====
section
/-! DEFINITION. The Cue Intake Unit (Chapter 4): arrival, the intake FIFO, the taking of records, feed references and their reading. -/

namespace Sys2Proof.Machine

/-! ## Arrival (4.1) -/

/-- A record arrives (R53): it joins the FIFO as received, or is an overrun (R56). -/
def takeArrival (bytes : List Byte) (s : State) : State :=
  if s.fifo.length < Config.fifoDepth then { s with fifo := s.fifo ++ [{ bytes, arrival := s.tick }] }
  else { s with overruns := satInc Config.countMax s.overruns, lastOverrun := some s.tick }

/-! ## Taking (4.2 to 4.4) -/

/-- The type code of a record as received, its first byte (R200). -/
def recordType (bytes : List Byte) : Byte := bytes.headD 0

/-- The feed field of a record, its second byte, where the record has one before its check byte (R58, R200). -/
def recordFeed : List Byte → Option Byte
  | _ :: feed :: _ :: _ => some feed
  | _ => none

/-- An invalid record (R58). -/
def rejectRecord (e : IntakeEntry) (cause : RecordCause) (s : State) : State :=
  { s with
    intakeErrors := satInc Config.countMax s.intakeErrors
    lastIntakeError := some
      { cause, typeCode := recordType e.bytes, feed := recordFeed e.bytes, arrival := e.arrival, tick := s.tick } }

/-- The discontinuity notices of a feed's lanes, in ascending lane order (R63). -/
def raiseDiscontinuity (f : Fin 32) (s : State) : State :=
  (List.finRange 32).foldl (fun s l => if (s.lane l).cfg.feed = f then raiseLaneState l .discontinuity s else s) s

/-- A valid TIMEREF record (R61, R63). -/
def takeTimeref (f : Fin 32) (stamp : Stamp) (arrival : Tick) (discontinuity : Bool) (s : State) : State :=
  let s1 := s.setFeedRef f { valid := true, stamp, station := arrival }
  if discontinuity then raiseDiscontinuity f s1 else s1

/-- The record taken from the head of the FIFO is judged and delivered or applied (R58, R60, R61). -/
def takeRecord (e : IntakeEntry) (s : State) : State :=
  match decodeRecord e.bytes with
  | .error cause => rejectRecord e cause s
  | .ok (.cue feed kind eventId cls timing duration) =>
    deliverCue { feed, kind, eventId, cls, timing, duration, origin := .inband, arrival := e.arrival } s
  | .ok (.timeref feed stamp discontinuity) => takeTimeref feed stamp e.arrival discontinuity s

/-- A taking (R57). With an empty FIFO there is none. -/
def takeIntake (s : State) : State :=
  match s.fifo with
  | [] => s
  | e :: rest => takeRecord e { s with fifo := rest }

/-! ## Requests (4.5) -/

/-- READ INTAKE (R65). -/
def readIntakeAct (s : State) : Answer :=
  { code := .ok, body := .intake s.fifo.length s.ready s.intakeErrors s.lastIntakeError s.overruns s.lastOverrun, state := s }

/-- READ FEED (R66). -/
def readFeedAct (f : Byte) (s : State) : Answer :=
  match toFin 32 f with
  | none => refuse .range s
  | some f =>
    let r := s.feedRef f
    { code := .ok, body := .feed r (if r.valid then some (s.tick - r.station) else none) (r.stale s.tick), state := s }

/-! ## The commands -/

/-- RECORD_ARRIVAL (R53). -/
def execRecordArrival (bytes : List Byte) (s : State) : Result := .next (takeArrival bytes s)

/-- INTAKE_TAKING (R57). -/
def execIntakeTaking (s : State) : Result := .next (takeIntake s)

/-- READ INTAKE (R65). -/
def execReadIntake (p : Fin 4) (s : State) : Result := .next (takeRequest p .readIntake readIntakeAct s)

/-- READ FEED (R66). -/
def execReadFeed (p : Fin 4) (f : Byte) (s : State) : Result := .next (takeRequest p .readFeed (readFeedAct f) s)

end Sys2Proof.Machine
end

