-- ==== Sys2Proof/Machine/Lanes.lean ====
section
/-! DEFINITION. The Lane Table's requests (Chapter 2): READ LANE, WRITE LANE with its consequences, and LANE RESET. -/

namespace Sys2Proof.Machine

/-! ## Reading and writing a lane (2.1, 2.2) -/

/-- READ LANE (R17). -/
def readLaneAct (lane : Byte) (s : State) : Answer :=
  match toFin 32 lane with
  | none => refuse .range s
  | some l => { code := .ok, body := .lane (s.lane l) (earliestEffect (s.lane l) s.tick), state := s }

/-- The refusal of a WRITE LANE whose fields are within range, if any (R18, checks 2 to 4). -/
def laneRefusal (L : Lane) (cfg : LaneConfig) (expected : Option Byte) : Option ReplyCode :=
  if expected.any (fun e => decide (e ≠ L.revision)) then some .stale
  else if L.state ≠ .off ∧ (cfg.cadence ≠ L.cfg.cadence ∨ cfg.phase ≠ L.cfg.phase ∨ cfg.pathDelay ≠ L.cfg.pathDelay) then some .busy
  else if L.state = .stopping ∧ cfg.enable = true then some .busy
  else none

/-- A lane in OFF is enabled (R21). DEDUCED, unsafe (log entry 13): R21 does not place the clearing of a fault reason left from an earlier
STOPPING against the notice of the change to RUN. The model clears it first, as R25 does, so that the notice shows none. -/
def enableLane (l : Fin 32) (s : State) : State :=
  let s1 := setLaneState l .run (s.updLane l fun L => { L with faultReason := none, failedTarget := none })
  reresolve .ordinary l (commit l .owner .net (earliestEffect (s1.lane l) s1.tick) none s1)

/-- The stop order of a lane: committed at once, or planned behind the committed order (R22). -/
def prepareStop (l : Fin 32) (s : State) : State :=
  let L := s.lane l
  match L.committed with
  | none => commit l .stop .net (earliestEffect L s.tick) none s
  | some c =>
    s.updLane l fun L =>
      { L with planned := some { kind := .stop, target := .net, effect := addPeriods L.period L.cfg.phase c.effect 1, avail := none } }

/-- The owner of a lane is an avail in OUT, which its ending takes out of OUT (R27, R137). -/
def ownerLeft (s : State) (l : Fin 32) : Bool := (outAvail s l none).isSome

/-- A lane in RUN or FAULT is disabled (R22). An avail that leaves OUT makes the lane's owner be resolved again (R27). -/
def disableLane (l : Fin 32) (s : State) : State :=
  let left := ownerLeft s l
  let s1 := setLaneState l .stopping (s.updLane l fun L => { L with planned := none })
  let s2 := prepareStop l (finishLane l .cancelled .laneOff s1)
  if left then reresolve .ordinary l s2 else s2

/-- The consequence of an accepted WRITE LANE on the lane state (R19, R21, R22): the states and enables before and after the write. -/
def enableConsequence (l : Fin 32) (was now : Bool) (s : State) : State :=
  match (s.lane l).state, was, now with
  | .off, false, true => enableLane l s
  | .run, true, false => disableLane l s
  | .fault, true, false => disableLane l s
  | _, _, _ => s

/-- An accepted WRITE LANE (R18, R19): the new configuration and revision, then its consequences. -/
def acceptLane (l : Fin 32) (cfg : LaneConfig) (s : State) : State :=
  let L := s.lane l
  let s1 := s.updLane l fun L => { L with cfg, revision := L.revision + 1 }
  let s2 := enableConsequence l L.cfg.enable cfg.enable s1
  if cfg.zone = L.cfg.zone then s2 else reresolve .ordinary l s2

/-- WRITE LANE (R18). -/
def writeLaneAct (r : RawLane) (s : State) : Answer :=
  match laneWriteOf r with
  | none => refuse .range s
  | some (l, cfg, expected) =>
    match laneRefusal (s.lane l) cfg expected with
    | some .stale => { code := .stale, body := .revision (s.lane l).revision, state := s }
    | some e => refuse e s
    | none => { code := .ok, body := .revision ((s.lane l).revision + 1), state := acceptLane l cfg s }

/-! ## LANE RESET (2.3) -/

/-- A lane in FAULT is taken back into control (R25). -/
def resetLane (l : Fin 32) (s : State) : State :=
  reresolve .laneReset l (setLaneState l .run (s.updLane l fun L => { L with faultReason := none, failedTarget := none }))

/-- LANE RESET (R25). -/
def laneResetAct (lane : Byte) (s : State) : Answer :=
  match toFin 32 lane with
  | none => refuse .range s
  | some l =>
    if (s.lane l).state = .fault then { code := .ok, body := .none, state := resetLane l s } else refuse .busy s

/-! ## The commands -/

/-- READ LANE (R17). -/
def execReadLane (p : Fin 4) (l : Byte) (s : State) : Result := .next (takeRequest p .readLane (readLaneAct l) s)

/-- WRITE LANE (R18). -/
def execWriteLane (p : Fin 4) (r : RawLane) (s : State) : Result := .next (takeRequest p .writeLane (writeLaneAct r) s)

/-- LANE RESET (R25). -/
def execLaneReset (p : Fin 4) (l : Byte) (s : State) : Result := .next (takeRequest p .laneReset (laneResetAct l) s)

end Sys2Proof.Machine
end

