-- ==== Sys2Proof/Machine/OrderLink.lean ====
section
/-! DEFINITION. The Order Link Controller (Chapter 3): the sending of orders, the matching of the fabric's answers, the acknowledgement timer
and READ ORDER LINK. -/

namespace Sys2Proof.Machine

/-! ## Sending (3.2) -/

/-- The start of a send is due: the link is idle and a message is at the head of the queue (R39). -/
def sendDue (s : State) : Bool := s.sending.isNone && !s.orderQueue.isEmpty

/-- A send begins when the link is idle and a message is at the head of the queue (R39). -/
def startSend (s : State) : State :=
  match s.sending, s.orderQueue with
  | none, _ :: _ => { s with sending := some s.tick }
  | _, _ => s

/-- The outstanding record of a lane whose ORDER has gone out (R39). -/
def markSent (l : Fin 32) (s : State) : State := s.setOrder l ((s.order l).map fun o => { o with sent := true })

/-- The link after its send has ended or was cut off, the message having left the queue: the next message, if any, begins (R39, R48). -/
def sendNext (s : State) : State := { s with sending := if s.orderQueue = [] then none else some s.tick }

/-- A send ends (R39): it has taken a positive number of ticks, its message leaves the queue, and the next message, if any, begins. -/
def endSend (s : State) : State :=
  match s.sending, s.orderQueue with
  | some t, m :: rest => if t = s.tick then s else markSent m.lane (sendNext { s with orderQueue := rest })
  | _, _ => s

/-! ## Answers from the fabric (3.4, 3.5) -/

/-- The outstanding record that an answer matches (R42). -/
def matched (l : Fin 32) (seq : Byte) (s : State) : Option Outstanding :=
  match s.order l with
  | some o => if o.seq = seq ∧ o.sent = true then some o else none
  | none => none

/-- A late answer (R44). -/
def lateAnswer (l : Fin 32) (seq : Byte) (code : Option FabricCode) (s : State) : State :=
  { s with
    lateCount := satInc Config.countMax s.lateCount
    lastLate := some { lane := l, seq, code, tick := s.tick } }

/-- A well-formed DONE (R42, R44, R45). -/
def takeDone (l : Fin 32) (seq : Byte) (s : State) : State :=
  match matched l seq s with
  | some o => orderDone l o s
  | none => lateAnswer l seq none s

/-- A well-formed FAULT (R42, R44, R47). -/
def takeFault (l : Fin 32) (seq : Byte) (code : FabricCode) (s : State) : State :=
  match matched l seq s with
  | some o => laneFault l o .fabric (some code) (s.setOrder l none)
  | none => lateAnswer l seq (some code) s

/-- A malformed message (R41). -/
def linkError (cause : LinkCause) (s : State) : State :=
  { s with linkErrors := satInc Config.countMax s.linkErrors, lastLinkError := some { cause, tick := s.tick } }

/-- The bytes of a message that FABRIC_MESSAGE_MALFORMED names (R41). Bytes that spell a DONE or a FAULT are no malformed message. -/
def takeMalformed (bytes : List Byte) (s : State) : State :=
  match decodeFabric bytes with
  | .error cause => linkError cause s
  | .ok _ => s

/-! ## The acknowledgement timer (3.3, 3.5) -/

/-- The expiry of a lane's acknowledgement timer is due (R40). -/
def ackDue (l : Fin 32) (s : State) : Bool :=
  match s.order l with
  | some o => decide (o.ackExpiry = s.tick)
  | none => false

/-- The ORDER of a lane is being sent: the link is busy and the message stands at the head of the queue (R39). -/
def beingSent (l : Fin 32) (s : State) : Bool := s.sending.isSome && ((s.orderQueue.head?.map OrderMsg.lane) == some l)

/-- A lane's unsent ORDER leaves the outbound queue; a send of it is cut off, and the link takes the next message (R48). -/
def dropOrder (l : Fin 32) (s : State) : State :=
  let s1 : State := { s with orderQueue := s.orderQueue.filter fun m => decide (m.lane ≠ l) }
  if beingSent l s then sendNext s1 else s1

/-- The expiry of a lane's acknowledgement timer, where it is due (R48). -/
def takeAckExpiry (l : Fin 32) (s : State) : State :=
  match s.order l with
  | some o =>
    if ackDue l s then laneFault l o .timeout none ((if o.sent then s else dropOrder l s).setOrder l none) else s
  | none => s

/-! ## READ ORDER LINK (3.7) -/

/-- READ ORDER LINK (R52). -/
def readOrderLinkAct (s : State) : Answer :=
  { code := .ok
    body := .orderLink s.lateCount s.linkErrors ((List.finRange 32).filter fun l => (s.order l).isSome).length s.orderQueue.length
      s.lastLate s.lastLinkError
    state := s }

/-! ## The commands -/

/-- ORDER_SEND_START (R39). -/
def execOrderSendStart (s : State) : Result := .next (startSend s)

/-- ORDER_SEND_END (R39). -/
def execOrderSendEnd (s : State) : Result := .next (endSend s)

/-- DONE (R45). -/
def execDone (l : Fin 32) (seq : Byte) (s : State) : Result := .next (takeDone l seq s)

/-- FAULT (R47). -/
def execFault (l : Fin 32) (seq : Byte) (code : FabricCode) (s : State) : Result := .next (takeFault l seq code s)

/-- FABRIC_MESSAGE_MALFORMED (R41). -/
def execFabricMessageMalformed (bytes : List Byte) (s : State) : Result := .next (takeMalformed bytes s)

/-- ACK_TIMER_EXPIRY (R48). -/
def execAckTimerExpiry (l : Fin 32) (s : State) : Result := .next (takeAckExpiry l s)

/-- READ ORDER LINK (R52). -/
def execReadOrderLink (p : Fin 4) (s : State) : Result := .next (takeRequest p .readOrderLink readOrderLinkAct s)

end Sys2Proof.Machine
end

