-- ==== Sys2Proof/Machine/Ports.lean ====
section
/-! DEFINITION. The Client Port Controller (Chapter 12): reset, selects, malformed frames, FETCH, SUBSCRIBE, REJOIN and the completion of a
rejoin, STATUS. The handling of a well-formed request is takeRequest in Machine/Ops.lean. -/

namespace Sys2Proof.Machine

/-! ## Selects and malformed frames (12.2, 12.3) -/

/-- The assertion of a chip select (R187): the snapshot of the port, and no item chosen in this select yet (R191). -/
def takeSelect (p : Fin 4) (s : State) : State :=
  s.updPort p fun P => { P with preamble := some P.preambleBytes, chosen := none }

/-- The FORM reply of a malformed frame (R188, step 1). -/
def formReply (cause : FormCause) (code : Byte) : Reply := { request := code, outcome := .form, body := .form cause }

/-- A port's record as it enters DETACHED (R190, steps 1 and 2). -/
def Port.detached (P : Port) : Port := { P with reply := none, queue := [], errors := Config.detachCount, state := .detached }

/-- A port enters DETACHED (R190). -/
def detach (p : Fin 4) (s : State) : State :=
  let before := (s.port p).state
  raise (.portState p before .detached Config.detachCount .frame s.tick) [p] (detachClaims p (s.updPort p Port.detached))

/-- A FORM reply is placed where the slot is empty (R188, step 1). -/
def Port.placeForm (P : Port) (cause : FormCause) (code : Byte) : Port :=
  { P with reply := some (P.reply.getD (formReply cause code)) }

/-- A quiet interval that runs starts again (R195). -/
def Port.restartQuiet (P : Port) (now : Tick) : Port :=
  { P with quiet := P.quiet.map fun _ => addTicks now Config.quietInterval }

/-- A malformed frame with its cause and its request code as received (R188, R189, R190, R195). -/
def takeMalformedFrame (p : Fin 4) (cause : FormCause) (code : Byte) (s : State) : State :=
  let s0 := s.updPort p fun P => { P with chosen := none }
  let P := s0.port p
  if P.state = .detached then s0.updPort p fun P => (P.placeForm cause code).restartQuiet s.tick
  else if Config.detachCount ≤ P.errors + Config.malformedCost then detach p s0
  else setErrors p (P.errors + Config.malformedCost) (s0.updPort p fun P => P.placeForm cause code)

/-- The bytes of a frame that MALFORMED_FRAME names (R186). Bytes that are no frame, or a well-formed one, are no malformed frame. -/
def takeBytes (p : Fin 4) (bytes : List Byte) (s : State) : State :=
  match decodeFrame p true bytes with
  | .malformed cause code => takeMalformedFrame p cause code s
  | .notAFrame => s
  | .wellFormed _ => s

/-! ## FETCH (12.4) -/

/-- The part has received a FETCH's check byte and chooses the item (R191). -/
def takeFetchCheckByte (p : Fin 4) (s : State) : State := s.updPort p fun P => { P with chosen := some P.choose }

/-- The item of a FETCH: the one chosen at its check byte. A FETCH whose check byte was not given as a command of its own chooses at its
taking (R191). -/
def Port.item (P : Port) : Item := P.chosen.getD P.choose

/-- A port after the chosen item was clocked through (R191). -/
def Port.delivered (P : Port) (x : Item) : Port :=
  match x with
  | .reply _ => { P with reply := none }
  | .notice _ => { P with queue := P.queue.tail }
  | .empty => P

/-- The taking of a well-formed FETCH (R188, step 1; R191). -/
def takeFetch (p : Fin 4) (through : Bool) (s : State) : State :=
  let x := (s.port p).item
  let s1 := goodFrame p s
  if through then s1.updPort p fun P => P.delivered x else s1

/-! ## STATUS, SUBSCRIBE, REJOIN (12.4, 12.5) -/

/-- STATUS (R197). -/
def statusAct (p : Fin 4) (s : State) : Answer :=
  let P := s.port p
  { code := .ok, body := .status p P.role P.state P.errors P.quiet P.queue.length P.dropped P.mask
    state := s.updPort p fun P => { P with dropped := 0 } }

/-- SUBSCRIBE (R194). -/
def subscribeAct (p : Fin 4) (m : BitVec 24) (s : State) : Answer :=
  match maskOf m with
  | none => refuse .range s
  | some mask => { code := .ok, body := .mask (s.port p).mask, state := s.updPort p fun P => { P with mask } }

/-- REJOIN (R195). -/
def rejoinAct (p : Fin 4) (s : State) : Answer :=
  if (s.port p).state = .detached then
    let expiry := addTicks s.tick Config.quietInterval
    { code := .ok, body := .quiet (some expiry), state := s.updPort p fun P => { P with quiet := some expiry } }
  else { code := .ok, body := .quiet none, state := s }

/-- The quiet interval of a port completes at now (R195). -/
def quietDue (p : Fin 4) (s : State) : Bool :=
  decide ((s.port p).state = .detached) && decide ((s.port p).quiet = some s.tick)

/-- The completion of a rejoin (R195, R196). -/
def completeRejoin (p : Fin 4) (s : State) : State :=
  raise (.portState p (s.port p).state .normal 0 .rejoin s.tick) [p]
    (s.updPort p fun P => { P with quiet := none, errors := 0, state := .normal })

/-- The completion of a rejoin, where it is due (R195). -/
def takeQuietExpiry (p : Fin 4) (s : State) : State := if quietDue p s then completeRejoin p s else s

/-! ## The commands -/

/-- POWER_ON_RESET (R1): every block at its initial values, the roles latched and the cue lines sampled. The commands that wait outside the
part are no state of it. -/
def execPowerOnReset (straps : BitVec 8) (lines : BitVec 24) (s : State) : Result :=
  .next { State.initial (rolesOfStraps straps) lines with pending := s.pending }

/-- CHIP_SELECT_ASSERT (R187). -/
def execChipSelectAssert (p : Fin 4) (s : State) : Result := .next (takeSelect p s)

/-- MALFORMED_FRAME (R188). -/
def execMalformedFrame (p : Fin 4) (bytes : List Byte) (s : State) : Result := .next (takeBytes p bytes s)

/-- STATUS (R197). -/
def execStatus (p : Fin 4) (s : State) : Result := .next (takeRequest p .status (statusAct p) s)

/-- FETCH_CHECK_BYTE (R191). -/
def execFetchCheckByte (p : Fin 4) (s : State) : Result := .next (takeFetchCheckByte p s)

/-- FETCH (R191). -/
def execFetch (p : Fin 4) (through : Bool) (s : State) : Result := .next (takeFetch p through s)

/-- SUBSCRIBE (R194). -/
def execSubscribe (p : Fin 4) (m : BitVec 24) (s : State) : Result := .next (takeRequest p .subscribe (subscribeAct p m) s)

/-- REJOIN (R195). -/
def execRejoin (p : Fin 4) (s : State) : Result := .next (takeRequest p .rejoin (rejoinAct p) s)

/-- QUIET_EXPIRY (R195). -/
def execQuietExpiry (p : Fin 4) (s : State) : Result := .next (takeQuietExpiry p s)

end Sys2Proof.Machine
end

