-- ==== Sys2Proof/Machine/Windows.lean ====
section
/-! DEFINITION. The Window Scheduler (Chapter 10): matching, the treatment of the windows at a second boundary, WRITE WINDOW and its
consequences, READ WINDOW. -/

namespace Sys2Proof.Machine

/-! ## Matching and the second boundary (10.2) -/

/-- A start field, ANY or a value, takes a calendar field (R159). -/
def startTakes (start : Option Nat) (value : Nat) : Bool :=
  match start with
  | none => true
  | some n => decide (n = value)

/-- A window's start pattern matches a calendar (R159). -/
def WindowConfig.matches (w : WindowConfig) (c : Calendar) : Bool :=
  w.days.getLsbD (c.dow - 1) && startTakes w.hour c.hour && startTakes w.minute c.minute && startTakes w.second c.second

/-- The notice of a window as it stands (R169): the source is given for INSERT alone. -/
def windowNotice (w : Fin 16) (cause : WindowCause) (s : State) : WindowNotice :=
  let W := s.window w
  { window := w, cause, type := W.cfg.type, lanes := W.cfg.lanes
    source := match W.cfg.type with
      | .insert => some W.cfg.source
      | .blackout => none
    duration := W.cfg.duration, remaining := W.remaining, calendar := s.calendar, tick := s.tick }

/-- Raise WINDOW_OPEN for a window as it stands (R169). -/
def raiseOpen (w : Fin 16) (cause : WindowCause) (s : State) : State := raise (.windowOpen (windowNotice w cause s)) [] s

/-- Raise WINDOW_CLOSE for a window as it stands (R169). -/
def raiseClose (w : Fin 16) (cause : WindowCause) (s : State) : State := raise (.windowClose (windowNotice w cause s)) [] s

/-- Step 1 of the treatment of a window at a boundary (R160): an open window counts down, and closes at 0. -/
def countDown (w : Fin 16) (s : State) : State :=
  let W := s.window w
  if W.isOpen = false then s
  else if W.remaining ≤ 1 then raiseClose w .expired (s.updWindow w fun W => { W with isOpen := false, remaining := 0 })
  else s.updWindow w fun W => { W with remaining := W.remaining - 1 }

/-- Step 2 of the treatment of a window at a boundary (R160): a match opens or restarts it. -/
def matchStart (w : Fin 16) (s : State) : State :=
  let W := s.window w
  if W.cfg.matches s.calendar then
    raiseOpen w (if W.isOpen then .retrigger else .start)
      (s.updWindow w fun W => { W with isOpen := true, remaining := W.cfg.duration })
  else s

/-- The treatment of one window at a boundary (R160): only an enabled window takes part. -/
def treatWindow (s : State) (w : Fin 16) : State := if (s.window w).cfg.enable then matchStart w (countDown w s) else s

/-- The treatment of every window at a boundary (R160). DESIGN CHOICE, unsafe (log entry 14): R160 lets the windows be treated in any order,
and the model takes them in ascending index, so their notices join the queues in that order. -/
def treatWindows (s : State) : State := (List.finRange 16).foldl treatWindow s

/-- The windows whose open flag differs between two states (R161). -/
def changedWindows (before after : State) : List (Fin 16) :=
  (List.finRange 16).filter fun w => decide ((before.window w).isOpen ≠ (after.window w).isOpen)

/-- The Window Scheduler's part in a second boundary (R160, R161): all windows, then one window change for each that opened or closed. -/
def windowBoundary (s : State) : State :=
  let s1 := treatWindows s
  (changedWindows s s1).foldl (fun s w => windowChange (s.window w).cfg.lanes s) s1

/-! ## Writing a window (10.4) -/

/-- A window after an accepted write (R165, R166): its configuration and revision, and its run state where it is open. -/
def Window.written (W : Window) (cfg : WindowConfig) : Window :=
  if W.isOpen = false then { W with cfg, revision := W.revision + 1 }
  else if cfg.enable = false then { cfg, revision := W.revision + 1, isOpen := false, remaining := 0 }
  else { W with cfg, revision := W.revision + 1, remaining := min W.remaining cfg.duration }

/-- A write changes what the Lane Table reads of an open window (R166, step 3). -/
def WindowConfig.moves (old new : WindowConfig) : Bool :=
  decide (new.type ≠ old.type ∨ new.lanes ≠ old.lanes ∨ new.source ≠ old.source)

/-- The notice and the window change of an accepted write to an open window, which is written already (R166). -/
def windowConsequence (w : Fin 16) (old : Window) (s : State) : State :=
  let new := s.window w
  let change := windowChange (old.cfg.lanes ||| new.cfg.lanes)
  if new.cfg.enable = false then change (raiseClose w .disabled s)
  else if old.cfg.moves new.cfg then change (raiseOpen w .edited s)
  else if new.cfg.duration < old.remaining then raiseOpen w .edited s
  else s

/-- An accepted WRITE WINDOW (R164, R165, R166). -/
def acceptWindow (w : Fin 16) (cfg : WindowConfig) (s : State) : State :=
  let old := s.window w
  let s1 := s.updWindow w fun W => W.written cfg
  if old.isOpen then windowConsequence w old s1 else s1

/-- WRITE WINDOW (R164). -/
def writeWindowAct (r : RawWindow) (s : State) : Answer :=
  match windowWriteOf r with
  | none => refuse .range s
  | some (w, cfg, expected) =>
    let W := s.window w
    if expected.any (fun e => decide (e ≠ W.revision)) then { code := .stale, body := .revision W.revision, state := s }
    else
      let N := W.written cfg
      { code := .ok, body := .windowWritten N.revision N.isOpen N.remaining, state := acceptWindow w cfg s }

/-- READ WINDOW (R170). -/
def readWindowAct (w : Byte) (s : State) : Answer :=
  match toFin 16 w with
  | none => refuse .range s
  | some w =>
    let W := s.window w
    { code := .ok, body := .window W.cfg W.revision W.isOpen W.remaining, state := s }

/-! ## The commands -/

/-- READ WINDOW (R170). -/
def execReadWindow (p : Fin 4) (w : Byte) (s : State) : Result := .next (takeRequest p .readWindow (readWindowAct w) s)

/-- WRITE WINDOW (R164). -/
def execWriteWindow (p : Fin 4) (r : RawWindow) (s : State) : Result := .next (takeRequest p .writeWindow (writeWindowAct r) s)

end Sys2Proof.Machine
end

