-- ==== Sys2Proof/Machine/TimeBase.lean ====
section
/-! DEFINITION. The Time Base (Chapter 1): second boundaries, READ TIME, SET CALENDAR and the advance of the station tick counter, which
leaves no event that is due at a tick untaken. -/

namespace Sys2Proof.Machine

/-! ## The second boundary (1.4) -/

/-- A second boundary, where it is due (R9, R10). -/
def takeBoundary (s : State) : State :=
  if s.boundaryDue then windowBoundary { s with boundaryDue := false, calendar := s.calendar.advance } else s

/-! ## Requests (1.5, 1.6) -/

/-- READ TIME (R11). -/
def readTimeAct (s : State) : Answer :=
  { code := .ok, body := .time s.tick s.calendar s.calPhase (intoSecond s.tick s.calPhase), state := s }

/-- The calendar phase that a set taken at a tick gives (R13). -/
def phaseAt (t : Tick) : Nat := t.toNat % Config.ticksPerSecond

/-- An accepted SET CALENDAR (R13, R14): a boundary due at the old phase at this tick does not occur. -/
def setCalendar (p : Fin 4) (c : Calendar) (s : State) : State :=
  raise (.calendarSet p s.tick c (phaseAt s.tick)) [] { s with calendar := c, calPhase := phaseAt s.tick, boundaryDue := false }

/-- SET CALENDAR (R12, R13). -/
def setCalendarAct (p : Fin 4) (r : RawCalendar) (s : State) : Answer :=
  match calendarOf r with
  | none => refuse .range s
  | some c => { code := .ok, body := .calendarSet s.tick (phaseAt s.tick), state := setCalendar p c s }

/-! ## The station tick counter (1.1) -/

/-- Take an event, where it is due, for each member of a block in ascending order. -/
def sweep {n : Nat} (take : Fin n → State → State) (s : State) : State := (List.finRange n).foldl (fun s i => take i s) s

/-- Every event that waits for the present tick and has not been taken yet (R2). DESIGN CHOICE: the order among them is the model's; the
event commands, given before STATION_TICK, choose any other. The send of a message that waits at an idle link begins last (R39). -/
def settleTick (s : State) : State :=
  startSend (sweep takeInCommit (sweep takeFillCommit (sweep takeOutCommit (sweep takeClaimClose (sweep takeAckExpiry
    (sweep takeQuietExpiry (sweep takeAlertExpiry (sweep takeSettle (takeBoundary s)))))))))

/-- The counter advances by one, 2^48 - 1 being followed by 0, and a second boundary is due where it reaches the calendar phase (R1,
R10). -/
def advanceTick (s : State) : State :=
  { s with tick := s.tick + 1, boundaryDue := onCalendarPhase (s.tick + 1) s.calPhase }

/-! ## The commands -/

/-- SECOND_BOUNDARY (R10). -/
def execSecondBoundary (s : State) : Result := .next (takeBoundary s)

/-- READ TIME (R11). -/
def execReadTime (p : Fin 4) (s : State) : Result := .next (takeRequest p .readTime readTimeAct s)

/-- SET CALENDAR (R13). -/
def execSetCalendar (p : Fin 4) (r : RawCalendar) (s : State) : Result := .next (takeRequest p .setCalendar (setCalendarAct p r) s)

/-- STATION_TICK (R1). -/
def execStationTick (s : State) : Result := .next (advanceTick (settleTick s))

end Sys2Proof.Machine
end

