-- ==== Sys2Proof/Machine/Dispatch.lean ====
section
/-! DEFINITION. The effect of each command: one arm for each constructor of Instr. -/

namespace Sys2Proof.Machine

/-- The effect of a command on everything but the queue of waiting commands. -/
def exec (i : Instr) (s : State) : Host.Outcome State Fault Refusal :=
  match i with
  | .powerOnReset straps lines => Sys2Proof.Machine.execPowerOnReset straps lines s
  | .secondBoundary => Sys2Proof.Machine.execSecondBoundary s
  | .chipSelectAssert port => Sys2Proof.Machine.execChipSelectAssert port s
  | .malformedFrame port bytes => Sys2Proof.Machine.execMalformedFrame port bytes s
  | .status port => Sys2Proof.Machine.execStatus port s
  | .fetch port through => Sys2Proof.Machine.execFetch port through s
  | .subscribe port mask => Sys2Proof.Machine.execSubscribe port mask s
  | .rejoin port => Sys2Proof.Machine.execRejoin port s
  | .quietExpiry port => Sys2Proof.Machine.execQuietExpiry port s
  | .readTime port => Sys2Proof.Machine.execReadTime port s
  | .setCalendar port body => Sys2Proof.Machine.execSetCalendar port body s
  | .readLane port lane => Sys2Proof.Machine.execReadLane port lane s
  | .writeLane port body => Sys2Proof.Machine.execWriteLane port body s
  | .laneReset port lane => Sys2Proof.Machine.execLaneReset port lane s
  | .orderSendStart => Sys2Proof.Machine.execOrderSendStart s
  | .orderSendEnd => Sys2Proof.Machine.execOrderSendEnd s
  | .done lane seq => Sys2Proof.Machine.execDone lane seq s
  | .fault lane seq code => Sys2Proof.Machine.execFault lane seq code s
  | .fabricMessageMalformed bytes => Sys2Proof.Machine.execFabricMessageMalformed bytes s
  | .ackTimerExpiry lane => Sys2Proof.Machine.execAckTimerExpiry lane s
  | .readOrderLink port => Sys2Proof.Machine.execReadOrderLink port s
  | .recordArrival bytes => Sys2Proof.Machine.execRecordArrival bytes s
  | .intakeTaking => Sys2Proof.Machine.execIntakeTaking s
  | .readIntake port => Sys2Proof.Machine.execReadIntake port s
  | .readFeed port feed => Sys2Proof.Machine.execReadFeed port feed s
  | .lineChange line level => Sys2Proof.Machine.execLineChange line level s
  | .settleExpiry cell => Sys2Proof.Machine.execSettleExpiry cell s
  | .readCueLogic port => Sys2Proof.Machine.execReadCueLogic port s
  | .readPair port pair => Sys2Proof.Machine.execReadPair port pair s
  | .writePair port body => Sys2Proof.Machine.execWritePair port body s
  | .enablePair port body => Sys2Proof.Machine.execEnablePair port body s
  | .setCueOutput port body => Sys2Proof.Machine.execSetCueOutput port body s
  | .readFilter port filter => Sys2Proof.Machine.execReadFilter port filter s
  | .writeFilter port body => Sys2Proof.Machine.execWriteFilter port body s
  | .readHit port filter => Sys2Proof.Machine.execReadHit port filter s
  | .readStrays port => Sys2Proof.Machine.execReadStrays port s
  | .takeStray port => Sys2Proof.Machine.execTakeStray port s
  | .claimClose slot => Sys2Proof.Machine.execClaimClose slot s
  | .outCommitPoint slot => Sys2Proof.Machine.execOutCommitPoint slot s
  | .fillCommitPoint slot => Sys2Proof.Machine.execFillCommitPoint slot s
  | .inCommitPoint slot => Sys2Proof.Machine.execInCommitPoint slot s
  | .readAvail port handle => Sys2Proof.Machine.execReadAvail port handle s
  | .readLaneAvails port lane => Sys2Proof.Machine.execReadLaneAvails port lane s
  | .bookAvail port body => Sys2Proof.Machine.execBookAvail port body s
  | .cancelAvail port handle => Sys2Proof.Machine.execCancelAvail port handle s
  | .release port handle => Sys2Proof.Machine.execRelease port handle s
  | .claim port body => Sys2Proof.Machine.execClaim port body s
  | .withdraw port handle => Sys2Proof.Machine.execWithdraw port handle s
  | .stand port body => Sys2Proof.Machine.execStand port body s
  | .standClear port lane => Sys2Proof.Machine.execStandClear port lane s
  | .standPause port lane => Sys2Proof.Machine.execStandPause port lane s
  | .standResume port lane => Sys2Proof.Machine.execStandResume port lane s
  | .readStanding port lane => Sys2Proof.Machine.execReadStanding port lane s
  | .readWindow port window => Sys2Proof.Machine.execReadWindow port window s
  | .writeWindow port body => Sys2Proof.Machine.execWriteWindow port body s
  | .readAlerts port => Sys2Proof.Machine.execReadAlerts port s
  | .alertStart port body => Sys2Proof.Machine.execAlertStart port body s
  | .alertEnd port id => Sys2Proof.Machine.execAlertEnd port id s
  | .alertExpiry slot => Sys2Proof.Machine.execAlertExpiry slot s
  | .stationTick => Sys2Proof.Machine.execStationTick s
  | .fetchCheckByte port => Sys2Proof.Machine.execFetchCheckByte port s

end Sys2Proof.Machine
end

