-- ==== Sys2Proof/Machine/LinkFormats.lean ====
section
/-! DEFINITION. What the part sends on its links: the items that a FETCH delivers, with the fields of every reply and notice (R198, R199),
and the ORDER message (R201). -/

namespace Sys2Proof.Machine

/-! ## Fields (R198) -/

/-- A number sent in one byte. -/
def out8 (n : Nat) : List Byte := [BitVec.ofNat 8 n]

/-- A number sent in two bytes. -/
def out16 (n : Nat) : List Byte := bytes16 (BitVec.ofNat 16 n)

/-- A number sent in four bytes. -/
def out32 (n : Nat) : List Byte := bytes32 (BitVec.ofNat 32 n)

/-- A flag, or a level that its rule gives as low or high: low 0 and high 1. -/
def outFlag (b : Bool) : List Byte := [if b then 1 else 0]

/-- The level of the ready output, in R65's order: asserted 0, deasserted 1. DESIGN CHOICE, unsafe (log entry 16): R198 numbers named values in
the order of their rule, and R65 gives no code. -/
def outReady (ready : Bool) : List Byte := [if ready then 0 else 1]

/-- An optional field: a presence byte, then the field when it is 1 (R198). DESIGN CHOICE, unsafe (log entry 16): a value that a rule gives
only in some cases, without calling it optional, is sent so as well. -/
def outOpt {α : Type} (f : α → List Byte) : Option α → List Byte
  | none => [0]
  | some a => 1 :: f a

/-- A list whose length the rule leaves to the reply: a count byte, then its entries. -/
def outList {α : Type} (f : α → List Byte) (xs : List α) : List Byte := out8 xs.length ++ xs.flatMap f

/-- A field that may be ANY, sent as 255. -/
def outAny (x : Option Nat) : List Byte :=
  match x with
  | none => [255]
  | some n => out8 n

/-- A source (R198). -/
def outSource : Source → List Byte
  | .net => [0]
  | .ins n => out8 (n.val + 1)
  | .alertA => [17]
  | .alertB => [18]
  | .fill => [19]

/-- A confirmed source, UNKNOWN being 255. -/
def outConfirmed : Option Source → List Byte
  | none => [255]
  | some x => outSource x

/-- A handle. -/
def outHandle (h : Handle) : List Byte := out8 h.slot.val ++ [h.gen]

/-- A calendar, in the order of R7. -/
def outCalendar (c : Calendar) : List Byte :=
  out16 c.year ++ out8 c.month ++ out8 c.day ++ out8 c.hour ++ out8 c.minute ++ out8 c.second ++ out8 c.dow

/-- An owner. -/
def outOwner : Owner → List Byte
  | .network => [0, 0, 0]
  | .avail h => 1 :: outHandle h
  | .window i => 2 :: out8 i.val ++ [0]
  | .alert a => 3 :: out8 a.val ++ [0]

/-- An avail origin; an avail that a port can read has one. -/
def outAvailOrigin : Option AvailOrigin → List Byte
  | some (.filter f) => 0 :: out8 f.val
  | some (.booked p) => 1 :: out8 p.val
  | none => [0, 0]

/-- A cue origin. -/
def outCueOrigin : CueOrigin → List Byte
  | .inband => [0, 0]
  | .cell n => 1 :: out8 n.val

/-- An input selector. -/
def outSelector : Selector → List Byte
  | .low => [0, 0]
  | .line k => 1 :: out8 k.val
  | .link => [2, 0]
  | .pair => [3, 0]
  | .laneOut l => 4 :: out8 l.val
  | .alertAny => [5, 0]

/-- A cue output selection. -/
def outSelection : OutputSelection → List Byte
  | .low => [0, 0]
  | .cell n => 1 :: out8 n.val
  | .pair k => 2 :: out8 k.val

/-! ## Named values, numbered from 0 in the order of their rules (R198) -/

def cadenceCode : Cadence → Byte
  | .c25 => 0 | .c2997 => 1 | .c30 => 2 | .c50 => 3 | .c5994 => 4 | .c60 => 5

def roleCode : Role → Byte
  | .scheduler => 0 | .inserter => 1 | .alert => 2 | .observer => 3

def cueKindCode : CueKind → Byte
  | .out => 0 | .ret => 1 | .cancel => 2 | .mark => 3

def fabricReplyCode : FabricCode → Byte
  | .sourceUnavailable => 0 | .laneUnavailable => 1 | .tooLate => 2

def outcomeCode : ReplyCode → Byte
  | .ok => 0 | .busy => 1 | .role => 2 | .range => 3 | .stale => 4 | .full => 5 | .late => 6 | .far => 7 | .noRef => 8 | .unknown => 9
  | .closed => 10 | .detached => 11 | .form => 12 | .empty => 13

def formCauseCode : FormCause → Byte
  | .size => 0 | .check => 1 | .code => 2 | .length => 3

def linkCauseCode : LinkCause → Byte
  | .length => 0 | .check => 1 | .type => 2 | .lane => 3 | .code => 4

def recordCauseCode : RecordCause → Byte
  | .check => 0 | .type => 1 | .length => 2 | .field => 3

def laneStateCode : LaneState → Byte
  | .off => 0 | .run => 1 | .stopping => 2 | .fault => 3

def planKindCode : PlanKind → Byte
  | .owner => 0 | .stop => 1 | .fill => 2 | .inStep => 3

def stepKindCode : StepKind → Byte
  | .owner => 0 | .stop => 1 | .out => 2 | .fill => 3 | .inStep => 4

def faultReasonCode : FaultReason → Byte
  | .timeout => 0 | .fabric => 1

def edgeCode : EmitEdge → Byte
  | .none => 0 | .rising => 1 | .falling => 2 | .both => 3

def emitSourceCode : EmitSource → Byte
  | .filtered => 0 | .pair => 1

def modeCode : ElementMode → Byte
  | .off => 0 | .follow => 1 | .setReset => 2 | .capture => 3 | .toggle => 4

def originMatchCode : OriginMatch → Byte
  | .inband => 0 | .cell => 1 | .any => 2

def actionCode : FilterAction → Byte
  | .arm => 0 | .forward => 1 | .drop => 2

/-- Hit outcomes: the reply outcome codes, then the four that only a filter gives, in the order of R93 and R94. -/
def hitOutcomeCode : HitOutcome → Byte
  | .result c => outcomeCode c
  | .ignoredKind => 14 | .noLane => 15 | .forwarded => 16 | .dropped => 17

def availStateCode : AvailState → Byte
  | .empty => 0 | .armed => 1 | .closed => 2 | .out => 3 | .returning => 4 | .ended => 5 | .cancelled => 6 | .missed => 7

def fillStepCode : FillStep → Byte
  | .none => 0 | .waiting => 1 | .committed => 2 | .confirmed => 3 | .superseded => 4

/-- Final results, numbered from 0 in the order in which R117's table lists them (R198). -/
def finalResultCode : FinalResult → Byte
  | .returned => 0 | .released => 1 | .unfilled => 2 | .preempted => 3
  | .cue => 4 | .request => 5 | .laneOff => 6
  | .late => 7 | .alert => 8 | .window => 9 | .blackout => 10 | .fault => 11 | .laneBusy => 12

def windowTypeCode : WindowType → Byte
  | .insert => 0 | .blackout => 1

def retimeCauseCode : RetimeCause → Byte
  | .repeated => 0 | .ret => 1 | .cancel => 2 | .release => 3 | .step => 4

def laneCauseCode : LaneCause → Byte
  | .state => 0 | .owner => 1 | .source => 2 | .discontinuity => 3

def claimKindCode : ClaimKind → Byte
  | .specific => 0 | .standing => 1

/-- The causes of WINDOW_OPEN, then those of WINDOW_CLOSE, each numbered from 0 (R169). -/
def windowCauseCode : WindowCause → Byte
  | .start => 0 | .retrigger => 1 | .edited => 2
  | .expired => 0 | .disabled => 1

def beginCauseCode : BeginCause → Byte
  | .new => 0 | .update => 1

def endReasonCode : EndReason → Byte
  | .ended => 0 | .expired => 1 | .displaced => 2

def portCauseCode : PortCause → Byte
  | .frame => 0 | .rejoin => 1

def dispositionCode : Disposition → Byte
  | .new => 0 | .repeated => 1 | .retimed => 2 | .conflict => 3

def alertDispositionCode : AlertDisposition → Byte
  | .new => 0 | .updated => 1 | .displacing => 2

def withdrawEffectCode : WithdrawEffect → Byte
  | .removed => 0 | .none => 1 | .holderCleared => 2 | .released => 3

/-! ## Records inside bodies -/

/-- A cue with its origin and arrival tick (R60, R87). -/
def outCue (c : Cue) : List Byte :=
  out8 c.feed.val ++ [cueKindCode c.kind] ++ bytes32 c.eventId ++ [c.cls] ++
    (match c.timing with
      | .stamped t => 0 :: bytes32 t
      | .lead n => 1 :: out32 n) ++
    outOpt bytes32 c.duration ++ outCueOrigin c.origin ++ bytes48 c.arrival

/-- A claim in a claims list (R141). -/
def outClaim (c : Claim) : List Byte := out8 c.port.val ++ out8 c.rank ++ outSource c.source ++ outOpt out32 c.spot

/-- A holder (R115). -/
def outHolder (c : Claim) : List Byte := out8 c.port.val ++ outSource c.source ++ out8 c.rank ++ outOpt out32 c.spot

/-- The configuration of a lane with its revision (R15). -/
def outLaneConfig (c : LaneConfig) (revision : Byte) : List Byte :=
  outFlag c.enable ++ out8 c.feed.val ++ out8 c.zone.val ++ [cadenceCode c.cadence] ++ out16 c.phase ++ out32 c.pathDelay ++
    out32 c.claimLead ++ out32 c.lateGrace ++ out16 c.ceiling ++ out32 c.ackGrace ++ [revision]

/-- A planned transition (R16). R16 gives the handle for FILL and IN alone: a presence byte stands before it for every kind (DESIGN CHOICE,
log entry 16). -/
def outPlanned (p : Planned) : List Byte :=
  [planKindCode p.kind] ++ outSource p.target ++ bytes48 p.effect ++ outOpt outHandle p.avail

/-- A committed order (R16). -/
def outCommitted (c : Committed) : List Byte := [c.seq] ++ outSource c.target ++ bytes48 c.effect ++ bytes48 c.commit

/-- A lane record (R15, R16). -/
def outLane (L : Lane) : List Byte :=
  outLaneConfig L.cfg L.revision ++ [laneStateCode L.state] ++ outOwner L.owner ++ outOpt outPlanned L.planned ++
    outOpt outCommitted L.committed ++ outOpt bytes48 L.lastEffect ++ outConfirmed L.confirmed ++ [L.orderSeq] ++
    outOpt (fun r => [faultReasonCode r]) L.faultReason ++ outOpt outSource L.failedTarget

/-- The configuration of a cell (R68). -/
def outCellConfig (c : CellConfig) : List Byte :=
  outSelector c.input0 ++ outSelector c.input1 ++ outSelector c.input2 ++ [c.table] ++ out8 c.settle ++ [edgeCode c.edge] ++
    [emitSourceCode c.source] ++ out8 c.feed.val ++ [cueKindCode c.kind] ++ [c.cls] ++ out32 c.lead

/-- The configuration of a filter with its revision (R86). -/
def outFilter (f : FilterConfig) (revision : Byte) : List Byte :=
  outFlag f.enable ++ outAny (f.feed.map Fin.val) ++ out8 f.kinds.toNat ++ bytes32 f.idValue ++ bytes32 f.idMask ++
    [f.classLow, f.classHigh, originMatchCode f.origin, actionCode f.action] ++ outFlag f.notify ++ bytes32 f.lanes ++ [revision]

/-- A hit record (R87). -/
def outHit (h : HitRecord) : List Byte :=
  out16 h.count ++ outOpt outCue h.lastCue ++ outOpt bytes48 h.hitTick ++ outOpt (fun o => [hitOutcomeCode o]) h.outcome ++
    outOpt (fun l => out8 l.val) h.outcomeLane ++ bytes32 h.lanesApplied ++ outFlag h.unread ++ outFlag h.overwritten

/-- An avail record (R115). -/
def outAvailRecord (i : Fin 64) (a : Avail) : List Byte :=
  outHandle { slot := i, gen := a.gen } ++ [availStateCode a.state] ++ out8 a.lane.val ++ bytes32 a.eventId ++ [a.cls] ++
    outAvailOrigin a.origin ++ bytes48 a.outTick ++ bytes48 a.inTick ++ out32 a.frames ++ outFlag a.provisional ++
    bytes48 a.claimClose ++ outList outClaim a.claims ++ outOpt outHolder a.holder ++ outOpt bytes48 a.fillTick ++
    [fillStepCode a.fillStep] ++ outFlag a.released ++ out8 a.repeats ++ out8 a.conflicts ++
    outOpt (fun r => [finalResultCode r]) a.result ++ outOpt bytes48 a.finalTick

/-- A standing claim (R148). -/
def outStanding (x : Standing) : List Byte := out8 x.rank ++ outSource x.source ++ outOpt out32 x.spot ++ outFlag x.paused

/-- The configuration of a window with its revision (R157). -/
def outWindow (w : WindowConfig) (revision : Byte) : List Byte :=
  outFlag w.enable ++ [windowTypeCode w.type] ++ out8 w.days.toNat ++ outAny w.hour ++ outAny w.minute ++ outAny w.second ++
    out32 w.duration ++ bytes32 w.lanes ++ outSource w.source ++ [revision]

/-- An alert (R171). -/
def outAlert (a : Alert) : List Byte :=
  [a.id] ++ out8 a.level ++ bytes16 a.zones ++ outSource a.source ++ bytes48 a.start ++ bytes48 a.expiry ++ out8 a.port.val

/-- A subscription mask. -/
def outMask (m : BitVec 19) : List Byte := bytes24 (m.setWidth 24)

/-- A late answer (R44): the message kind, then its fields. -/
def outLate (x : LateAnswer) : List Byte :=
  [if x.code.isSome then 1 else 0] ++ out8 x.lane.val ++ [x.seq] ++ outOpt (fun c => [fabricReplyCode c]) x.code ++ bytes48 x.tick

/-- The last-error record of the intake (R58). -/
def outIntakeError (e : IntakeError) : List Byte :=
  [recordCauseCode e.cause, e.typeCode] ++ outOpt (fun f => [f]) e.feed ++ bytes48 e.arrival ++ bytes48 e.tick

/-! ## Bodies of replies -/

/-- The body of a reply, its fields in the order of the rule that gives them (R198). DESIGN CHOICE, unsafe (log entry 16): the rules do not
say how an absent value is sent that they do not call optional, and the model sends a presence byte before it in every reply of that
kind: before the displaced id of ALERT START (R172), before each slot of READ ALERTS (R183) and before each place of READ STANDING
(R148). -/
def outBody : ReplyBody → List Byte
  | .none => []
  | .form cause => [formCauseCode cause]
  | .revision r => [r]
  | .status p role st errors quiet queued dropped mask =>
    out8 p.val ++ [roleCode role, portStateCode st] ++ out8 errors ++ outOpt bytes48 quiet ++ out8 queued ++ out8 dropped ++ outMask mask
  | .mask m => outMask m
  | .quiet expiry => outOpt bytes48 expiry
  | .time now c phase into => bytes48 now ++ outCalendar c ++ out32 phase ++ out32 into
  | .calendarSet now phase => bytes48 now ++ out32 phase
  | .lane L earliest => outLane L ++ bytes48 earliest
  | .orderLink late errors outstanding queued lastLate lastError =>
    out16 late ++ out16 errors ++ out8 outstanding ++ out8 queued ++ outOpt outLate lastLate ++
      outOpt (fun e : LinkError => [linkCauseCode e.cause] ++ bytes48 e.tick) lastError
  | .intake occupancy ready errors lastError overruns lastOverrun =>
    out8 occupancy ++ outReady ready ++ out16 errors ++ outOpt outIntakeError lastError ++ out16 overruns ++ outOpt bytes48 lastOverrun
  | .feed r age stale => outFlag r.valid ++ bytes32 r.stamp ++ bytes48 r.station ++ outOpt bytes48 age ++ outFlag stale
  | .cueLogic lines cells pairs outputs =>
    bytes24 lines ++
      (cells.flatMap fun c => outFlag c.raw ++ outFlag c.filtered ++ outOpt bytes48 c.timer ++ bytes16 c.sequence) ++
      (pairs.flatMap fun p => outFlag p.enable ++ [p.revision] ++ outFlag p.output) ++
      (outputs.flatMap fun o => outSelection o.1 ++ outFlag o.2)
  | .pair enable mode revision even odd => outFlag enable ++ [modeCode mode, revision] ++ outCellConfig even ++ outCellConfig odd
  | .filter cfg revision => outFilter cfg revision
  | .hit h => outHit h
  | .strays xs overruns => outList (fun x : Stray => outCue x.cue ++ bytes48 x.tick) xs ++ out8 overruns
  | .stray x left overruns => outCue x.cue ++ bytes48 x.tick ++ out8 left ++ out8 overruns
  | .avail i a => outAvailRecord i a
  | .laneAvails xs =>
    outList (fun x : AvailView =>
      outHandle x.handle ++ [availStateCode x.state] ++ bytes32 x.eventId ++ bytes48 x.outTick ++ bytes48 x.inTick) xs
  | .booked h d o i n c => outHandle h ++ [dispositionCode d] ++ bytes48 o ++ bytes48 i ++ out32 n ++ bytes48 c
  | .cancelled st i n => [availStateCode st] ++ bytes48 i ++ out32 n
  | .claimed h c n r => outHandle h ++ bytes48 c ++ out8 n ++ outFlag r
  | .withdrawn e => [withdrawEffectCode e]
  | .flag b => outFlag b
  | .standing places => places.flatMap (outOpt outStanding)
  | .window cfg revision isOpen remaining => outWindow cfg revision ++ outFlag isOpen ++ out32 remaining
  | .windowWritten revision isOpen remaining => [revision] ++ outFlag isOpen ++ out32 remaining
  | .alerts slots recency => slots.flatMap (outOpt outAlert) ++ outList (fun a : Fin 4 => out8 a.val) recency
  | .alertStarted a d start expiry displaced =>
    out8 a.val ++ [alertDispositionCode d] ++ bytes48 start ++ bytes48 expiry ++ outOpt (fun i => [i]) displaced
  | .alertEnded a A => out8 a.val ++ outAlert A

/-! ## Fields of notices -/

/-- What every avail notice carries (R139). -/
def outHead (h : AvailHead) : List Byte := outHandle h.handle ++ out8 h.lane.val ++ bytes32 h.eventId ++ bytes48 h.tick

/-- The fields of WINDOW_OPEN and WINDOW_CLOSE (R169). -/
def outWindowNotice (n : WindowNotice) : List Byte :=
  out8 n.window.val ++ [windowCauseCode n.cause, windowTypeCode n.type] ++ bytes32 n.lanes ++ outOpt outSource n.source ++
    out32 n.duration ++ out32 n.remaining ++ outCalendar n.calendar ++ bytes48 n.tick

/-- The fields of AVAIL_MISSED and AVAIL_CANCELLED (R139). -/
def outFinalNotice (n : FinalNotice) : List Byte :=
  outHead n.head ++ [finalResultCode n.reason, availStateCode n.left] ++ bytes48 n.outTick ++ bytes48 n.inTick ++
    outOpt outHolder n.holder ++ bytes48 n.finalTick

/-- An alert's fields in a notice, after its id (R182). -/
def outAlertFields (a : Alert) : List Byte :=
  out8 a.level ++ bytes16 a.zones ++ outSource a.source ++ bytes48 a.start ++ bytes48 a.expiry ++ out8 a.port.val

/-- The port and the source of the holder in SPLICE_OUT (R139): an avail that went out has one. -/
def outHolderSource : Option Claim → List Byte
  | some h => out8 h.port.val ++ outSource h.source
  | none => [0, 255]

/-- The fields of a notice, in the order of the rule that gives them (R198). A value that a rule gives only in some cases stands behind a
presence byte: a window notice's source (R169) among them (DESIGN CHOICE, log entry 16). -/
def outNotice : Notice → List Byte
  | .availNew h cls origin o i n prov c =>
    outHead h ++ [cls] ++ outAvailOrigin origin ++ bytes48 o ++ bytes48 i ++ out32 n ++ outFlag prov ++ bytes48 c
  | .availRetimed h cause st o i n prov c fill =>
    outHead h ++ [retimeCauseCode cause, availStateCode st] ++ bytes48 o ++ bytes48 i ++ out32 n ++ outFlag prov ++ bytes48 c ++
      outOpt bytes48 fill
  | .claimWon h p kind w src eff pen o i n spot fill cs =>
    outHead h ++ out8 p.val ++ [claimKindCode kind] ++ out8 w.val ++ outSource src ++ out8 eff ++ outFlag pen ++ bytes48 o ++
      bytes48 i ++ out32 n ++ outOpt out32 spot ++ outOpt bytes48 fill ++ out8 cs
  | .claimLost h p kind w src eff best pen o i n cs =>
    outHead h ++ out8 p.val ++ [claimKindCode kind] ++ out8 w.val ++ outSource src ++ out8 eff ++ out8 best ++ outFlag pen ++
      bytes48 o ++ bytes48 i ++ out32 n ++ out8 cs
  | .spliceOut h holder o st => outHead h ++ outHolderSource holder ++ bytes48 o ++ [availStateCode st]
  | .spliceIn h target i n r => outHead h ++ outSource target ++ bytes48 i ++ out32 n ++ [finalResultCode r]
  | .availEnd h r o i n holder f =>
    outHead h ++ [finalResultCode r] ++ bytes48 o ++ bytes48 i ++ out32 n ++ outOpt outHolder holder ++ bytes48 f
  | .availMissed n => outFinalNotice n
  | .availCancelled n => outFinalNotice n
  | .cueHit f action c outcome lane applied n t =>
    out8 f.val ++ [actionCode action] ++ outCue c ++ [hitOutcomeCode outcome] ++ outOpt (fun l : Fin 32 => out8 l.val) lane ++
      bytes32 applied ++ out16 n ++ bytes48 t
  | .stray c t entries replaced overruns => outCue c ++ bytes48 t ++ out8 entries ++ outFlag replaced ++ out8 overruns
  | .windowOpen n => outWindowNotice n
  | .windowClose n => outWindowNotice n
  | .alertBegin a A cause active t => out8 a.val ++ [A.id, beginCauseCode cause] ++ outAlertFields A ++ out8 active ++ bytes48 t
  | .alertEnd a A reason ender active t =>
    out8 a.val ++ [A.id, endReasonCode reason] ++ outAlertFields A ++ outOpt (fun p : Fin 4 => out8 p.val) ender ++ out8 active ++
      bytes48 t
  | .laneFault l o reason code st t =>
    out8 l.val ++ [o.seq] ++ outSource o.target ++ bytes48 o.effect ++ bytes48 o.ackExpiry ++ [stepKindCode o.kind] ++
      outOpt outHandle o.avail ++ [faultReasonCode reason] ++ outOpt (fun c => [fabricReplyCode c]) code ++ [laneStateCode st] ++
      bytes48 t
  | .laneState l cause st owner confirmed reason t =>
    out8 l.val ++ [laneCauseCode cause, laneStateCode st] ++ outOwner owner ++ outConfirmed confirmed ++
      outOpt (fun r => [faultReasonCode r]) reason ++ bytes48 t
  | .portState p before after errors cause t =>
    out8 p.val ++ [portStateCode before, portStateCode after] ++ out8 errors ++ [portCauseCode cause] ++ bytes48 t
  | .calendarSet p t c phase => out8 p.val ++ bytes48 t ++ outCalendar c ++ out32 phase

/-! ## Items, the preamble and orders -/

/-- An item without its check byte: kind, two codes, body length, body (R199). -/
def itemFront (kind a b : Byte) (body : List Byte) : List Byte := [kind, a, b] ++ out16 body.length ++ body

/-- The bytes of an item but its check byte (R199). -/
def Item.front : Item → List Byte
  | .reply r => itemFront 1 (outcomeCode r.outcome) r.request (outBody r.body)
  | .notice n => itemFront 2 (BitVec.ofNat 8 n.kind) 0 (outNotice n)
  | .empty => itemFront 3 13 0 []

/-- The bytes that the part shifts out for an item (R191, R199). -/
def Item.bytes (x : Item) : List Byte := x.front ++ [checkByte x.front]

/-- The bytes of an ORDER message (R201): the effect tick's low 32 bits (R37). -/
def OrderMsg.bytes (m : OrderMsg) : List Byte :=
  let front := [1, BitVec.ofNat 8 m.lane.val, m.seq] ++ outSource m.target ++ bytes32 (m.effect.setWidth 32)
  front ++ [checkByte front]

end Sys2Proof.Machine
end

