-- ==== Sys2Proof/WellFormed.lean ====
section
/-! DEFINITION. The well-formed commands: those whose operands are what the row of spec/opcode_table.json names. An ill-formed command names
no event of the part. -/

namespace Sys2Proof

/-- The presence byte of an optional field, where it is kept, is neither 0 nor 1 (R198). -/
def OptField.wellFormed {α : Type} : OptField α → Bool
  | .absent => true
  | .given _ => true
  | .undefinedPresence b => decide (b ≠ 0 ∧ b ≠ 1)

/-- The bytes of a select are a malformed frame (R186). -/
def frameMalformed (bytes : List Byte) : Bool :=
  match decodeFrame 0 true bytes with
  | .malformed _ _ => true
  | .notAFrame => false
  | .wellFormed _ => false

/-- The bytes of a fabric message are malformed (R41). -/
def fabricMalformed (bytes : List Byte) : Bool :=
  match decodeFabric bytes with
  | .error _ => true
  | .ok _ => false

/-- A command is well formed: a malformed frame or fabric message is indeed malformed, an arriving record has at least its last byte, and an
optional field's kept presence byte is undefined. -/
def Instr.wellFormed : Instr → Bool
  | .malformedFrame _ bytes => frameMalformed bytes
  | .fabricMessageMalformed bytes => fabricMalformed bytes
  | .recordArrival bytes => !bytes.isEmpty
  | .writeLane _ r => r.expected.wellFormed
  | .writePair _ r => r.expected.wellFormed
  | .enablePair _ r => r.expected.wellFormed
  | .writeFilter _ r => r.expected.wellFormed
  | .claim _ r => r.spot.wellFormed
  | .stand _ r => r.spot.wellFormed
  | .writeWindow _ r => r.expected.wellFormed
  | .powerOnReset _ _ => true
  | .secondBoundary => true
  | .chipSelectAssert _ => true
  | .status _ => true
  | .fetch _ _ => true
  | .subscribe _ _ => true
  | .rejoin _ => true
  | .quietExpiry _ => true
  | .readTime _ => true
  | .setCalendar _ _ => true
  | .readLane _ _ => true
  | .laneReset _ _ => true
  | .orderSendStart => true
  | .orderSendEnd => true
  | .done _ _ => true
  | .fault _ _ _ => true
  | .ackTimerExpiry _ => true
  | .readOrderLink _ => true
  | .intakeTaking => true
  | .readIntake _ => true
  | .readFeed _ _ => true
  | .lineChange _ _ => true
  | .settleExpiry _ => true
  | .readCueLogic _ => true
  | .readPair _ _ => true
  | .setCueOutput _ _ => true
  | .readFilter _ _ => true
  | .readHit _ _ => true
  | .readStrays _ => true
  | .takeStray _ => true
  | .claimClose _ => true
  | .outCommitPoint _ => true
  | .fillCommitPoint _ => true
  | .inCommitPoint _ => true
  | .readAvail _ _ => true
  | .readLaneAvails _ _ => true
  | .bookAvail _ _ => true
  | .cancelAvail _ _ => true
  | .release _ _ => true
  | .withdraw _ _ => true
  | .standClear _ _ => true
  | .standPause _ _ => true
  | .standResume _ _ => true
  | .readStanding _ _ => true
  | .readWindow _ _ => true
  | .readAlerts _ => true
  | .alertStart _ _ => true
  | .alertEnd _ _ => true
  | .alertExpiry _ => true
  | .stationTick => true
  | .fetchCheckByte _ => true

end Sys2Proof
end

