-- ==== Sys2Proof/Safety.lean ====
section
/-! DEFINITION. The terms that statements about the NK-4480 use: which command carries which request, when a request is executed, when
nothing waits for a tick, and the invariants that every command keeps. -/

namespace Sys2Proof

open Sys2Proof.Machine

/-! ## Requests -/

/-- The port and the request of a client command (12.6); none for a command that is no well-formed client frame. -/
def requestOf : Instr → Option (Fin 4 × Req)
  | .status p => some (p, .status)
  | .fetch p _ => some (p, .fetch)
  | .subscribe p _ => some (p, .subscribe)
  | .rejoin p => some (p, .rejoin)
  | .readTime p => some (p, .readTime)
  | .setCalendar p _ => some (p, .setCalendar)
  | .readLane p _ => some (p, .readLane)
  | .writeLane p _ => some (p, .writeLane)
  | .laneReset p _ => some (p, .laneReset)
  | .readOrderLink p => some (p, .readOrderLink)
  | .readIntake p => some (p, .readIntake)
  | .readFeed p _ => some (p, .readFeed)
  | .readCueLogic p => some (p, .readCueLogic)
  | .readPair p _ => some (p, .readPair)
  | .writePair p _ => some (p, .writePair)
  | .enablePair p _ => some (p, .enablePair)
  | .setCueOutput p _ => some (p, .setCueOutput)
  | .readFilter p _ => some (p, .readFilter)
  | .writeFilter p _ => some (p, .writeFilter)
  | .readHit p _ => some (p, .readHit)
  | .readStrays p => some (p, .readStrays)
  | .takeStray p => some (p, .takeStray)
  | .readAvail p _ => some (p, .readAvail)
  | .readLaneAvails p _ => some (p, .readLaneAvails)
  | .bookAvail p _ => some (p, .bookAvail)
  | .cancelAvail p _ => some (p, .cancelAvail)
  | .release p _ => some (p, .release)
  | .claim p _ => some (p, .claim)
  | .withdraw p _ => some (p, .withdraw)
  | .stand p _ => some (p, .stand)
  | .standClear p _ => some (p, .standClear)
  | .standPause p _ => some (p, .standPause)
  | .standResume p _ => some (p, .standResume)
  | .readStanding p _ => some (p, .readStanding)
  | .readWindow p _ => some (p, .readWindow)
  | .writeWindow p _ => some (p, .writeWindow)
  | .readAlerts p => some (p, .readAlerts)
  | .alertStart p _ => some (p, .alertStart)
  | .alertEnd p _ => some (p, .alertEnd)
  | .powerOnReset _ _ => none
  | .secondBoundary => none
  | .chipSelectAssert _ => none
  | .malformedFrame _ _ => none
  | .quietExpiry _ => none
  | .orderSendStart => none
  | .orderSendEnd => none
  | .done _ _ => none
  | .fault _ _ _ => none
  | .fabricMessageMalformed _ => none
  | .ackTimerExpiry _ => none
  | .recordArrival _ => none
  | .intakeTaking => none
  | .lineChange _ _ => none
  | .settleExpiry _ => none
  | .claimClose _ => none
  | .outCommitPoint _ => none
  | .fillCommitPoint _ => none
  | .inCommitPoint _ => none
  | .alertExpiry _ => none
  | .stationTick => none
  | .fetchCheckByte _ => none

/-- A request of port p reaches its block and is executed (R188, steps 2 to 4): the reply slot is empty, the port's state lets the request
through, the port's role allows it, and the error count is one that a port can have (R184). -/
abbrev Accepts (p : Fin 4) (r : Req) (s : State) : Prop :=
  (s.port p).reply = none ∧ ((s.port p).state ≠ .detached ∨ takenDetached r = true) ∧ permitted (s.port p).role r = true ∧
    (s.port p).errors ≤ Config.detachCount

/-! ## Fields as they cross the ports

The bounds of a request's raw fields, and what a field within them spells, said without the parsers of Machine/Operands.lean. -/

/-- The presence byte of an optional field is neither 0 nor 1 (R198; log entry 15). -/
def OptField.undefinedPresent {α : Type} : OptField α → Bool
  | .undefinedPresence _ => true
  | .absent | .given _ => false

/-- An optional byte spells an optional value: absent, or the byte itself (R198). -/
abbrev OptSpells (r : OptField Byte) (e : Option Byte) : Prop := (r = .absent ∧ e = none) ∨ ∃ v, r = .given v ∧ e = some v

/-- A source code that is neither INS0 to INS15 nor FILL (R198). -/
abbrev SpotSourceOut (b : Byte) : Prop := (b.toNat < 1 ∨ 16 < b.toNat) ∧ b.toNat ≠ 19

/-- A source code from 1 to 16, or 19, spells INS0 to INS15 or FILL (R198). -/
abbrev SpotSourceSpells (b : Byte) (x : Source) : Prop := (b.toNat = 19 ∧ x = .fill) ∨ ∃ n : Fin 16, b.toNat = n.val + 1 ∧ x = .ins n

/-- Spot frames given as 0 or above 1,048,575, or under an undefined presence byte (R142, R145; log entry 15). -/
def SpotOut : OptField (BitVec 32) → Prop
  | .absent => False
  | .given n => n.toNat < 1 ∨ 1048575 < n.toNat
  | .undefinedPresence _ => True

/-- Spot frames spell an optional number (R198). -/
abbrev SpotSpells (r : OptField (BitVec 32)) (x : Option Nat) : Prop :=
  (r = .absent ∧ x = none) ∨ ∃ n, r = .given n ∧ x = some n.toNat

/-- An input selector outside R68: a kind above 5, LINE above 23, LANE_OUT above 31, or a number where the kind has none (R198; log entry
15). -/
abbrev SelectorOut (r : RawSelector) : Prop :=
  5 < r.kind.toNat ∨ (r.kind.toNat = 1 ∧ 23 < r.number.toNat) ∨ (r.kind.toNat = 4 ∧ 31 < r.number.toNat) ∨
    (r.kind.toNat ≠ 1 ∧ r.kind.toNat ≠ 4 ∧ r.number.toNat ≠ 0)

/-- An input selector's kind and number spell it (R198). -/
abbrev SelectorSpells (r : RawSelector) (x : Selector) : Prop :=
  (r.kind.toNat = 0 ∧ x = .low) ∨ (r.kind.toNat = 1 ∧ ∃ k : Fin 24, r.number.toNat = k.val ∧ x = .line k) ∨
    (r.kind.toNat = 2 ∧ x = .link) ∨ (r.kind.toNat = 3 ∧ x = .pair) ∨
    (r.kind.toNat = 4 ∧ ∃ l : Fin 32, r.number.toNat = l.val ∧ x = .laneOut l) ∨ (r.kind.toNat = 5 ∧ x = .alertAny)

/-- A cell's configuration with a field outside R68's range. -/
abbrev CellOut (r : RawCell) : Prop :=
  SelectorOut r.input0 ∨ SelectorOut r.input1 ∨ SelectorOut r.input2 ∨ 3 < r.edge.toNat ∨ 1 < r.source.toNat ∨ 31 < r.feed.toNat ∨
    3 < r.kind.toNat ∨ 1800000 < r.lead.toNat

/-- The raw fields of a cell spell its configuration, named values in the order of R68 (R198). -/
abbrev CellSpells (r : RawCell) (c : CellConfig) : Prop :=
  SelectorSpells r.input0 c.input0 ∧ SelectorSpells r.input1 c.input1 ∧ SelectorSpells r.input2 c.input2 ∧ c.table = r.table ∧
    c.settle = r.settle.toNat ∧ [EmitEdge.none, .rising, .falling, .both][r.edge.toNat]? = some c.edge ∧
    [EmitSource.filtered, .pair][r.source.toNat]? = some c.source ∧ c.feed.val = r.feed.toNat ∧
    [CueKind.out, .ret, .cancel, .mark][r.kind.toNat]? = some c.kind ∧ c.cls = r.cls ∧ c.lead = r.lead.toNat

/-! ## Time -/

/-- Nothing waits for the present tick (R2). -/
abbrev NothingDue (s : State) : Prop :=
  s.boundaryDue = false ∧ (∀ n, settleDue n s = false) ∧ (∀ a, ∀ A ∈ s.alert a, A.expiry ≠ s.tick) ∧ (∀ p, quietDue p s = false) ∧
    (∀ l, ackDue l s = false) ∧ (∀ i, claimCloseDue i s = false) ∧ (∀ i, outDue i s = false) ∧ (∀ i, fillDue i s = false) ∧
    (∀ i, inDue i s = false) ∧ sendDue s = false

/-! ## Frames -/

/-- Only port records differ. -/
def PortsOnly (s t : State) : Prop := t = { s with ports := t.ports }

/-- Only avail records and port records differ. -/
def AvailsOnly (s t : State) : Prop := t = { s with avails := t.avails, ports := t.ports }

/-- Only lane run state, orders, avail records and port records differ. -/
def BreakOnly (s t : State) : Prop :=
  t = { s with lanes := t.lanes, outstanding := t.outstanding, orderQueue := t.orderQueue, avails := t.avails, ports := t.ports }

/-- Only what a delivered cue can reach differs: hit records, the stray buffer, avail records and port records. -/
def CueOnly (s t : State) : Prop :=
  t = { s with filters := t.filters, strays := t.strays, strayOverruns := t.strayOverruns, avails := t.avails, ports := t.ports }

/-- Only what an evaluation pass and its cues can reach differs: cells, pair elements, and what a delivered cue can reach. -/
def ArrayOnly (s t : State) : Prop :=
  t = { s with
    cells := t.cells, pairs := t.pairs, filters := t.filters, strays := t.strays, strayOverruns := t.strayOverruns
    avails := t.avails, ports := t.ports }

/-! ## Invariants -/

/-- A port record as R184, R189, R190 and R195 let it stand. -/
abbrev PortSound (P : Port) : Prop :=
  P.errors ≤ 192 ∧ (P.state = .detached ↔ P.errors = 192) ∧ (P.state = .normal → P.errors < 96) ∧
    (P.state = .caution → 64 ≤ P.errors) ∧ P.queue.length ≤ 16 ∧ P.dropped ≤ 255 ∧ (P.state = .detached → P.queue = []) ∧
    (P.quiet.isSome = true → P.state = .detached)

/-- Every port record is sound. -/
abbrev PortsSound (s : State) : Prop := ∀ p, PortSound (s.port p)

/-- A DETACHED port holds no specific or standing claim and no CLOSED avail (R190). -/
abbrev DetachedHoldsNothing (s : State) : Prop :=
  ∀ p, (s.port p).state = .detached →
    (∀ l, s.place l p = none) ∧ (∀ i, ∀ c ∈ (s.avail i).claims, c.port ≠ p) ∧
      ∀ i, (s.avail i).state = .closed → ∀ h ∈ (s.avail i).holder, h.port ≠ p

/-- The calendar lies within R7's ranges and its phase within R10's. -/
abbrev CalendarSound (s : State) : Prop :=
  let c := s.calendar
  2000 ≤ c.year ∧ c.year ≤ 2199 ∧ 1 ≤ c.month ∧ c.month ≤ 12 ∧ 1 ≤ c.day ∧ c.day ≤ monthLength c.year c.month ∧ c.hour ≤ 23 ∧
    c.minute ≤ 59 ∧ c.second ≤ 59 ∧ 1 ≤ c.dow ∧ c.dow ≤ 7 ∧ s.calPhase < 180000

/-- A lane's outstanding record and its committed order agree (R38), and a lane in OFF has neither an order nor a planned transition
(R23). -/
abbrev LaneOrderSound (L : Lane) (o : Option Outstanding) : Prop :=
  (o.map fun x => (x.seq, x.target, x.effect)) = (L.committed.map fun c => (c.seq, c.target, c.effect)) ∧
  (L.state = .off → L.committed = none ∧ L.planned = none)

/-- A message of the outbound queue is its lane's unsent order (R39, R43). -/
abbrev MessageSound (s : State) (m : OrderMsg) : Prop :=
  ∃ o ∈ s.order m.lane, o.sent = false ∧ o.seq = m.seq ∧ o.target = m.target ∧ o.effect = m.effect

/-- The order link as R38, R39 and R43 let it stand: outstanding records are the committed orders, the queue holds exactly the unsent
ones, one for each lane, and a send has a message. -/
abbrev OrdersSound (s : State) : Prop :=
  (∀ l, LaneOrderSound (s.lane l) (s.order l)) ∧ (∀ m ∈ s.orderQueue, MessageSound s m) ∧
    (∀ l, ∀ o ∈ s.order l, o.sent = false → ∃ m ∈ s.orderQueue, m.lane = l) ∧ (s.orderQueue.map OrderMsg.lane).Nodup ∧
    (s.sending.isSome = true → s.orderQueue ≠ [])

/-- The buffers and the saturating counts are within their sizes: the FIFO, the stray buffer and its overrun count, the overruns and errors of
the intake, the late-DONE count, the order-link errors, the hit counts, and the repeat and conflict counts of the avails (R41, R44, R54, R56,
R58, R87, R98, R115). The ports' dropped-notice counts stand in PortSound. -/
abbrev BuffersSound (s : State) : Prop :=
  s.fifo.length ≤ 16 ∧ s.strays.length ≤ 2 ∧ s.strayOverruns ≤ 255 ∧ s.overruns ≤ 65535 ∧ s.intakeErrors ≤ 65535 ∧
    s.lateCount ≤ 65535 ∧ s.linkErrors ≤ 65535 ∧ (∀ f, (s.filter f).hit.count ≤ 65535) ∧
    ∀ i, (s.avail i).repeats ≤ 255 ∧ (s.avail i).conflicts ≤ 255

/-- A lane's configuration lies within R15's ranges. -/
abbrev LaneConfigSound (c : LaneConfig) : Prop :=
  c.phase < period c.cadence ∧ c.pathDelay ≤ 1800000 ∧ 90000 ≤ c.claimLead ∧ c.claimLead ≤ 1800000 ∧ c.lateGrace ≤ 180000 ∧
    1 ≤ c.ceiling ∧ c.ceiling ≤ 3600 ∧ 1800 ≤ c.ackGrace ∧ c.ackGrace ≤ 180000

/-- Every lane's configuration is within range. -/
abbrev LanesSound (s : State) : Prop := ∀ l, LaneConfigSound (s.lane l).cfg

/-- A pair that is not enabled rests low, its cells with stopped timers (R68, R82). -/
abbrev PairSound (s : State) (k : Fin 6) : Prop :=
  (s.pair k).enable = false →
    (s.pair k).output = false ∧ (s.pair k).oddSeen = false ∧ (s.cell (oddCell k)).raw = false ∧ (s.cell (oddCell k)).filtered = false ∧
      (s.cell (oddCell k)).timer = none ∧ (s.cell (evenCell k)).raw = false ∧ (s.cell (evenCell k)).filtered = false ∧
      (s.cell (evenCell k)).timer = none

/-- Every disabled pair rests low. -/
abbrev PairsSound (s : State) : Prop := ∀ k, PairSound s k

/-- A window's configuration within R157's ranges (a start field of none is ANY), and its run state as R158 lets it stand. -/
abbrev WindowSound (W : Window) : Prop :=
  (∀ h ∈ W.cfg.hour, h ≤ 23) ∧ (∀ m ∈ W.cfg.minute, m ≤ 59) ∧ (∀ x ∈ W.cfg.second, x ≤ 59) ∧
    (W.cfg.source = .fill ∨ ∃ n, W.cfg.source = .ins n) ∧ 1 ≤ W.cfg.duration ∧ W.cfg.duration ≤ 86400 ∧
    if W.isOpen then W.cfg.enable = true ∧ 1 ≤ W.remaining ∧ W.remaining ≤ 86400 else W.remaining = 0

/-- Every window is sound. -/
abbrev WindowsSound (s : State) : Prop := ∀ w, WindowSound (s.window w)

/-- The alert table as R171 lets it stand: the recency order lists each occupied slot once, and no two alerts share an id. -/
abbrev AlertsSound (s : State) : Prop :=
  s.recency.Nodup ∧ (∀ a, a ∈ s.recency ↔ (s.alert a).isSome = true) ∧
    ∀ a b, ∀ A ∈ s.alert a, ∀ B ∈ s.alert b, A.id = B.id → a = b

/-- Every avail that is not final stands on a lane in RUN (R22, R49, R92, R120), and no two avails of a lane are in OUT or RETURNING
(R124). -/
abbrev AvailsSound (s : State) : Prop :=
  (∀ i, (s.avail i).live = true → (s.lane (s.avail i).lane).state = .run) ∧
    ∀ i j, (s.avail i).airing = true → (s.avail j).airing = true → (s.avail i).lane = (s.avail j).lane → i = j

/-- An avail's claims list holds at most one claim of each port, and a final or EMPTY avail's holds none (R117, R141). -/
abbrev ClaimsSound (s : State) : Prop :=
  ∀ i, ((s.avail i).claims.map Claim.port).Nodup ∧ ((s.avail i).state ≠ .armed → (s.avail i).claims = [])

end Sys2Proof
end

