-- ==== Sys2Proof/Certificates/Slice0/Obligations.lean ====
section
/-! DEFINITION. The statements about the NK-4480 that the provers are to prove. -/

open Sys2Proof Sys2Proof.Machine

/-! ## The queue and the links' bytes -/

/-- A step takes the command at the front of the queue and is exec of it on the rest. The queue is the model's own (log entry 2). -/
def Obligations.StepTakesFront : Prop :=
  ∀ (c : Instr) (rest : List Instr) (s : State), step { s with pending := c :: rest } = exec c { s with pending := rest }

/-- Decoding the frame of a well-formed client command gives the command back (R186, R198, R199); that an optional field with an undefined
presence byte comes back too is log entry 15. What the master sends during the item of a well-formed FETCH is no part of its frame (R191), so
that such bytes are not malformed; that a MALFORMED_FRAME which names them is no event and changes nothing is log entry 3. -/
def Obligations.FrameRoundTrip : Prop :=
  (∀ (i : Instr) (bytes : List Byte), i.wellFormed = true → encodeFrame i = some bytes →
    ∃ p through, decodeFrame p through bytes = .wellFormed i) ∧
  ∀ (p : Fin 4) (through : Bool) (item : List Byte), decodeFrame p through ([2, 0, 254] ++ item) = .wellFormed (.fetch p through) ∧
    ∀ s, exec (.malformedFrame p ([2, 0, 254] ++ item)) s = .next s

/-- A DONE or FAULT laid out as R201 lays it out, and a record laid out as R200 lays it out, each with its check byte, are read as the message,
the CUE (of every kind, in both timing forms, with a duration and without) or the TIMEREF that they spell (R59, R61). -/
def Obligations.LinkRoundTrips : Prop :=
  (∀ (l : Fin 32) (seq : Byte),
    (let m : List Byte := [2, BitVec.ofNat 8 l.val, seq]
     decodeFabric (m ++ [checkByte m]) = .ok (.done l seq)) ∧
    (let m : List Byte := [3, BitVec.ofNat 8 l.val, seq, 1]
     decodeFabric (m ++ [checkByte m]) = .ok (.fault l seq .sourceUnavailable)) ∧
    (let m : List Byte := [3, BitVec.ofNat 8 l.val, seq, 2]
     decodeFabric (m ++ [checkByte m]) = .ok (.fault l seq .laneUnavailable)) ∧
    (let m : List Byte := [3, BitVec.ofNat 8 l.val, seq, 3]
     decodeFabric (m ++ [checkByte m]) = .ok (.fault l seq .tooLate))) ∧
  (∀ (f : Fin 32) (k : CueKind) (id : BitVec 32) (cls : Byte) (tm : Timing) (d : Option (BitVec 32)), (∀ n, tm = .lead n → n ≤ 1800000) →
    let kind : Byte := match k with | .out => 0 | .ret => 1 | .cancel => 2 | .mark => 3
    let time : List Byte := match tm with
      | .stamped stamp => 0 :: bytes32 stamp
      | .lead n => 1 :: bytes32 (BitVec.ofNat 32 n)
    let duration : List Byte := match d with
      | none => [0]
      | some x => 1 :: bytes32 x
    let r : List Byte := [1, BitVec.ofNat 8 f.val, kind] ++ bytes32 id ++ [cls] ++ time ++ duration
    decodeRecord (r ++ [checkByte r]) = .ok (.cue f k id cls tm d)) ∧
  ∀ (f : Fin 32) (stamp : BitVec 32),
    (let r : List Byte := [2, BitVec.ofNat 8 f.val] ++ bytes32 stamp ++ [0]
     decodeRecord (r ++ [checkByte r]) = .ok (.timeref f stamp false)) ∧
    (let r : List Byte := [2, BitVec.ofNat 8 f.val] ++ bytes32 stamp ++ [1]
     decodeRecord (r ++ [checkByte r]) = .ok (.timeref f stamp true))

/-- Every item that a FETCH delivers, and every ORDER, ends in a check byte that makes its sum 0; an ORDER has 9 bytes (R199, R201). -/
def Obligations.SentBytesSum : Prop :=
  (∀ x : Item, byteSum x.bytes = 0 ∧ 6 ≤ x.bytes.length) ∧ ∀ m : OrderMsg, byteSum m.bytes = 0 ∧ m.bytes.length = 9

/-! ## Reset and time -/

/-- POWER_ON_RESET leaves the initial values listed here (R1, R7, R15, R16, R38, R39, R54, R55, R62, R68, R79, R83, R98, R115, R144, R158, R171, R184,
R193), and the commands that wait outside the part as they were (log entry 2). -/
def Obligations.ResetValues : Prop :=
  ∀ (straps : BitVec 8) (lines : BitVec 24) (s : State), ∃ t, exec (.powerOnReset straps lines) s = .next t ∧
    t.tick = 0 ∧ t.boundaryDue = false ∧ t.calendar = { year := 2000, month := 1, day := 1, hour := 0, minute := 0, second := 0, dow := 6 } ∧
    t.calPhase = 0 ∧ t.lines = lines ∧ t.orderQueue = [] ∧ t.sending = none ∧ t.fifo = [] ∧ t.strays = [] ∧ t.recency = [] ∧
    t.lateCount = 0 ∧ t.linkErrors = 0 ∧ t.intakeErrors = 0 ∧ t.overruns = 0 ∧ t.strayOverruns = 0 ∧ t.ready = true ∧ t.pending = s.pending ∧
    (∀ l, (t.lane l).state = .off ∧ (t.lane l).confirmed = some .net ∧ (t.lane l).owner = .network ∧ (t.lane l).cfg.cadence = .c2997 ∧
      (t.lane l).cfg.phase = 0 ∧ (t.lane l).cfg.claimLead = 360000 ∧ (t.lane l).cfg.lateGrace = 45000 ∧ (t.lane l).cfg.ceiling = 300 ∧
      (t.lane l).cfg.ackGrace = 18000 ∧ (t.lane l).orderSeq = 0 ∧ (t.lane l).committed = none ∧ t.order l = none) ∧
    (∀ f, t.feedRef f = { valid := false, stamp := 0, station := 0 }) ∧
    (∀ n, (t.cell n).raw = false ∧ (t.cell n).filtered = false ∧ (t.cell n).timer = none ∧ (t.cell n).sequence = 0) ∧
    (∀ k, (t.pair k).enable = false ∧ (t.pair k).output = false) ∧ (∀ o, t.outputLevel o = false) ∧
    (∀ i, (t.filter i).cfg.enable = false ∧ (t.filter i).hit.count = 0) ∧ (∀ i, (t.avail i).state = .empty ∧ (t.avail i).gen = 0) ∧
    (∀ l p, t.place l p = none) ∧ (∀ w, (t.window w).isOpen = false ∧ (t.window w).remaining = 0) ∧ (∀ a, t.alert a = none) ∧
    ∀ p : Fin 4, (t.port p).state = .normal ∧ (t.port p).errors = 0 ∧ (t.port p).reply = none ∧ (t.port p).queue = [] ∧
      (t.port p).mask = 0 ∧ (t.port p).quiet = none ∧ (t.port p).dropped = 0 ∧
      t.attention p = false ∧ (t.port p).role =
        match straps.getLsbD (2 * p.val + 1), straps.getLsbD (2 * p.val) with
        | false, false => .scheduler
        | false, true => .inserter
        | true, false => .alert
        | true, true => .observer

/-- The reset state meets every invariant of Safety.lean. -/
def Obligations.ResetMeetsInvariants : Prop :=
  PortsSound State.reset ∧ DetachedHoldsNothing State.reset ∧ CalendarSound State.reset ∧ LanesSound State.reset ∧
    OrdersSound State.reset ∧ BuffersSound State.reset ∧ PairsSound State.reset ∧ WindowsSound State.reset ∧
    AlertsSound State.reset ∧ AvailsSound State.reset ∧ ClaimsSound State.reset

/-- STATION_TICK first takes what is due at the present tick and then advances the counter by one, 2^48 - 1 being followed by 0, and makes a
second boundary due exactly where the counter reaches the calendar phase (R1, R2, R10); where nothing is due, nothing else changes. What
was due has been taken: the calendar's second (R9), alert expiries (R178), quiet expiries (R195), settle timers (R72), claim closes (R123)
and out, fill and in commit points (R124, R126, R127); and no ORDER waits at an idle link (R39). That all of it is taken at the STATION_TICK
at the latest is log entry 4. -/
def Obligations.TickAdvances : Prop :=
  (∀ s : State, NothingDue s →
    exec .stationTick s = .next { s with
      tick := s.tick + 1
      boundaryDue := decide ((((s.tick + 1).toNat : Int) - s.calPhase) % 180000 = 0) }) ∧
  ∀ s : State, ∃ t, exec .stationTick s = .next t ∧ t.tick = s.tick + 1 ∧ t.calPhase = s.calPhase ∧
    t.boundaryDue = decide ((((s.tick + 1).toNat : Int) - s.calPhase) % 180000 = 0) ∧
    t.calendar = (if s.boundaryDue then s.calendar.advance else s.calendar) ∧
    (∀ a, (s.alert a = none → t.alert a = none) ∧
      ∀ A, s.alert a = some A → t.alert a = if A.expiry = s.tick then none else some A) ∧
    (∀ p,
      let P := s.port p
      let Q := t.port p
      (P.state = .detached ∧ P.quiet = some s.tick → Q.state = .normal ∧ Q.errors = 0 ∧ Q.quiet = none) ∧
      (¬(P.state = .detached ∧ P.quiet = some s.tick) → Q.state = P.state ∧ Q.errors = P.errors ∧ Q.quiet = P.quiet)) ∧
    (∀ n, (s.cell n).cfg.settle ≤ 255 → (t.cell n).timer ≠ some s.tick) ∧
    (∀ i, (t.avail i).state = .armed → (t.avail i).claimClose ≠ s.tick) ∧
    (∀ i, (t.avail i).state = .closed → (t.avail i).outTick - BitVec.ofNat 48 9000 ≠ s.tick) ∧
    (AvailsSound s → ∀ i, (t.avail i).state = .out →
      (t.avail i).inTick - BitVec.ofNat 48 9000 ≠ s.tick ∧
      ∀ f, (t.avail i).fillStep = .none → (t.avail i).fillTick = some f → (s.tick - (f - BitVec.ofNat 48 9000)).toInt < 0) ∧
    (t.orderQueue ≠ [] → t.sending ≠ none)

/-- No command but STATION_TICK and POWER_ON_RESET changes the station tick counter, and every STATION_TICK advances it by one (R1). -/
def Obligations.TickOnlyByClock : Prop :=
  (∀ (c : Instr) (s t : State), exec c s = .next t → c ≠ .stationTick → (∀ x y, c ≠ .powerOnReset x y) → t.tick = s.tick) ∧
    ∀ s : State, ∃ t, exec .stationTick s = .next t ∧ t.tick = s.tick + 1

/-- The lengths of the months, February of a leap year among them, in the two places that R8 names: a SET CALENDAR whose day lies past the
month's length is refused RANGE, and a second boundary advances the calendar by one second, by the carries of R9's table, for every calendar
within R7's ranges. -/
def Obligations.CalendarCarries : Prop :=
  (∀ y m : Nat, 2000 ≤ y → y ≤ 2199 →
    (m ∈ [1, 3, 5, 7, 8, 10, 12] → monthLength y m = 31) ∧ (m ∈ [4, 6, 9, 11] → monthLength y m = 30) ∧
      (m = 2 → monthLength y m = if y % 4 = 0 ∧ y ≠ 2100 then 29 else 28)) ∧
  (∀ (p : Fin 4) (r : RawCalendar) (s : State), Accepts p .setCalendar s → 2000 ≤ r.year.toNat → r.year.toNat ≤ 2199 →
    1 ≤ r.month.toNat → r.month.toNat ≤ 12 → monthLength r.year.toNat r.month.toNat < r.day.toNat →
    exec (.setCalendar p r) s = .next (answer p .setCalendar .range .none (goodFrame p s))) ∧
  ∀ s : State, CalendarSound s →
    let c := s.calendar
    (s.boundaryDue = true → ∃ t, exec .secondBoundary s = .next t ∧ t.calendar = c.advance) ∧
    (c.second < 59 → c.advance = { c with second := c.second + 1 }) ∧
    (c.second = 59 → c.minute < 59 → c.advance = { c with second := 0, minute := c.minute + 1 }) ∧
    (c.second = 59 → c.minute = 59 → c.hour < 23 → c.advance = { c with second := 0, minute := 0, hour := c.hour + 1 }) ∧
    (c.second = 59 → c.minute = 59 → c.hour = 23 →
      c.advance.second = 0 ∧ c.advance.minute = 0 ∧ c.advance.hour = 0 ∧ c.advance.dow = (if c.dow = 7 then 1 else c.dow + 1) ∧
      (c.day < monthLength c.year c.month → c.advance.day = c.day + 1 ∧ c.advance.month = c.month ∧ c.advance.year = c.year) ∧
      (c.day = monthLength c.year c.month → c.month < 12 →
        c.advance.day = 1 ∧ c.advance.month = c.month + 1 ∧ c.advance.year = c.year) ∧
      (c.day = monthLength c.year c.month → c.month = 12 →
        c.advance.day = 1 ∧ c.advance.month = 1 ∧ c.advance.year = if c.year = 2199 then 2000 else c.year + 1))

/-- A second boundary that is due advances the calendar by one second and then counts down and matches every window against the new calendar (R9, R10,
R160), with the notices of R169; then the lanes of each window that opened or closed are re-resolved in ascending number (R27, R161). A start pattern
matches where the day of week is in the day mask and hour, minute and second are each ANY or equal (R159). It touches nothing else but what the window
changes reach. Ascending windows, in the notices and in the window changes, are the model's choice (log entry 14). -/
def Obligations.SecondBoundary : Prop :=
  (∀ (w : WindowConfig) (c : Calendar), 1 ≤ c.dow → c.dow ≤ 7 →
    (w.matches c = true ↔ w.days.getLsbD (c.dow - 1) = true ∧ (∀ h ∈ w.hour, h = c.hour) ∧ (∀ m ∈ w.minute, m = c.minute) ∧
      ∀ x ∈ w.second, x = c.second)) ∧
  (∀ (lanes : LaneSet) (s : State), windowChange lanes s =
    (List.finRange 32).foldl (fun x l => if lanes.getLsbD l.val then reresolve .ordinary l x else x) s) ∧
  ∀ s : State, s.boundaryDue = true → ∃ t, exec .secondBoundary s = .next t ∧
    BreakOnly { s with boundaryDue := false, calendar := s.calendar.advance, windows := t.windows } t ∧
    let counted := fun w =>
      let W := s.window w
      if W.isOpen = false then W
      else if W.remaining ≤ 1 then { W with isOpen := false, remaining := 0 }
      else { W with remaining := W.remaining - 1 }
    (∀ w,
      let W := s.window w
      t.window w =
        if W.cfg.enable = false then W
        else if W.cfg.matches s.calendar.advance then { counted w with isOpen := true, remaining := W.cfg.duration }
        else counted w) ∧
    let notice := fun (w : Fin 16) (cause : WindowCause) (remaining : Nat) =>
      let C := (s.window w).cfg
      ({ window := w, cause := cause, type := C.type, lanes := C.lanes, source := if C.type = .insert then some C.source else none
         duration := C.duration, remaining := remaining, calendar := s.calendar.advance, tick := s.tick } : WindowNotice)
    let notices := fun w =>
      let W := s.window w
      (if W.cfg.enable = true ∧ W.isOpen = true ∧ W.remaining ≤ 1 then [Notice.windowClose (notice w .expired 0)] else []) ++
      if W.cfg.enable = true ∧ W.cfg.matches s.calendar.advance = true then
        [Notice.windowOpen (notice w (if (counted w).isOpen then .retrigger else .start) W.cfg.duration)]
      else []
    let treated := ((List.finRange 16).flatMap notices).foldl (fun x n => raise n [] x)
      { s with boundaryDue := false, calendar := s.calendar.advance, windows := t.windows }
    t = ((List.finRange 16).filter fun w => decide ((s.window w).isOpen ≠ (t.window w).isOpen)).foldl
      (fun x w => windowChange (s.window w).cfg.lanes x) treated

/-- SET CALENDAR within bounds replaces the calendar, moves the phase to the tick of taking, takes away a boundary due at that tick, and
raises CALENDAR_SET; out of bounds it is refused RANGE and changes nothing (R12, R13, R14). -/
def Obligations.SetCalendar : Prop :=
  ∀ (p : Fin 4) (r : RawCalendar) (s : State), Accepts p .setCalendar s →
    let ok := 2000 ≤ r.year.toNat ∧ r.year.toNat ≤ 2199 ∧ 1 ≤ r.month.toNat ∧ r.month.toNat ≤ 12 ∧ 1 ≤ r.day.toNat ∧
      r.day.toNat ≤ monthLength r.year.toNat r.month.toNat ∧ r.hour.toNat ≤ 23 ∧ r.minute.toNat ≤ 59 ∧ r.second.toNat ≤ 59 ∧
      1 ≤ r.dow.toNat ∧ r.dow.toNat ≤ 7
    let c : Calendar := { year := r.year.toNat, month := r.month.toNat, day := r.day.toNat, hour := r.hour.toNat,
                          minute := r.minute.toNat, second := r.second.toNat, dow := r.dow.toNat }
    let φ := s.tick.toNat % 180000
    (ok → exec (.setCalendar p r) s = .next (answer p .setCalendar .ok (.calendarSet s.tick φ)
      (raise (.calendarSet p s.tick c φ) [] { goodFrame p s with calendar := c, calPhase := φ, boundaryDue := false }))) ∧
    (¬ok → exec (.setCalendar p r) s = .next (answer p .setCalendar .range .none (goodFrame p s)))

/-- Every command keeps the calendar within R7's ranges and its phase within R10's. -/
def Obligations.CalendarSoundKept : Prop := ∀ s t : State, CalendarSound s → step s = .next t → CalendarSound t

/-! ## Client ports -/

/-- A well-formed frame takes one off its port's error count, sets the port state by R189, and in DETACHED leaves the count; only port
records change, and nothing else of them but the queues and dropped-notice counts that a PORT_STATE reaches (R188, R189, R192, R196). -/
def Obligations.GoodFrameCounts : Prop :=
  ∀ (p : Fin 4) (s : State), (s.port p).errors ≤ 192 →
    let P := s.port p
    let Q := (goodFrame p s).port p
    let n : Notice := .portState p P.state Q.state Q.errors .frame s.tick
    PortsOnly s (goodFrame p s) ∧ Q.role = P.role ∧ Q.reply = P.reply ∧ Q.mask = P.mask ∧ Q.quiet = P.quiet ∧ Q.chosen = none ∧
      Q.preamble = P.preamble ∧
      (P.state = .detached → Q = { P with chosen := none }) ∧ (P.state ≠ .detached → Q.errors = P.errors - 1) ∧
      (P.state = .normal → P.errors ≤ 96 → Q.state = .normal) ∧ (P.state = .caution → 64 < P.errors → Q.state = .caution) ∧
      (P.state = .caution → P.errors ≤ 64 → Q.state = .normal) ∧
      (Q.state = P.state → Q.queue = P.queue ∧ Q.dropped = P.dropped ∧ ∀ q, q ≠ p → (goodFrame p s).port q = s.port q) ∧
      (Q.state ≠ P.state →
        Q.queue = (if P.queue.length < 16 then P.queue ++ [n] else P.queue) ∧
        Q.dropped = (if P.queue.length < 16 then P.dropped else min (P.dropped + 1) 255) ∧
        ∀ q, q ≠ p → (goodFrame p s).port q = (raise n [p] s).port q)

/-- A raised notice joins the queue of each port that is subscribed to it or that it is addressed to, is dropped and counted where the queue holds 16,
and is passed over by a DETACHED port (R192); the numbers of the kinds, the mask holding kind k at bit k - 1 (R198). -/
def Obligations.NoticeReaches : Prop :=
  (∀ n : Notice, n.kind = match n with
    | .availNew .. => 1 | .availRetimed .. => 2 | .claimWon .. => 3 | .claimLost .. => 4 | .spliceOut .. => 5 | .spliceIn .. => 6
    | .availEnd .. => 7 | .availMissed .. => 8 | .availCancelled .. => 9 | .cueHit .. => 10 | .stray .. => 11 | .windowOpen .. => 12
    | .windowClose .. => 13 | .alertBegin .. => 14 | .alertEnd .. => 15 | .laneFault .. => 16 | .laneState .. => 17
    | .portState .. => 18 | .calendarSet .. => 19) ∧
  ∀ (n : Notice) (a : List (Fin 4)) (s : State) (p : Fin 4),
    let P := s.port p
    let receives := p ∈ a ∨ P.mask.getLsbD (n.kind - 1) = true
    PortsOnly s (raise n a s) ∧
      (¬receives → (raise n a s).port p = P) ∧ (P.state = .detached → (raise n a s).port p = P) ∧
      (receives → P.state ≠ .detached → P.queue.length < 16 → (raise n a s).port p = { P with queue := P.queue ++ [n] }) ∧
      (receives → P.state ≠ .detached → 16 ≤ P.queue.length →
        (raise n a s).port p = { P with dropped := min (P.dropped + 1) 255 })

/-- The steps of R188 before execution, for every request but FETCH: a full reply slot discards it, a DETACHED port has only STATUS and REJOIN
executed, and a role that may not send it is refused ROLE, by R185's table of who may send what (12.6); the blocks see none of these. The codes of the
requests (12.6), which a reply in its slot carries. -/
def Obligations.RequestGates : Prop :=
  (∀ r : Req, [Req.status, .fetch, .subscribe, .rejoin, .readTime, .setCalendar, .readLane, .writeLane, .laneReset, .readOrderLink,
    .readIntake, .readFeed, .readCueLogic, .readPair, .writePair, .enablePair, .setCueOutput, .readFilter, .writeFilter, .readHit,
    .readStrays, .takeStray, .readAvail, .readLaneAvails, .bookAvail, .cancelAvail, .release, .claim, .withdraw, .stand, .standClear,
    .standPause, .standResume, .readStanding, .readWindow, .writeWindow, .readAlerts, .alertStart, .alertEnd][(reqCode r).toNat - 1]? =
      some r) ∧
  (∀ (p : Fin 4) (r : Req) (code : ReplyCode) (body : ReplyBody) (s : State), answer p r code body s =
    s.updPort p fun P => { P with reply := some { request := reqCode r, outcome := code, body := body } }) ∧
  (∀ (role : Role) (r : Req), permitted role r = true ↔
    r ∈ [Req.status, .fetch, .subscribe, .rejoin, .readTime, .readLane, .readOrderLink, .readIntake, .readFeed, .readCueLogic, .readPair,
      .readFilter, .readHit, .readStrays, .readAvail, .readLaneAvails, .readStanding, .readWindow, .readAlerts] ∨
    (role = .scheduler ∧ r ∈ [Req.writeLane, .laneReset, .setCalendar, .writePair, .enablePair, .setCueOutput, .writeFilter, .writeWindow,
      .bookAvail, .cancelAvail, .takeStray]) ∨
    (role = .inserter ∧ r ∈ [Req.claim, .withdraw, .release, .stand, .standClear, .standPause, .standResume, .takeStray]) ∨
    (role = .alert ∧ r ∈ [Req.alertStart, .alertEnd])) ∧
  ∀ (c : Instr) (p : Fin 4) (r : Req) (s : State), requestOf c = some (p, r) → r ≠ .fetch → (s.port p).errors ≤ 192 →
    ((s.port p).reply.isSome = true → exec c s = .next (goodFrame p s)) ∧
    ((s.port p).reply = none → (s.port p).state = .detached → r ≠ .status → r ≠ .rejoin →
      exec c s = .next (answer p r .detached .none (goodFrame p s))) ∧
    ((s.port p).reply = none → (s.port p).state ≠ .detached → permitted (s.port p).role r = false →
      exec c s = .next (answer p r .role .none (goodFrame p s)))

/-- FETCH_CHECK_BYTE chooses the reply, else the oldest notice, else EMPTY; the taking of FETCH removes the chosen item if it was clocked
through, and counts as a well-formed frame (R188, R191). Where no check byte was given as a command, the item is chosen at the taking (log
entry 10). -/
def Obligations.FetchDelivers : Prop :=
  ∀ (p : Fin 4) (through : Bool) (s : State),
    let P := s.port p
    let item : Item := match P.reply, P.queue with
      | some r, _ => .reply r
      | none, n :: _ => .notice n
      | none, [] => .empty
    exec (.fetchCheckByte p) s = .next (s.updPort p fun P => { P with chosen := some item }) ∧
      exec (.fetch p through) s = .next
        (if through then
          match P.chosen.getD item with
          | .reply _ => (goodFrame p s).updPort p fun Q => { Q with reply := none }
          | .notice _ => (goodFrame p s).updPort p fun Q => { Q with queue := Q.queue.tail }
          | .empty => goodFrame p s
        else goodFrame p s)

/-- The assertion of a chip select takes the snapshot that R199's preamble shows, and changes nothing else (R187). The attention output of a port is
asserted exactly while its reply slot is full or its queue is not empty (R193). -/
def Obligations.SelectSnapshot : Prop :=
  ∀ (p : Fin 4) (s : State), (s.attention p = true ↔ (s.port p).reply ≠ none ∨ (s.port p).queue ≠ []) ∧
    ∃ b0 b1, exec (.chipSelectAssert p) s =
      .next (s.updPort p fun P => { P with preamble := some (b0, b1), chosen := none }) ∧
    b0.toNat / 64 = (match (s.port p).state with | .normal => 0 | .caution => 1 | .detached => 2) ∧
    b0.getLsbD 5 = (s.port p).reply.isSome ∧ b0.getLsbD 4 = !(s.port p).queue.isEmpty ∧ b0.getLsbD 3 = (s.port p).quiet.isSome ∧
    b0.toNat % 8 = 0 ∧ ((s.port p).queue.length ≤ 16 → b1.toNat = (s.port p).queue.length)

/-- The causes for which a frame is malformed, in R186's order, on its bytes: SIZE, CHECK, CODE, and LENGTH by the body lengths that R198's fields
give each request, with and without its optional field. That an undefined presence byte is followed by no field is log entry 15, and that a FETCH
whose length or check byte is wrong counts every byte is log entry 25. Then a malformed frame that does not detach its port: 8 on the count and the
state by R189, or in DETACHED neither, but a running quiet interval restarted; FORM with the cause and the code where the slot was empty; nothing else
of the ports changes but the queues and dropped-notice counts that a PORT_STATE reaches (R188, R189, R192, R195, R196). -/
def Obligations.MalformedFrame : Prop :=
  (∀ (p : Fin 4) (through : Bool) (bytes : List Byte), bytes.length < 2 → decodeFrame p through bytes = .notAFrame) ∧
  (∀ (p : Fin 4) (through : Bool) (code len : Byte) (rest : List Byte),
    let bytes := code :: len :: rest
    let sized := len.toNat ≤ 48 ∧ rest.length = if code = 2 then 1 else len.toNat + 1
    let sums := bytes.foldl (· + ·) 0 = 0
    bytes.take 3 ≠ [2, 0, 254] →
      (¬sized → decodeFrame p through bytes = .malformed .size code) ∧
      (sized → ¬sums → decodeFrame p through bytes = .malformed .check code) ∧
      (sized → sums → code.toNat < 1 ∨ 39 < code.toNat → decodeFrame p through bytes = .malformed .code code) ∧
      (sized → sums →
        (∀ c n : Nat, (c, n) ∈ [(1, 0), (2, 0), (3, 3), (4, 0), (5, 0), (6, 8), (7, 1), (9, 1), (10, 0), (11, 0), (12, 1), (13, 0),
            (14, 1), (17, 3), (18, 1), (20, 1), (21, 0), (22, 0), (23, 2), (24, 1), (25, 16), (26, 2), (27, 2), (29, 2), (31, 1), (32, 1),
            (33, 1), (34, 1), (35, 1), (37, 0), (38, 7), (39, 1)] →
          code.toNat = c → (decodeFrame p through bytes = .malformed .length code ↔ len.toNat ≠ n)) ∧
        ∀ c n k : Nat, (c, n, k) ∈ [(8, 25, 1), (15, 36, 1), (16, 2, 1), (19, 21, 1), (28, 4, 4), (30, 3, 4), (36, 16, 1)] →
          code.toNat = c → (decodeFrame p through bytes = .malformed .length code ↔
            len.toNat ≠ if rest[n]? = some 1 then n + 1 + k else n + 1))) ∧
  ∀ (p : Fin 4) (bytes : List Byte) (cause : FormCause) (code : Byte) (s : State), decodeFrame p true bytes = .malformed cause code →
    let P := s.port p
    let reply := some (P.reply.getD { request := code, outcome := .form, body := .form cause })
    (P.state ≠ .detached → P.errors + 8 < 192 → ∃ t, exec (.malformedFrame p bytes) s = .next t ∧ PortsOnly s t ∧
      (t.port p).errors = P.errors + 8 ∧ (t.port p).reply = reply ∧ (t.port p).role = P.role ∧ (t.port p).mask = P.mask ∧
      (P.state = .normal → (t.port p).state = if 96 ≤ P.errors + 8 then .caution else .normal) ∧
      (P.state = .caution → 64 ≤ P.errors → (t.port p).state = .caution) ∧
      (∀ q, q ≠ p → (t.port q).errors = (s.port q).errors ∧ (t.port q).state = (s.port q).state ∧ (t.port q).reply = (s.port q).reply) ∧
      let Q := t.port p
      let n : Notice := .portState p P.state Q.state (P.errors + 8) .frame s.tick
      Q.quiet = P.quiet ∧ Q.preamble = P.preamble ∧ Q.chosen = none ∧
      (Q.state = P.state → Q.queue = P.queue ∧ Q.dropped = P.dropped ∧ ∀ q, q ≠ p → t.port q = s.port q) ∧
      (Q.state ≠ P.state →
        Q.queue = (if P.queue.length < 16 then P.queue ++ [n] else P.queue) ∧
        Q.dropped = (if P.queue.length < 16 then P.dropped else min (P.dropped + 1) 255) ∧
        ∀ q, q ≠ p → t.port q = (raise n [p] s).port q)) ∧
    (P.state = .detached → exec (.malformedFrame p bytes) s = .next (s.updPort p fun P =>
      { P with reply := reply, chosen := none, quiet := if P.quiet.isSome then some (s.tick + 360000) else none }))

/-- The malformed frame that raises the count to 192 detaches its port: slot and queue emptied, mask and dropped-notice count kept, its
standing claims vacated, its claims on ARMED avails withdrawn, and it cleared as holder of CLOSED ones; no notice but PORT_STATE reaches
another port (R155, R190). -/
def Obligations.DetachingFrame : Prop :=
  ∀ (p : Fin 4) (bytes : List Byte) (cause : FormCause) (code : Byte) (s : State), decodeFrame p true bytes = .malformed cause code →
    (s.port p).state ≠ .detached → 192 ≤ (s.port p).errors + 8 → ∃ t, exec (.malformedFrame p bytes) s = .next t ∧
      t = { s with ports := t.ports, standing := t.standing, avails := t.avails } ∧
      (∀ q, q ≠ p → t.port q = (s.port q).receive (.portState p (s.port p).state .detached 192 .frame s.tick) false) ∧
      t.port p = { s.port p with errors := 192, state := .detached, reply := none, queue := [], chosen := none } ∧
      (∀ l q, t.place l q = if q = p then none else s.place l q) ∧
      ∀ i,
        let a := s.avail i
        t.avail i =
          if a.state = .armed then { a with claims := a.claims.filter fun c => decide (c.port ≠ p) }
          else if a.state = .closed ∧ (a.holder.map Claim.port) = some p then { a with holder := none, fillTick := none }
          else a

/-- STATUS, SUBSCRIBE and REJOIN, and the completion of a rejoin (R194, R195, R196, R197). -/
def Obligations.PortRequests : Prop :=
  ∀ (p : Fin 4) (m : BitVec 24) (s : State),
    (Accepts p .status s →
      let Q := (goodFrame p s).port p
      exec (.status p) s = .next (answer p .status .ok (.status p Q.role Q.state Q.errors Q.quiet Q.queue.length Q.dropped Q.mask)
        ((goodFrame p s).updPort p fun Q => { Q with dropped := 0 }))) ∧
    (Accepts p .subscribe s → m.toNat < 2 ^ 19 →
      exec (.subscribe p m) s = .next (answer p .subscribe .ok (.mask (s.port p).mask)
        ((goodFrame p s).updPort p fun Q => { Q with mask := m.setWidth 19 }))) ∧
    (Accepts p .subscribe s → 2 ^ 19 ≤ m.toNat →
      exec (.subscribe p m) s = .next (answer p .subscribe .range .none (goodFrame p s))) ∧
    (Accepts p .rejoin s → (s.port p).state = .detached →
      exec (.rejoin p) s = .next (answer p .rejoin .ok (.quiet (some (s.tick + 360000)))
        ((goodFrame p s).updPort p fun Q => { Q with quiet := some (s.tick + 360000) }))) ∧
    (Accepts p .rejoin s → (s.port p).state ≠ .detached →
      exec (.rejoin p) s = .next (answer p .rejoin .ok (.quiet none) (goodFrame p s))) ∧
    ((s.port p).state = .detached → (s.port p).quiet = some s.tick →
      exec (.quietExpiry p) s = .next (raise (.portState p .detached .normal 0 .rejoin s.tick) [p]
        (s.updPort p fun P => { P with quiet := none, errors := 0, state := .normal })))

/-- Every command keeps the port records sound: the count within 0 to 192, DETACHED exactly at 192, the queue within 16 notices, and the
rest of Safety.lean's PortSound (R184, R189, R190, R195). -/
def Obligations.PortsSoundKept : Prop := ∀ s t : State, PortsSound s → step s = .next t → PortsSound t

/-- Every command keeps a DETACHED port without specific or standing claims and without CLOSED avails (R155, R190), in states where only ARMED
avails hold claims (R117, R153: ClaimsSoundKept in AvailsSoundKept). -/
def Obligations.DetachedHoldsNothingKept : Prop :=
  ∀ s t : State, PortsSound s → ClaimsSound s → DetachedHoldsNothing s → step s = .next t → DetachedHoldsNothing t

/-! ## Reads -/

/-- The reads without operands answer what their rules list and change nothing but the port (R11, R52, R65, R85, R101, R183). The level of a cue
output, which READ CUE LOGIC answers, is that of its selection, and low where the selected cell or element is of a disabled pair (R83). -/
def Obligations.ReadsWithoutOperand : Prop :=
  (∀ (s : State) (o : Fin 8),
    (s.output o = .low → s.outputLevel o = false) ∧
    (∀ (n : Fin 12) (k : Fin 6), s.output o = .cell n → n.val / 2 = k.val → s.outputLevel o = ((s.pair k).enable && (s.cell n).filtered)) ∧
    ∀ k, s.output o = .pair k → s.outputLevel o = ((s.pair k).enable && (s.pair k).output)) ∧
  ∀ (p : Fin 4) (s : State),
    (Accepts p .readTime s → exec (.readTime p) s = .next (answer p .readTime .ok
      (.time s.tick s.calendar s.calPhase (((s.tick.toNat : Int) - s.calPhase) % 180000).toNat) (goodFrame p s))) ∧
    (Accepts p .readOrderLink s → exec (.readOrderLink p) s = .next (answer p .readOrderLink .ok
      (.orderLink s.lateCount s.linkErrors ((List.finRange 32).filter fun l => (s.order l).isSome).length s.orderQueue.length s.lastLate
        s.lastLinkError) (goodFrame p s))) ∧
    (Accepts p .readIntake s → exec (.readIntake p) s = .next (answer p .readIntake .ok
      (.intake s.fifo.length (decide (s.fifo.length < 16)) s.intakeErrors s.lastIntakeError s.overruns s.lastOverrun)
      (goodFrame p s))) ∧
    (Accepts p .readCueLogic s → exec (.readCueLogic p) s = .next (answer p .readCueLogic .ok
      (.cueLogic s.lines
        ((List.finRange 12).map fun n => ⟨(s.cell n).raw, (s.cell n).filtered, (s.cell n).timer, (s.cell n).sequence⟩)
        ((List.finRange 6).map fun k => ⟨(s.pair k).enable, (s.pair k).revision, (s.pair k).output⟩)
        ((List.finRange 8).map fun o => (s.output o, s.outputLevel o))) (goodFrame p s))) ∧
    (Accepts p .readStrays s → exec (.readStrays p) s = .next (answer p .readStrays .ok (.strays s.strays s.strayOverruns)
      (goodFrame p s))) ∧
    (Accepts p .readAlerts s → exec (.readAlerts p) s = .next (answer p .readAlerts .ok
      (.alerts [s.alert 0, s.alert 1, s.alert 2, s.alert 3] s.recency) (goodFrame p s)))

/-- The reads of one record answer it whole and change nothing but the port; a number out of range is refused RANGE, and a handle that names
no avail UNKNOWN (R17, R66, R85, R89, R116, R140, R148, R170). That READ FEED answers the age as the 48-bit difference is log entry 19. -/
def Obligations.ReadsOfOneRecord : Prop :=
  ∀ (p : Fin 4) (b : Byte) (s : State),
    (∀ h : RawHandle, Accepts p .readAvail s →
      (64 ≤ h.slot.toNat → exec (.readAvail p h) s = .next (answer p .readAvail .range .none (goodFrame p s))) ∧
      ∀ i : Fin 64, h.slot.toNat = i.val →
        ((s.avail i).state = .empty ∨ (s.avail i).gen ≠ h.gen →
          exec (.readAvail p h) s = .next (answer p .readAvail .unknown .none (goodFrame p s))) ∧
        ((s.avail i).state ≠ .empty → (s.avail i).gen = h.gen →
          exec (.readAvail p h) s = .next (answer p .readAvail .ok (.avail i (s.avail i)) (goodFrame p s)))) ∧
    (Accepts p .readLane s →
      (∀ l : Fin 32, b.toNat = l.val → exec (.readLane p b) s = .next (answer p .readLane .ok
        (.lane (s.lane l) (earliestEffect (s.lane l) s.tick)) (goodFrame p s))) ∧
      (32 ≤ b.toNat → exec (.readLane p b) s = .next (answer p .readLane .range .none (goodFrame p s)))) ∧
    (Accepts p .readFeed s →
      (∀ f : Fin 32, b.toNat = f.val → exec (.readFeed p b) s = .next (answer p .readFeed .ok
        (.feed (s.feedRef f) (if (s.feedRef f).valid then some (s.tick - (s.feedRef f).station) else none)
          ((s.feedRef f).valid && decide (5400000 < (s.tick - (s.feedRef f).station).toInt))) (goodFrame p s))) ∧
      (32 ≤ b.toNat → exec (.readFeed p b) s = .next (answer p .readFeed .range .none (goodFrame p s)))) ∧
    (Accepts p .readPair s →
      (∀ k : Fin 6, b.toNat = k.val → exec (.readPair p b) s = .next (answer p .readPair .ok
        (.pair (s.pair k).enable (s.pair k).mode (s.pair k).revision (s.cell (evenCell k)).cfg (s.cell (oddCell k)).cfg)
        (goodFrame p s))) ∧
      (6 ≤ b.toNat → exec (.readPair p b) s = .next (answer p .readPair .range .none (goodFrame p s)))) ∧
    (Accepts p .readFilter s →
      (∀ i : Fin 48, b.toNat = i.val → exec (.readFilter p b) s = .next (answer p .readFilter .ok
        (.filter (s.filter i).cfg (s.filter i).revision) (goodFrame p s))) ∧
      (48 ≤ b.toNat → exec (.readFilter p b) s = .next (answer p .readFilter .range .none (goodFrame p s)))) ∧
    (Accepts p .readLaneAvails s →
      (∀ l : Fin 32, b.toNat = l.val → exec (.readLaneAvails p b) s = .next (answer p .readLaneAvails .ok
        (.laneAvails (((List.finRange 64).filter fun i => (s.avail i).live && decide ((s.avail i).lane = l)).map fun i =>
          ⟨⟨i, (s.avail i).gen⟩, (s.avail i).state, (s.avail i).eventId, (s.avail i).outTick, (s.avail i).inTick⟩)) (goodFrame p s))) ∧
      (32 ≤ b.toNat → exec (.readLaneAvails p b) s = .next (answer p .readLaneAvails .range .none (goodFrame p s)))) ∧
    (Accepts p .readStanding s →
      (∀ l : Fin 32, b.toNat = l.val → exec (.readStanding p b) s = .next (answer p .readStanding .ok
        (.standing [s.place l 0, s.place l 1, s.place l 2, s.place l 3]) (goodFrame p s))) ∧
      (32 ≤ b.toNat → exec (.readStanding p b) s = .next (answer p .readStanding .range .none (goodFrame p s)))) ∧
    (Accepts p .readWindow s →
      (∀ w : Fin 16, b.toNat = w.val → exec (.readWindow p b) s = .next (answer p .readWindow .ok
        (.window (s.window w).cfg (s.window w).revision (s.window w).isOpen (s.window w).remaining) (goodFrame p s))) ∧
      (16 ≤ b.toNat → exec (.readWindow p b) s = .next (answer p .readWindow .range .none (goodFrame p s))))

/-! ## Lanes and orders -/

/-- The earliest effect lies on the lane's grid, at or after now + 9,000 and one period after the last effect tick, and less than one period after the
later of the two (R30): by the order of numbers where nothing is near the counter's wrap, and by R3's signed differences everywhere, across the wrap
too, on a grid whose last boundary before the wrap and first one after it are less than one period apart, as R5 says they are. They are so where the
phase is below 2^48 mod period (log entry 6). Before that, the comparison of station times (R3), the period of each cadence and the grid (R5). -/
def Obligations.EarliestEffect : Prop :=
  (∀ a b : Tick, (later a b = true ↔ 0 < (a - b).toInt) ∧ (atOrAfter a b = true ↔ 0 ≤ (a - b).toInt) ∧
    maxTick a b = (if 0 < (a - b).toInt then a else b) ∧ minTick a b = if 0 < (a - b).toInt then b else a) ∧
  (∀ L : Lane, (L.cfg.cadence, L.period) ∈
    [(Cadence.c25, 7200), (.c2997, 6006), (.c30, 6000), (.c50, 3600), (.c5994, 3003), (.c60, 3000)]) ∧
  (∀ (p φ : Nat) (t : Tick), onGrid p φ t = true ↔ ((t.toNat : Int) - φ) % p = 0) ∧
  ∀ (L : Lane) (now : Tick), L.cfg.phase < L.period →
    let E := earliestEffect L now
    let bound := match L.lastEffect with
      | none => now.toNat + 9000
      | some e => max (now.toNat + 9000) (e.toNat + L.period)
    onGrid L.period L.cfg.phase E = true ∧
      (now.toNat < 2 ^ 46 → (∀ e ∈ L.lastEffect, e.toNat < 2 ^ 46) → bound ≤ E.toNat ∧ E.toNat < bound + L.period) ∧
      (L.cfg.phase < 2 ^ 48 % L.period →
        let lead := now + BitVec.ofNat 48 9000
        let least := match L.lastEffect with
          | none => lead
          | some e => if 0 < (lead - (e + BitVec.ofNat 48 L.period)).toInt then lead else e + BitVec.ofNat 48 L.period
        0 ≤ (E - least).toInt ∧ (E - least).toInt < L.period)

/-- What committing a transition does, and that it does nothing else (R31, R38, R39, R40). -/
def Obligations.CommitOrder : Prop :=
  ∀ (l : Fin 32) (k : StepKind) (x : Source) (e : Tick) (h : Option Handle) (s : State),
    let L := s.lane l
    let t := commit l k x e h s
    t.lane l = { L with committed := some { seq := L.orderSeq, target := x, effect := e, commit := s.tick }, orderSeq := L.orderSeq + 1,
                        lastEffect := some e, planned := none } ∧
      t.order l = some { seq := L.orderSeq, target := x, effect := e, kind := k, avail := h, sent := false,
                         ackExpiry := e + BitVec.ofNat 48 L.cfg.ackGrace } ∧
      t.orderQueue = s.orderQueue ++ [{ lane := l, seq := L.orderSeq, target := x, effect := e }] ∧
      (∀ j, j ≠ l → t.lane j = s.lane j ∧ t.order j = s.order j) ∧
      t = { s with lanes := t.lanes, outstanding := t.outstanding, orderQueue := t.orderQueue }

/-- The refusals of WRITE LANE in their order, none of which changes a lane (R18): RANGE, STALE with the current revision, BUSY for another
grid or path delay on a lane that is not OFF, BUSY for an enable in STOPPING. RANGE is refused exactly outside R15's ranges or under an
undefined presence byte (log entry 15), and fields within range spell the configuration (R198). -/
def Obligations.WriteLaneRefusals : Prop :=
  ∀ r : RawLane,
    let out := 32 ≤ r.lane.toNat ∨ 2 ≤ r.enable.toNat ∨ 32 ≤ r.feed.toNat ∨ 16 ≤ r.zone.toNat ∨ 6 ≤ r.cadence.toNat ∨
      (∃ n, [7200, 6006, 6000, 3600, 3003, 3000][r.cadence.toNat]? = some n ∧ n ≤ r.phase.toNat) ∨ 1800000 < r.pathDelay.toNat ∨
      r.claimLead.toNat < 90000 ∨ 1800000 < r.claimLead.toNat ∨ 180000 < r.lateGrace.toNat ∨ r.ceiling.toNat < 1 ∨
      3600 < r.ceiling.toNat ∨ r.ackGrace.toNat < 1800 ∨ 180000 < r.ackGrace.toNat ∨ r.expected.undefinedPresent = true
    (laneWriteOf r = none ↔ out) ∧
    (∀ l cfg e, laneWriteOf r = some (l, cfg, e) → l.val = r.lane.toNat ∧ cfg.enable = decide (r.enable.toNat = 1) ∧
      cfg.feed.val = r.feed.toNat ∧ cfg.zone.val = r.zone.toNat ∧
      [Cadence.c25, .c2997, .c30, .c50, .c5994, .c60][r.cadence.toNat]? = some cfg.cadence ∧ cfg.phase = r.phase.toNat ∧
      cfg.pathDelay = r.pathDelay.toNat ∧ cfg.claimLead = r.claimLead.toNat ∧ cfg.lateGrace = r.lateGrace.toNat ∧
      cfg.ceiling = r.ceiling.toNat ∧ cfg.ackGrace = r.ackGrace.toNat ∧ OptSpells r.expected e) ∧
  ∀ (p : Fin 4) (s : State), Accepts p .writeLane s →
    (out → exec (.writeLane p r) s = .next (answer p .writeLane .range .none (goodFrame p s))) ∧
    ∀ l cfg e, laneWriteOf r = some (l, cfg, e) →
      let L := s.lane l
      let stale := ∃ v, e = some v ∧ v ≠ L.revision
      let regrid := L.state ≠ .off ∧ (cfg.cadence ≠ L.cfg.cadence ∨ cfg.phase ≠ L.cfg.phase ∨ cfg.pathDelay ≠ L.cfg.pathDelay)
      (stale → exec (.writeLane p r) s = .next (answer p .writeLane .stale (.revision L.revision) (goodFrame p s))) ∧
      (¬stale → regrid ∨ (L.state = .stopping ∧ cfg.enable = true) →
        exec (.writeLane p r) s = .next (answer p .writeLane .busy .none (goodFrame p s)))

/-- An accepted WRITE LANE that keeps enable replaces the configuration, advances the revision and answers it; where the zone changes, the owner of
the lane is re-resolved, and nothing else changes (R18, R19). What a re-resolution does: the owner field, the preemption of an avail that was the
owner, and the transition that the new owner's target needs, committed or planned, or the planned OWNER transition that it no longer needs, with the
notices of both changes, LANE_STATE(OWNER) and AVAIL_END(PREEMPTED), and nothing else (R26, R29, R32, R36, R139); by log entry 8 where a preempted
avail's planned FILL meets a target that needs none, and by log entry 7 for the re-resolution of a LANE RESET. -/
def Obligations.WriteLaneConfig : Prop :=
  (∀ (p : Fin 4) (r : RawLane) (s : State) (l : Fin 32) (cfg : LaneConfig) (e : Option Byte), Accepts p .writeLane s →
    laneWriteOf r = some (l, cfg, e) → (∀ v ∈ e, v = (s.lane l).revision) → ((s.lane l).state = .stopping → cfg.enable = false) →
    ((s.lane l).state ≠ .off → cfg.cadence = (s.lane l).cfg.cadence ∧ cfg.phase = (s.lane l).cfg.phase ∧
      cfg.pathDelay = (s.lane l).cfg.pathDelay) →
    cfg.enable = (s.lane l).cfg.enable →
    let u := (goodFrame p s).updLane l fun L => { L with cfg := cfg, revision := L.revision + 1 }
    exec (.writeLane p r) s = .next (answer p .writeLane .ok (.revision ((s.lane l).revision + 1))
      (if cfg.zone = (s.lane l).cfg.zone then u else reresolve .ordinary l u))) ∧
  ∀ (cause : ResolveCause) (l : Fin 32) (s : State),
    let L := s.lane l
    let o := (resolve s l none).1
    let x := (resolve s l none).2
    let t := reresolve cause l s
    let taken := (∃ a, o = .alert a) ∨ ∃ w, o = .window w
    let preempted := taken ∧ ∃ h, L.owner = .avail h
    let acts := L.state = .run ∨ (L.state = .fault ∧ ∃ a, o = .alert a)
    let reference := match L.committed with
      | some c => some c.target
      | none => L.confirmed
    let behind := fun c : Committed =>
      ({ kind := .owner, target := x, effect := addPeriods L.period L.cfg.phase c.effect 1, avail := none } : Planned)
    let keeps := (t.lane l).committed = L.committed ∧ t.order l = s.order l
    BreakOnly s t ∧ (∀ j, j ≠ l → t.lane j = s.lane j ∧ t.order j = s.order j) ∧ (t.lane l).owner = o ∧ (t.lane l).state = L.state ∧
      (t.lane l).confirmed = L.confirmed ∧ (t.lane l).cfg = L.cfg ∧
      (∀ h, L.owner = .avail h → taken → (s.avail h.slot).gen = h.gen → (s.avail h.slot).state = .out →
        t.avail h.slot = { s.avail h.slot with state := .ended, result := some .preempted, finalTick := some s.tick, claims := [] } ∧
        ∀ i, i ≠ h.slot → t.avail i = s.avail i) ∧
      (¬preempted → t.avails = s.avails) ∧
      (let replaced := if o = L.owner then s else
         raise (.laneState l .owner L.state o L.confirmed L.faultReason s.tick) [] (s.updLane l fun L => { L with owner := o })
       let ending := fun h : Handle => L.owner = .avail h ∧ taken ∧ (s.avail h.slot).gen = h.gen ∧ (s.avail h.slot).state = .out
       let spared := L.state = .fault ∧ L.committed = none ∧ L.failedTarget = some x ∧ cause ≠ .alertChange
       let second := fun first : State =>
         (acts → some x ≠ reference ∨ cause = .laneReset → ¬spared → L.committed = none →
           t = commit l .owner x (earliestEffect L s.tick) none first) ∧
         (¬acts ∨ (some x = reference ∧ cause ≠ .laneReset) ∨ spared ∨ L.committed ≠ none →
           t = first.updLane l fun M => { M with planned := (t.lane l).planned })
       ((∀ h, ¬ending h) → t.ports = replaced.ports ∧ second replaced) ∧
       ∀ h, ending h →
         let a := s.avail h.slot
         let first := raise (.availEnd { handle := h, lane := a.lane, eventId := a.eventId, tick := s.tick } .preempted a.outTick a.inTick
           a.frames a.holder s.tick) a.addressed (replaced.updAvail h.slot fun a =>
             { a with state := .ended, result := some .preempted, finalTick := some s.tick, claims := [] })
         t.ports = first.ports ∧ second first) ∧
      (¬acts → keeps ∧ (t.lane l).planned = if L.planned.map Planned.kind = some .owner then none else L.planned) ∧
      (acts → some x = reference → cause ≠ .laneReset → keeps ∧ (L.planned = none → (t.lane l).planned = none) ∧ ∀ P ∈ L.planned,
        (P.kind = .owner → (t.lane l).planned = none) ∧ (P.kind = .stop ∨ P.kind = .inStep → (t.lane l).planned = some P) ∧
        (P.kind = .fill → (¬preempted → (t.lane l).planned = some P) ∧
          (preempted → ∀ c ∈ L.committed, (t.lane l).planned = some (behind c)))) ∧
      (acts → some x ≠ reference ∨ cause = .laneReset →
        let spared := L.state = .fault ∧ L.committed = none ∧ L.failedTarget = some x ∧ cause ≠ .alertChange
        (spared → keeps ∧ (t.lane l).planned = L.planned) ∧
        (¬spared →
          (L.committed = none → (t.lane l).planned = none ∧ (t.lane l).committed =
            some { seq := L.orderSeq, target := x, effect := earliestEffect L s.tick, commit := s.tick }) ∧
          ∀ c ∈ L.committed, keeps ∧ (L.planned = none → (t.lane l).planned = some (behind c)) ∧ ∀ P ∈ L.planned,
            (P.kind = .owner → (t.lane l).planned = some (behind c)) ∧ (P.kind = .stop ∨ P.kind = .inStep → (t.lane l).planned = some P) ∧
            (P.kind = .fill → (preempted → (t.lane l).planned = some (behind c)) ∧ (¬preempted → (t.lane l).planned = some P))))

/-- An accepted WRITE LANE that enables a lane in OFF: RUN with its LANE_STATE(STATE), no fault reason, and a NET order committed at the
earliest effect of the new grid, whatever owns the lane; then the owner is re-resolved, again for a change of zone; no other lane changes
(R18, R19, R21, R26). That the fault reason is cleared before the notice, and the enable taken before the change of zone, is log entry 13. -/
def Obligations.EnableLane : Prop :=
  ∀ (p : Fin 4) (r : RawLane) (s : State) (l : Fin 32) (cfg : LaneConfig) (e : Option Byte), Accepts p .writeLane s →
    laneWriteOf r = some (l, cfg, e) → (∀ v ∈ e, v = (s.lane l).revision) → (s.lane l).state = .off →
    (s.lane l).cfg.enable = false → cfg.enable = true →
    let L := s.lane l
    ∃ t, exec (.writeLane p r) s = .next t ∧ BreakOnly s t ∧ (t.lane l).state = .run ∧ (t.lane l).cfg = cfg ∧
      (t.lane l).revision = L.revision + 1 ∧ (t.lane l).faultReason = none ∧ (t.lane l).failedTarget = none ∧
      (t.lane l).committed = some { seq := L.orderSeq, target := .net, effect := earliestEffect { L with cfg := cfg } s.tick,
                                    commit := s.tick } ∧
      (t.lane l).orderSeq = L.orderSeq + 1 ∧ (t.lane l).confirmed = L.confirmed ∧
      (∀ j, j ≠ l → t.lane j = s.lane j ∧ t.order j = s.order j) ∧
      let enabled := raise (.laneState l .state .run L.owner L.confirmed none s.tick) []
        ((goodFrame p s).updLane l fun L =>
          { L with cfg := cfg, revision := L.revision + 1, state := .run, faultReason := none, failedTarget := none })
      let owned := reresolve .ordinary l (commit l .owner .net (earliestEffect { L with cfg := cfg } s.tick) none enabled)
      t = answer p .writeLane .ok (.revision (L.revision + 1)) (if cfg.zone = L.cfg.zone then owned else reresolve .ordinary l owned)

/-- An accepted WRITE LANE that disables a lane in RUN or FAULT: STOPPING, its non-final avails CANCELLED(LANE_OFF), and the stop order to
NET committed at once or planned one period behind the committed order; no other lane changes (R22, R137). LANE_STATE(STATE) goes out first,
then AVAIL_CANCELLED for each of the avails in ascending slot order (R26, R139); where one of them was in OUT, the owner is re-resolved last
(R27). That order, and that the disable is taken before a change of zone in the same write, is log entry 13. -/
def Obligations.DisableLane : Prop :=
  ∀ (p : Fin 4) (r : RawLane) (s : State) (l : Fin 32) (cfg : LaneConfig) (e : Option Byte), Accepts p .writeLane s →
    laneWriteOf r = some (l, cfg, e) → (∀ v ∈ e, v = (s.lane l).revision) → (s.lane l).state = .run ∨ (s.lane l).state = .fault →
    cfg.cadence = (s.lane l).cfg.cadence → cfg.phase = (s.lane l).cfg.phase → cfg.pathDelay = (s.lane l).cfg.pathDelay →
    (s.lane l).cfg.enable = true → cfg.enable = false →
    let L := s.lane l
    ∃ t, exec (.writeLane p r) s = .next t ∧ BreakOnly s t ∧ (t.lane l).state = .stopping ∧ (t.lane l).cfg = cfg ∧
      (t.lane l).revision = L.revision + 1 ∧
      (L.committed = none → (t.lane l).planned = none ∧ (t.lane l).committed =
        some { seq := L.orderSeq, target := .net, effect := earliestEffect L s.tick, commit := s.tick }) ∧
      (∀ c ∈ L.committed, (t.lane l).committed = some c ∧ (t.lane l).planned =
        some { kind := .stop, target := .net, effect := addPeriods L.period L.cfg.phase c.effect 1, avail := none }) ∧
      (∀ i, (s.avail i).live = true → (s.avail i).lane = l →
        t.avail i = { s.avail i with state := .cancelled, result := some .laneOff, finalTick := some s.tick, claims := [] }) ∧
      (∀ j, j ≠ l → t.lane j = s.lane j ∧ t.order j = s.order j) ∧
      let stopping := raise (.laneState l .state .stopping L.owner L.confirmed L.faultReason s.tick) []
        ((goodFrame p s).updLane l fun L => { L with cfg := cfg, revision := L.revision + 1, planned := none, state := .stopping })
      let cancelled := (List.finRange 64).foldl (fun x i =>
        let a := s.avail i
        if a.live = true ∧ a.lane = l then
          raise (.availCancelled { head := { handle := { slot := i, gen := a.gen }, lane := l, eventId := a.eventId, tick := s.tick }
                                   reason := .laneOff, left := a.state, outTick := a.outTick, inTick := a.inTick, holder := a.holder
                                   finalTick := s.tick }) a.addressed
            (x.updAvail i fun a => { a with state := .cancelled, result := some .laneOff, finalTick := some s.tick, claims := [] })
        else x) stopping
      let stopped := match L.committed with
        | none => commit l .stop .net (earliestEffect L s.tick) none cancelled
        | some c => cancelled.updLane l fun M =>
            { M with planned := some { kind := .stop, target := .net, effect := addPeriods L.period L.cfg.phase c.effect 1, avail := none } }
      let left := if ∃ i, (s.avail i).state = .out ∧ (s.avail i).lane = l then reresolve .ordinary l stopped else stopped
      t = answer p .writeLane .ok (.revision (L.revision + 1)) (if cfg.zone = L.cfg.zone then left else reresolve .ordinary l left)

/-- LANE RESET: RANGE above 31, BUSY outside FAULT; in FAULT the lane goes to RUN without fault reason, with its LANE_STATE(STATE), and is then
re-resolved (R26); where no order is outstanding, an order to its resolved owner's target is committed at the earliest effect (R25), also where
the target is confirmed already (the model's reading, log entry 7). -/
def Obligations.LaneReset : Prop :=
  ∀ (p : Fin 4) (b : Byte) (s : State), Accepts p .laneReset s →
    (32 ≤ b.toNat → exec (.laneReset p b) s = .next (answer p .laneReset .range .none (goodFrame p s))) ∧
    ∀ l : Fin 32, b.toNat = l.val →
      ((s.lane l).state ≠ .fault → exec (.laneReset p b) s = .next (answer p .laneReset .busy .none (goodFrame p s))) ∧
      ((s.lane l).state = .fault →
        let L := s.lane l
        ∃ t, exec (.laneReset p b) s = .next t ∧ BreakOnly s t ∧ (t.lane l).state = .run ∧ (t.lane l).cfg = L.cfg ∧
          (t.lane l).revision = L.revision ∧ (t.lane l).faultReason = none ∧ (t.lane l).owner = (resolve s l none).1 ∧
          (L.committed = none → (t.lane l).committed =
            some { seq := L.orderSeq, target := (resolve s l none).2, effect := earliestEffect L s.tick, commit := s.tick }) ∧
          (∀ j, j ≠ l → t.lane j = s.lane j ∧ t.order j = s.order j) ∧
          t = answer p .laneReset .ok .none (reresolve .laneReset l (raise (.laneState l .state .run L.owner L.confirmed none s.tick) []
            ((goodFrame p s).updLane l fun L => { L with state := .run, faultReason := none, failedTarget := none }))))

/-- The owner of a lane and its target: the highest alert that covers the lane, the latest among equals; else the lowest open INSERT window that
includes it; else the avail in OUT on it; else NETWORK with target NET (R28). An alert covers the lanes of the zones of its set, ALL being all 16
(R171). The owner with one avail left out, of which R35 takes the target of an IN step, is the same but for that avail. -/
def Obligations.OwnerPrecedence : Prop :=
  ∀ (s : State) (l : Fin 32) (without : Option Handle),
    let covers := fun B : Alert => B.zones.getLsbD (s.lane l).cfg.zone.val
    let takes := fun w : Fin 16 => (s.window w).isOpen = true ∧ (s.window w).cfg.type = .insert ∧ (s.window w).cfg.lanes.getLsbD l.val = true
    let out := fun i : Fin 64 => (s.avail i).state = .out ∧ (s.avail i).lane = l ∧ without ≠ some { slot := i, gen := (s.avail i).gen }
    ((∃ b ∈ s.recency, ∃ B ∈ s.alert b, covers B = true) →
      ∃ before a after, s.recency = before ++ a :: after ∧ ∃ A ∈ s.alert a, covers A = true ∧
        resolve s l without = (.alert a, A.source) ∧ (∀ b ∈ before, ∀ B ∈ s.alert b, covers B = true → B.level ≤ A.level) ∧
        ∀ b ∈ after, ∀ B ∈ s.alert b, covers B = true → B.level < A.level) ∧
    ((∀ b ∈ s.recency, ∀ B ∈ s.alert b, covers B = false) →
      (∀ w, takes w → (∀ v, v < w → ¬takes v) → resolve s l without = (.window w, (s.window w).cfg.source)) ∧
      ((∀ v, ¬takes v) →
        (∀ i h, out i → (∀ j, j < i → ¬out j) → (s.avail i).holder = some h →
          resolve s l without = (.avail { slot := i, gen := (s.avail i).gen },
            if (s.avail i).fillStep = .committed ∨ (s.avail i).fillStep = .confirmed then .fill else h.source)) ∧
        ((∀ i, ¬out i) → resolve s l without = (.network, .net))))

/-- A matched DONE: the confirmed source becomes the order's target, with LANE_STATE(SOURCE) on a change, and the order is settled (R45); a stop
order's lane goes to OFF, with LANE_STATE(STATE) and nothing planned (R23, R26). The step-done: SPLICE_OUT for an OUT order (R125, R129), CONFIRMED
for a FILL order (R126), the end of the break with SPLICE_IN and AVAIL_END for an IN order (R128). Then the planned transition: an OWNER transition is
committed at the earliest effect if its target differs from the confirmed source, a STOP at the earliest effect, a FILL or IN step at the later of its
tick and the earliest effect, and reported to its avail (R33, R35, R126, R130). -/
def Obligations.DoneMatched : Prop :=
  ∀ (l : Fin 32) (seq : Byte) (o : Outstanding) (s : State), s.order l = some o → o.seq = seq → o.sent = true →
    let L := s.lane l
    let E := earliestEffect L s.tick
    ∃ t, exec (.done l seq) s = .next t ∧ BreakOnly s t ∧ (t.lane l).confirmed = some o.target ∧
      (L.state = .stopping → o.kind = .stop → (t.lane l).state = .off ∧ (t.lane l).planned = none ∧ (t.lane l).committed = none ∧
        t.order l = none) ∧
      (L.state ≠ .stopping ∨ o.kind ≠ .stop → (t.lane l).state = L.state ∧
        (L.planned = none → (t.lane l).committed = none ∧ t.order l = none ∧ t.orderQueue = s.orderQueue) ∧
        (∀ P ∈ L.planned, P.kind = .owner → (t.lane l).planned = none ∧
          (P.target = o.target → (t.lane l).committed = none ∧ t.order l = none) ∧
          (P.target ≠ o.target → (t.lane l).committed =
            some { seq := L.orderSeq, target := P.target, effect := earliestEffect L s.tick, commit := s.tick }))) ∧
      (∀ j, j ≠ l → t.lane j = s.lane j ∧ t.order j = s.order j) ∧
      (let settled := (s.setOrder l none).updLane l fun L => { L with confirmed := some o.target, committed := none }
        let base := if L.confirmed = some o.target then settled
          else raise (.laneState l .source L.state L.owner (some o.target) L.faultReason s.tick) [] settled
        (L.state = .stopping → o.kind = .stop → t = raise (.laneState l .state .off L.owner (some o.target) L.faultReason s.tick) []
          (base.updLane l fun L => { L with planned := none, state := .off })) ∧
        (L.state ≠ .stopping ∨ o.kind ≠ .stop →
          let w := match o.avail with
            | none => base
            | some h =>
              let a := s.avail h.slot
              let head : AvailHead := { handle := h, lane := a.lane, eventId := a.eventId, tick := s.tick }
              if a.gen ≠ h.gen then base
              else match o.kind with
                | .out => if a.airing = true ∨ a.final = true then raise (.spliceOut head a.holder a.outTick a.state) a.addressed base else base
                | .fill => if a.airing then base.updAvail h.slot fun a => { a with fillStep := .confirmed } else base
                | .inStep =>
                  if a.state = .returning then
                    let r : FinalResult := if a.released then .released else .returned
                    raise (.availEnd head r a.outTick a.inTick a.frames a.holder s.tick) a.addressed
                      ((raise (.spliceIn head o.target a.inTick a.frames r) a.addressed base).updAvail h.slot fun a =>
                        { a with state := .ended, result := some r, finalTick := some s.tick, claims := [] })
                  else base
                | .owner | .stop => base
          (L.planned = none → t = w) ∧ ∀ P ∈ L.planned,
            (P.kind = .owner → t =
              if P.target = o.target then w.updLane l fun L => { L with planned := none } else commit l .owner P.target E none w) ∧
            (P.kind = .stop → t = commit l .stop .net E none w) ∧
            (P.kind = .fill →
              let e := maxTick P.effect E
              let u := commit l .fill .fill e P.avail w
              t = match P.avail with
                | none => u
                | some h =>
                  let b := w.avail h.slot
                  let v := u.updAvail h.slot fun a => { a with fillStep := .committed }
                  if b.gen ≠ h.gen ∨ b.live = false then u
                  else match b.fillTick with
                    | none => v
                    | some f =>
                      if later e f then
                        raise (.availRetimed { handle := h, lane := b.lane, eventId := b.eventId, tick := s.tick } .step b.state b.outTick
                          b.inTick b.frames b.provisional b.claimClose (some e)) b.addressed
                          (v.updAvail h.slot fun a => { a with fillTick := some e })
                      else v) ∧
            (P.kind = .inStep →
              let e := maxTick P.effect E
              let u := commit l .inStep (resolve w l P.avail).2 e P.avail w
              t = match P.avail with
                | none => u
                | some h =>
                  let b := w.avail h.slot
                  if b.gen = h.gen ∧ b.live = true ∧ later e b.inTick = true then moveIn h.slot e .step false u else u)))

/-- A DONE or FAULT that matches no sent order is counted late and recorded, and changes nothing else; the count and the record after reset
(R42, R44). -/
def Obligations.AnswerLate : Prop :=
  State.reset.lateCount = 0 ∧ State.reset.lastLate = none ∧
  ∀ (l : Fin 32) (seq : Byte) (code : FabricCode) (s : State), (∀ o ∈ s.order l, o.seq ≠ seq ∨ o.sent = false) →
    exec (.done l seq) s = .next { s with
      lateCount := min (s.lateCount + 1) 65535, lastLate := some { lane := l, seq := seq, code := none, tick := s.tick } } ∧
    exec (.fault l seq code) s = .next { s with
      lateCount := min (s.lateCount + 1) 65535, lastLate := some { lane := l, seq := seq, code := some code, tick := s.tick } }

/-- A matched FAULT, or the expiry of an acknowledgement timer: UNKNOWN, the fault reason and failed target, no planned transition, the new
lane state, every non-final avail of the lane MISSED(FAULT), and no change on another lane (R23, R47, R49, R136). A lane in FAULT is
re-resolved: an alert that owns it has its source ordered at the earliest effect, unless that source has just failed (R24). At an expiry an
unsent ORDER leaves the outbound queue, and if it was being sent the send is cut off and the link takes the next message (R48). The notices
in R49's order: LANE_STATE(SOURCE) unless the source was UNKNOWN, LANE_STATE(STATE) where the state changes, LANE_FAULT with R50's fields, and
AVAIL_MISSED(FAULT) for each avail in ascending slot order; then those of the re-resolution (R26, R136, R139). -/
def Obligations.LaneFault : Prop :=
  ∀ (l : Fin 32) (o : Outstanding) (code : FabricCode) (s : State), s.order l = some o →
    let L := s.lane l
    let after := fun (reason : FaultReason) (t : State) =>
      (t.lane l).confirmed = none ∧ (t.lane l).faultReason = some reason ∧ (t.lane l).failedTarget = some o.target ∧
        (t.lane l).planned = none ∧ (t.lane l).lastEffect = (if (t.lane l).committed = none then L.lastEffect
          else (t.lane l).committed.map Committed.effect) ∧
        (L.state = .run → (t.lane l).state = .fault) ∧ (L.state = .fault → (t.lane l).state = .fault) ∧
        (L.state = .stopping → (t.lane l).state = .off ∧ (t.lane l).committed = none ∧ (t.lane l).planned = none ∧ t.order l = none) ∧
        (L.state = .run ∨ L.state = .fault →
          (t.lane l).owner = (resolve t l none).1 ∧
          ((∀ a, (resolve s l none).1 ≠ .alert a) ∨ (resolve s l none).2 = o.target → (t.lane l).committed = none ∧ t.order l = none) ∧
          ((∃ a, (resolve s l none).1 = .alert a) → (resolve s l none).2 ≠ o.target → (t.lane l).committed =
            some { seq := L.orderSeq, target := (resolve s l none).2, effect := earliestEffect L s.tick, commit := s.tick })) ∧
        (∀ i, (s.avail i).live = true → (s.avail i).lane = l →
          t.avail i = { s.avail i with state := .missed, result := some .fault, finalTick := some s.tick, claims := [] }) ∧
        ∀ j, j ≠ l → t.lane j = s.lane j ∧ t.order j = s.order j
    let ordered := fun (t : State) => match (t.lane l).committed with
      | none => []
      | some c => [({ lane := l, seq := c.seq, target := c.target, effect := c.effect } : OrderMsg)]
    let next : LaneState := match L.state with | .run => .fault | .stopping => .off | x => x
    let fallen := fun (reason : FaultReason) (code : Option FabricCode) (settled : State) =>
      let struck := settled.updLane l fun L =>
        { L with confirmed := none, committed := none, planned := none, faultReason := some reason, failedTarget := some o.target
                 state := next }
      let sourced := if L.confirmed = none then struck
        else raise (.laneState l .source L.state L.owner none L.faultReason s.tick) [] struck
      let turned := if next = L.state then sourced else raise (.laneState l .state next L.owner none (some reason) s.tick) [] sourced
      let missed := (List.finRange 64).foldl (fun x i =>
        let a := s.avail i
        if a.live = true ∧ a.lane = l then
          raise (.availMissed { head := { handle := { slot := i, gen := a.gen }, lane := l, eventId := a.eventId, tick := s.tick }
                                reason := .fault, left := a.state, outTick := a.outTick, inTick := a.inTick, holder := a.holder
                                finalTick := s.tick }) a.addressed
            (x.updAvail i fun a => { a with state := .missed, result := some .fault, finalTick := some s.tick, claims := [] })
        else x) (raise (.laneFault l o reason code next s.tick) [] turned)
      if next = .fault then reresolve .ordinary l missed else missed
    let others := s.orderQueue.filter fun m => decide (m.lane ≠ l)
    let cut := s.sending ≠ none ∧ ∃ m rest, s.orderQueue = m :: rest ∧ m.lane = l
    (o.sent = true → ∃ t, exec (.fault l o.seq code) s = .next t ∧ after .fabric t ∧ BreakOnly s t ∧
      t.orderQueue = s.orderQueue ++ ordered t ∧ t = fallen .fabric (some code) (s.setOrder l none)) ∧
    (o.ackExpiry = s.tick → ∃ t, exec (.ackTimerExpiry l) s = .next t ∧ after .timeout t ∧ BreakOnly { s with sending := t.sending } t ∧
      t = fallen .timeout none
        (({ s with orderQueue := if o.sent then s.orderQueue else others, sending := t.sending } : State).setOrder l none) ∧
      (o.sent = true → t.orderQueue = s.orderQueue ++ ordered t ∧ t.sending = s.sending) ∧
      (o.sent = false → t.orderQueue = others ++ ordered t ∧
        (cut → t.sending = if others = [] then none else some s.tick) ∧ (¬cut → t.sending = s.sending)))

/-- Sends: an idle link begins the send of the queue's head; a send that began at an earlier tick ends with the message out of the queue
and its lane's record showing sent, and the next message, if any, begins (R39; a send takes a positive number of ticks: log entry 11). -/
def Obligations.OrderSends : Prop :=
  ∀ (m : OrderMsg) (rest : List OrderMsg) (s : State), s.orderQueue = m :: rest →
    (s.sending = none → exec .orderSendStart s = .next { s with sending := some s.tick }) ∧
    (∀ b o, s.sending = some b → b ≠ s.tick → s.order m.lane = some o →
      exec .orderSendEnd s = .next (({ s with
        orderQueue := rest, sending := if rest = [] then none else some s.tick } : State).setOrder m.lane (some { o with sent := true })))

/-- A malformed message from the fabric is counted and recorded with its cause, and changes nothing else; the causes, in R41's order, for
the types that the fabric sends, and CHECK and then TYPE for every other type, ORDER's among them (R41, R201). That a message of such a type has
no required length, and that one without bytes fails LENGTH, is log entry 18. -/
def Obligations.FabricMalformed : Prop :=
  (∀ (bytes : List Byte) (cause : LinkCause) (s : State), decodeFabric bytes = .error cause →
    exec (.fabricMessageMalformed bytes) s = .next { s with
      linkErrors := min (s.linkErrors + 1) 65535, lastLinkError := some { cause := cause, tick := s.tick } }) ∧
  decodeFabric [] = .error .length ∧
  (∀ (type : Byte) (rest : List Byte), type.toNat ≠ 2 → type.toNat ≠ 3 →
    decodeFabric (type :: rest) = .error (if rest.foldl (· + ·) type = 0 then .type else .check)) ∧
  ∀ (lane seq code x : Byte) (rest : List Byte),
    (rest.length ≠ 3 → decodeFabric (2 :: rest) = .error .length) ∧ (rest.length ≠ 4 → decodeFabric (3 :: rest) = .error .length) ∧
    (2 + (lane + (seq + x)) ≠ 0 → decodeFabric [2, lane, seq, x] = .error .check) ∧
    (2 + (lane + (seq + x)) = 0 → 32 ≤ lane.toNat → decodeFabric [2, lane, seq, x] = .error .lane) ∧
    (3 + (lane + (seq + (code + x))) ≠ 0 → decodeFabric [3, lane, seq, code, x] = .error .check) ∧
    (3 + (lane + (seq + (code + x))) = 0 → 32 ≤ lane.toNat → decodeFabric [3, lane, seq, code, x] = .error .lane) ∧
    (3 + (lane + (seq + (code + x))) = 0 → lane.toNat < 32 → code.toNat = 0 ∨ 3 < code.toNat →
      decodeFabric [3, lane, seq, code, x] = .error .code)

/-- Every command keeps the order link sound: an outstanding record exactly for each committed order, the queue holding exactly the unsent
orders, one for each lane, and lanes in OFF without orders (R23, R31, R38, R39, R43). -/
def Obligations.OrdersSoundKept : Prop := ∀ s t : State, OrdersSound s → step s = .next t → OrdersSound t

/-- A lane's confirmed source changes only by a DONE or FAULT for its committed order, an acknowledgement timeout (given as a command, or taken
by STATION_TICK) or POWER_ON_RESET, and what each sets it to (R46). That STATION_TICK takes a timeout which is due and was not given as a
command is log entry 4. -/
def Obligations.ConfirmedOnlyByAnswers : Prop :=
  (∀ (c : Instr) (s t : State), exec c s = .next t → (∀ x y, c ≠ .done x y) → (∀ x y z, c ≠ .fault x y z) →
    (∀ x, c ≠ .ackTimerExpiry x) → c ≠ .stationTick → (∀ x y, c ≠ .powerOnReset x y) →
    ∀ l, (t.lane l).confirmed = (s.lane l).confirmed) ∧
  (∀ (l : Fin 32) (seq : Byte) (code : FabricCode) (s : State),
    let answered := ∃ o ∈ s.order l, o.seq = seq ∧ o.sent = true
    (∃ t, exec (.done l seq) s = .next t ∧ (∀ j, j ≠ l ∨ ¬answered → (t.lane j).confirmed = (s.lane j).confirmed) ∧
      ∀ o ∈ s.order l, o.seq = seq → o.sent = true → (t.lane l).confirmed = some o.target) ∧
    (∃ t, exec (.fault l seq code) s = .next t ∧ (∀ j, j ≠ l ∨ ¬answered → (t.lane j).confirmed = (s.lane j).confirmed) ∧
      (answered → (t.lane l).confirmed = none)) ∧
    ∃ t, exec (.ackTimerExpiry l) s = .next t ∧
      (∀ j, j ≠ l ∨ (∀ o ∈ s.order l, o.ackExpiry ≠ s.tick) → (t.lane j).confirmed = (s.lane j).confirmed) ∧
      ∀ o ∈ s.order l, o.ackExpiry = s.tick → (t.lane l).confirmed = none) ∧
  (∀ s, OrdersSound s → LanesSound s → ∃ t, exec .stationTick s = .next t ∧ ∀ l,
    ((∀ o ∈ s.order l, o.ackExpiry ≠ s.tick) → (t.lane l).confirmed = (s.lane l).confirmed) ∧
    ∀ o ∈ s.order l, o.ackExpiry = s.tick → (t.lane l).confirmed = none) ∧
  ∀ straps lines s, ∃ t, exec (.powerOnReset straps lines) s = .next t ∧ ∀ l, (t.lane l).confirmed = some .net

/-- Every command keeps every lane's configuration within R15's ranges, every window's configuration within R157's (the start fields, the
duration and the source among them), and every window's run state as R158 has it: a closed window has no seconds remaining, an open one is
enabled and has some. -/
def Obligations.LanesAndWindowsSoundKept : Prop :=
  (∀ s t : State, LanesSound s → step s = .next t → LanesSound t) ∧ ∀ s t : State, WindowsSound s → step s = .next t → WindowsSound t

/-! ## Intake -/

/-- A record's arrival: stamped and placed at the tail while the FIFO has room, else discarded and counted as an overrun; the overrun count and tick
after reset (R53, R56). The ready output is asserted while the FIFO holds fewer than 16 records (R55). -/
def Obligations.RecordArrival : Prop :=
  State.reset.overruns = 0 ∧ State.reset.lastOverrun = none ∧ State.reset.ready = true ∧ (∀ s : State, s.ready = true ↔ s.fifo.length < 16) ∧
  ∀ (bytes : List Byte) (s : State),
    (s.fifo.length < 16 → exec (.recordArrival bytes) s = .next { s with fifo := s.fifo ++ [{ bytes := bytes, arrival := s.tick }] }) ∧
    (16 ≤ s.fifo.length → exec (.recordArrival bytes) s = .next { s with
      overruns := min (s.overruns + 1) 65535, lastOverrun := some s.tick })

/-- The causes for which a record is invalid, in R58's order, on its bytes (R59, R61, R200). A taking: the head leaves the FIFO; an invalid record is
counted and recorded, a TIMEREF replaces its feed's reference with its arrival tick and, flagged, raises LANE_STATE for its lanes in order; a CUE is
delivered to the filters (R57, R58, R60, R61, R63). The recorded feed of a record shorter than three bytes and the type code of an empty one are log
entry 17. -/
def Obligations.IntakeTaking : Prop :=
  (∀ bytes : List Byte,
    let b := fun i : Nat => (bytes.getD i 0).toNat
    let sums := bytes.foldl (· + ·) 0 = 0
    let lead := ((b 9 * 256 + b 10) * 256 + b 11) * 256 + b 12
    let badCue := 31 < b 1 ∨ 3 < b 2 ∨ 1 < b 8 ∨ (b 8 = 1 ∧ 1800000 < lead) ∨ 1 < b 13
    let cueLength := (bytes.length = 15 ∧ b 13 ≠ 1) ∨ (bytes.length = 19 ∧ b 13 ≠ 0)
    (decodeRecord bytes = .error .check ↔ ¬sums) ∧
    (sums → b 0 ≠ 1 → b 0 ≠ 2 → decodeRecord bytes = .error .type) ∧
    (sums → b 0 = 1 → (decodeRecord bytes = .error .length ↔ ¬cueLength) ∧ (decodeRecord bytes = .error .field ↔ cueLength ∧ badCue)) ∧
    (sums → b 0 = 2 → (decodeRecord bytes = .error .length ↔ bytes.length ≠ 8) ∧
      (decodeRecord bytes = .error .field ↔ bytes.length = 8 ∧ (31 < b 1 ∨ 1 < b 6)))) ∧
  ∀ (e : IntakeEntry) (rest : List IntakeEntry) (s : State), s.fifo = e :: rest →
    let s1 : State := { s with fifo := rest }
    (∀ cause, decodeRecord e.bytes = .error cause → exec .intakeTaking s = .next { s1 with
      intakeErrors := min (s.intakeErrors + 1) 65535
      lastIntakeError := some { cause := cause, typeCode := e.bytes.headD 0, feed := if 3 ≤ e.bytes.length then e.bytes[1]? else none
                                arrival := e.arrival, tick := s.tick } }) ∧
    (∀ f stamp, decodeRecord e.bytes = .ok (.timeref f stamp false) →
      exec .intakeTaking s = .next (s1.setFeedRef f { valid := true, stamp := stamp, station := e.arrival })) ∧
    (∀ f stamp, decodeRecord e.bytes = .ok (.timeref f stamp true) → ∃ t, exec .intakeTaking s = .next t ∧
      PortsOnly (s1.setFeedRef f { valid := true, stamp := stamp, station := e.arrival }) t ∧
      ∀ p, (s.port p).state ≠ .detached → (s.port p).mask.getLsbD 16 = true →
        let ls := (List.finRange 32).filter fun l => decide ((s.lane l).cfg.feed = f)
        (s.port p).queue.length + ls.length ≤ 16 →
          (t.port p).queue = (s.port p).queue ++ ls.map fun l =>
            .laneState l .discontinuity (s.lane l).state (s.lane l).owner (s.lane l).confirmed (s.lane l).faultReason s.tick) ∧
    (∀ f stamp, decodeRecord e.bytes = .ok (.timeref f stamp true) → exec .intakeTaking s = .next
      ((List.finRange 32).foldl (fun x l =>
        let L := s.lane l
        if L.cfg.feed = f then raise (.laneState l .discontinuity L.state L.owner L.confirmed L.faultReason s.tick) [] x else x)
        (s1.setFeedRef f { valid := true, stamp := stamp, station := e.arrival }))) ∧
    ∀ f k id cls tm d, decodeRecord e.bytes = .ok (.cue f k id cls tm d) →
      exec .intakeTaking s = .next (deliverCue { feed := f, kind := k, eventId := id, cls := cls, timing := tm, duration := d,
                                                 origin := .inband, arrival := e.arrival } s1)

/-- Every command keeps the FIFO within 16 records, the stray buffer within 2 and the saturating counts within their maxima: order-link errors,
late answers, intake overruns and errors, hits, stray overruns, and the repeat and conflict counts of the avails (R41, R44, R54, R56, R58, R87,
R98, R115). The ports' dropped-notice counts are in PortsSoundKept. -/
def Obligations.BuffersSoundKept : Prop := ∀ s t : State, BuffersSound s → step s = .next t → BuffersSound t

/-! ## Cue logic -/

/-- A line change sets that line alone and runs one evaluation pass; a settle expiry stops the timer, passes the raw output on, looks at the
emission of that change first and then runs one pass. The cues of the event are handed to the filters after the pass, one at a time, in the
order of their emission (R67, R72, R73, R75, R78). Both touch nothing else but cells, pairs and what emitted cues touch. A command that
names the level the line already has is no event (log entry 3). -/
def Obligations.CueLogicEvents : Prop :=
  (∀ (k : Fin 24) (level : Bool) (s : State),
    (s.lines.getLsbD k.val = level → exec (.lineChange k level) s = .next s) ∧
    (s.lines.getLsbD k.val ≠ level → ∃ t, exec (.lineChange k level) s = .next t ∧
      (∀ j : Fin 24, t.lines.getLsbD j.val = if j = k then level else s.lines.getLsbD j.val) ∧
      ArrayOnly { s with lines := t.lines } t ∧ ((∀ n, (s.pair n).enable = false) → t = { s with lines := t.lines }) ∧
      let y := evalPass ({ s with lines := t.lines }, [])
      t = y.2.foldl (fun x c => deliverCue c x) y.1)) ∧
  ∀ (n : Fin 12) (s : State), (s.cell n).timer = some s.tick →
    ∃ t, exec (.settleExpiry n) s = .next t ∧ ((s.cell n).cfg.settle ≠ 0 → (t.cell n).filtered = (s.cell n).raw) ∧ ArrayOnly s t ∧
      let c := s.cell n
      let x : Pass := (s.updCell n fun c => { c with timer := none, filtered := c.raw }, [])
      let y := evalPass (if c.raw ≠ c.filtered ∧ c.cfg.source = .filtered then emit n c.raw x else x)
      t = y.2.foldl (fun x c => deliverCue c x) y.1

/-- The array's parts. The raw output is the truth table's entry at the values of the three inputs (R69, R70). One evaluation of a cell: nothing
while the raw output is unchanged; a change passes at once with no settle time, and otherwise starts the settle timer afresh and leaves the
filtered output (R71). The order of a pass, which passes over disabled pairs (R73). One evaluation of a pair element, by R74's table, and
the elements after reset. An edge of a cell's emission source, and no other, makes it emit: the kind by its emission edge, the event id
from its sequence, the rest from its template (R75, R76, R77, R78). -/
def Obligations.Evaluations : Prop :=
  (∀ k : Fin 6, (evenCell k).val = 2 * k.val ∧ (oddCell k).val = 2 * k.val + 1 ∧ pairOf (evenCell k) = k ∧ pairOf (oddCell k) = k) ∧
  (∀ k, (State.reset.pair k).output = false ∧ (State.reset.pair k).oddSeen = false ∧ (State.reset.pair k).mode = .off) ∧
  (∀ (s : State) (n : Fin 12) (pairOutput : Bool),
    let value : Selector → Bool := fun x => match x with
      | .low => false
      | .line k => s.lines.getLsbD k.val
      | .link =>
        let m : Fin 12 := if n = 11 then 0 else n + 1
        (s.pair (pairOf m)).enable && (s.cell m).filtered
      | .pair => pairOutput
      | .laneOut l => decide (∃ i, ((s.avail i).state = .out ∨ (s.avail i).state = .returning) ∧ (s.avail i).lane = l)
      | .alertAny => decide (∃ a, (s.alert a).isSome = true)
    let high := fun x : Selector => if value x then 1 else 0
    let c := (s.cell n).cfg
    rawOutput s n pairOutput = c.table.getLsbD (high c.input2 * 4 + high c.input1 * 2 + high c.input0)) ∧
  (∀ (n : Fin 12) (x : Pass),
    let c := x.1.cell n
    let raw := rawOutput x.1 n (x.1.pair (pairOf n)).output
    let d := (evalCell n x).1.cell n
    ((x.1.pair (pairOf n)).enable = false → evalCell n x = x) ∧
    ((x.1.pair (pairOf n)).enable = true →
      (raw = c.raw → evalCell n x = x) ∧
      (raw ≠ c.raw → c.cfg.settle = 0 → d.raw = raw ∧ d.filtered = raw ∧ d.timer = c.timer ∧
        let x1 : Pass := (x.1.updCell n fun c => { c with raw := raw, filtered := raw }, x.2)
        evalCell n x = if c.filtered ≠ raw ∧ c.cfg.source = .filtered then emit n raw x1 else x1) ∧
      (raw ≠ c.raw → c.cfg.settle ≠ 0 → d = { c with raw := raw, timer := some (x.1.tick + BitVec.ofNat 48 (c.cfg.settle * 180)) } ∧
        evalCell n x = (x.1.updCell n fun _ => d, x.2)))) ∧
  (∀ x : Pass, evalPass x =
    evalElement 0 (evalCell 0 (evalCell 1 (evalElement 1 (evalCell 2 (evalCell 3 (evalElement 2 (evalCell 4 (evalCell 5
      (evalElement 3 (evalCell 6 (evalCell 7 (evalElement 4 (evalCell 8 (evalCell 9 (evalElement 5 (evalCell 10 (evalCell 11 x)))))))))))))))))) ∧
  (∀ (k : Fin 6) (x : Pass),
    ((x.1.pair k).enable = false → evalElement k x = x) ∧
    ((x.1.pair k).enable = true →
      let P := x.1.pair k
      let odd := (x.1.cell (oddCell k)).filtered
      let even := (x.1.cell (evenCell k)).filtered
      let edge := P.oddSeen = false ∧ odd = true
      let Q := (evalElement k x).1.pair k
      Q.oddSeen = odd ∧ Q.mode = P.mode ∧ (P.mode = .off → Q.output = false) ∧
        (P.mode = .follow → Q.output = if odd then even else P.output) ∧
        (P.mode = .setReset → Q.output = if odd then false else if even then true else P.output) ∧
        (P.mode = .capture → Q.output = if edge then even else P.output) ∧
        (P.mode = .toggle → Q.output = if edge ∧ even = true then !P.output else P.output) ∧
        let watched := fun (n : Fin 12) (y : Pass) => if (y.1.cell n).cfg.source = .pair then emit n Q.output y else y
        let x1 : Pass := (x.1.updPair k fun P => { P with output := Q.output, oddSeen := odd }, x.2)
        evalElement k x = if Q.output = P.output then x1 else watched (evenCell k) (watched (oddCell k) x1))) ∧
  ∀ (n : Fin 12) (rising : Bool) (x : Pass),
    let c := x.1.cell n
    let kind : Option CueKind := match c.cfg.edge, rising with
      | .none, _ => none
      | .rising, true => some c.cfg.kind
      | .rising, false => none
      | .falling, true => none
      | .falling, false => some c.cfg.kind
      | .both, true => some c.cfg.kind
      | .both, false => if c.cfg.kind = .out then some .ret else some c.cfg.kind
    (kind = none → emit n rising x = x) ∧
    ∀ k, kind = some k →
      let sequence := if k = .out then c.sequence + 1 else c.sequence
      emit n rising x = (x.1.updCell n fun c => { c with sequence := sequence },
        x.2 ++ [{ feed := c.cfg.feed, kind := k, eventId := BitVec.ofNat 32 (c.cfg.feed.val * 65536 + sequence.toNat), cls := c.cfg.cls
                  timing := .lead c.cfg.lead, duration := none, origin := .cell n, arrival := x.1.tick }])

/-- WRITE PAIR, ENABLE PAIR and SET CUE OUTPUT: the bounds of their fields (R68, R79, R83) and what fields within them spell (R198), the refusals, the
writing of a disabled pair, priming, forcing, and a selection (R80, R81, R82, R84); an accepted request changes nothing of the ports but what its
frame and its reply do. That an undefined presence byte and an unused selector number are refused RANGE is log entry 15. -/
def Obligations.PairRequests : Prop :=
  (∀ r : RawPair,
    (pairWriteOf r = none ↔ 5 < r.pair.toNat ∨ 4 < r.mode.toNat ∨ CellOut r.even ∨ CellOut r.odd ∨ r.expected.undefinedPresent = true) ∧
    ∀ k mode even odd e, pairWriteOf r = some (k, mode, even, odd, e) → k.val = r.pair.toNat ∧
      [ElementMode.off, .follow, .setReset, .capture, .toggle][r.mode.toNat]? = some mode ∧ CellSpells r.even even ∧ CellSpells r.odd odd ∧
      OptSpells r.expected e) ∧
  (∀ r : RawEnable,
    (enableWriteOf r = none ↔ 5 < r.pair.toNat ∨ 1 < r.enable.toNat ∨ r.expected.undefinedPresent = true) ∧
    ∀ k en e, enableWriteOf r = some (k, en, e) →
      k.val = r.pair.toNat ∧ en = decide (r.enable.toNat = 1) ∧ OptSpells r.expected e) ∧
  (∀ r : RawOutput,
    let kind := r.selection.kind.toNat
    let number := r.selection.number.toNat
    (outputWriteOf r = none ↔
      7 < r.output.toNat ∨ 2 < kind ∨ (kind = 0 ∧ number ≠ 0) ∨ (kind = 1 ∧ 11 < number) ∨ (kind = 2 ∧ 5 < number)) ∧
    ∀ o x, outputWriteOf r = some (o, x) → o.val = r.output.toNat ∧
      ((kind = 0 ∧ x = .low) ∨ (kind = 1 ∧ ∃ n : Fin 12, number = n.val ∧ x = .cell n) ∨
        (kind = 2 ∧ ∃ k : Fin 6, number = k.val ∧ x = .pair k))) ∧
  (∀ (p : Fin 4) (r : RawPair) (s : State), Accepts p .writePair s →
    (pairWriteOf r = none → exec (.writePair p r) s = .next (answer p .writePair .range .none (goodFrame p s))) ∧
    ∀ k mode even odd e, pairWriteOf r = some (k, mode, even, odd, e) →
      let P := s.pair k
      let stale := ∃ v, e = some v ∧ v ≠ P.revision
      (stale → exec (.writePair p r) s = .next (answer p .writePair .stale (.revision P.revision) (goodFrame p s))) ∧
      (¬stale → P.enable = true → exec (.writePair p r) s = .next (answer p .writePair .busy .none (goodFrame p s))) ∧
      (¬stale → P.enable = false → ∃ t, exec (.writePair p r) s = .next t ∧
        t = answer p .writePair .ok (.revision (P.revision + 1)) { goodFrame p s with cells := t.cells, pairs := t.pairs } ∧
        (t.port p).reply = some { request := 15, outcome := .ok, body := .revision (P.revision + 1) } ∧
        t.pair k = { P with mode := mode, revision := P.revision + 1 } ∧ (∀ j, j ≠ k → t.pair j = s.pair j) ∧
        ∀ n, t.cell n = if n = evenCell k then { s.cell n with cfg := even } else if n = oddCell k then { s.cell n with cfg := odd }
          else s.cell n)) ∧
  (∀ (p : Fin 4) (r : RawEnable) (s : State), Accepts p .enablePair s →
    (enableWriteOf r = none → exec (.enablePair p r) s = .next (answer p .enablePair .range .none (goodFrame p s))) ∧
    ∀ k en e, enableWriteOf r = some (k, en, e) →
      let P := s.pair k
      let stale := ∃ v, e = some v ∧ v ≠ P.revision
      (stale → exec (.enablePair p r) s = .next (answer p .enablePair .stale (.revision P.revision) (goodFrame p s))) ∧
      (¬stale → ∃ t, exec (.enablePair p r) s = .next t ∧
        t = answer p .enablePair .ok (.revision (P.revision + 1)) { goodFrame p s with cells := t.cells, pairs := t.pairs } ∧
        (t.port p).reply = some { request := 16, outcome := .ok, body := .revision (P.revision + 1) } ∧
        (∀ j, j ≠ k → t.pair j = s.pair j) ∧ (∀ n, n ≠ evenCell k → n ≠ oddCell k → t.cell n = s.cell n) ∧
        (en = P.enable → t.pair k = { P with revision := P.revision + 1 } ∧ ∀ n, t.cell n = s.cell n) ∧
        (P.enable = true → en = false →
          t.pair k = { P with revision := P.revision + 1, enable := false, output := false, oddSeen := false } ∧
          ∀ n, n = evenCell k ∨ n = oddCell k → t.cell n = { s.cell n with raw := false, filtered := false, timer := none }) ∧
        (P.enable = false → en = true →
          t.pair k = { P with revision := P.revision + 1, enable := true, output := false, oddSeen := (t.cell (oddCell k)).filtered } ∧
          ∀ n, n = evenCell k ∨ n = oddCell k →
            t.cell n = { s.cell n with raw := rawOutput t n false, filtered := rawOutput t n false, timer := none }))) ∧
  ∀ (p : Fin 4) (r : RawOutput) (s : State), Accepts p .setCueOutput s →
    (outputWriteOf r = none → exec (.setCueOutput p r) s = .next (answer p .setCueOutput .range .none (goodFrame p s))) ∧
    ∀ o x, outputWriteOf r = some (o, x) →
      exec (.setCueOutput p r) s = .next (answer p .setCueOutput .ok .none ((goodFrame p s).setOutput o x))

/-- Every command keeps every disabled pair at rest: outputs low, timers stopped (R68, R82). -/
def Obligations.PairsSoundKept : Prop := ∀ s t : State, PairsSound s → step s = .next t → PairsSound t

/-! ## Filters -/

/-- WRITE FILTER, READ HIT and TAKE STRAY: the bounds of a filter's fields (R86) and what fields within them spell (R198), the refusals, the
writing that leaves the hit record, the reading that clears its flags, and the removal of the oldest stray (R88, R97, R100). That an undefined
presence byte is refused RANGE is log entry 15. -/
def Obligations.FilterRequests : Prop :=
  (∀ r : RawFilter,
    (filterWriteOf r = none ↔ 47 < r.filter.toNat ∨ 1 < r.enable.toNat ∨ (31 < r.feed.toNat ∧ r.feed.toNat ≠ 255) ∨ 15 < r.kinds.toNat ∨
      2 < r.origin.toNat ∨ 2 < r.action.toNat ∨ 1 < r.notify.toNat ∨ r.classHigh.toNat < r.classLow.toNat ∨
      r.expected.undefinedPresent = true) ∧
    ∀ i cfg e, filterWriteOf r = some (i, cfg, e) → i.val = r.filter.toNat ∧ cfg.enable = decide (r.enable.toNat = 1) ∧
      cfg.feed.map Fin.val = (if r.feed.toNat = 255 then none else some r.feed.toNat) ∧ cfg.kinds.toNat = r.kinds.toNat ∧
      cfg.idValue = r.idValue ∧ cfg.idMask = r.idMask ∧ cfg.classLow = r.classLow ∧ cfg.classHigh = r.classHigh ∧
      [OriginMatch.inband, .cell, .any][r.origin.toNat]? = some cfg.origin ∧
      [FilterAction.arm, .forward, .drop][r.action.toNat]? = some cfg.action ∧ cfg.notify = decide (r.notify.toNat = 1) ∧
      cfg.lanes = r.lanes ∧ OptSpells r.expected e) ∧
  (∀ (p : Fin 4) (r : RawFilter) (s : State), Accepts p .writeFilter s →
    (filterWriteOf r = none → exec (.writeFilter p r) s = .next (answer p .writeFilter .range .none (goodFrame p s))) ∧
    ∀ i cfg e, filterWriteOf r = some (i, cfg, e) →
      let F := s.filter i
      ((∃ v, e = some v ∧ v ≠ F.revision) →
        exec (.writeFilter p r) s = .next (answer p .writeFilter .stale (.revision F.revision) (goodFrame p s))) ∧
      ((∀ v ∈ e, v = F.revision) →
        exec (.writeFilter p r) s = .next (answer p .writeFilter .ok (.revision (F.revision + 1))
          ((goodFrame p s).updFilter i fun F => { F with cfg := cfg, revision := F.revision + 1 })))) ∧
  (∀ (p : Fin 4) (b : Byte) (s : State), Accepts p .readHit s →
    (48 ≤ b.toNat → exec (.readHit p b) s = .next (answer p .readHit .range .none (goodFrame p s))) ∧
    ∀ i : Fin 48, b.toNat = i.val → exec (.readHit p b) s = .next (answer p .readHit .ok (.hit (s.filter i).hit)
      ((goodFrame p s).updFilter i fun F => { F with hit := { F.hit with unread := false, overwritten := false } }))) ∧
  ∀ (p : Fin 4) (s : State), Accepts p .takeStray s →
    (s.strays = [] → exec (.takeStray p) s = .next (answer p .takeStray .empty .none (goodFrame p s))) ∧
    ∀ x rest, s.strays = x :: rest → exec (.takeStray p) s = .next (answer p .takeStray .ok (.stray x rest.length s.strayOverruns)
      { goodFrame p s with strays := rest })

/-- A delivered cue goes to the first enabled filter that matches it (R90), by R91's conditions, whose hit record takes it (R95); DROP and
FORWARD touch no avail (R94), ARM hands the cue to the lanes of its set that are in RUN and carry the feed, in ascending order, and the
outcome is the first lane result that is not OK, with its lane (R92, R93). CUE_HIT is raised for an ARM hit with notify 1 and for every
FORWARD hit (R96). A cue that no filter matches becomes a stray, with its STRAY notice (R98, R99). -/
def Obligations.CueDelivery : Prop :=
  (∀ (f : FilterConfig) (c : Cue), f.matches c = true ↔
    (∀ x ∈ f.feed, x = c.feed) ∧ (f.kinds.getLsbD (match c.kind with | .out => 0 | .ret => 1 | .cancel => 2 | .mark => 3) = true) ∧
    (∀ b : Nat, f.idMask.getLsbD b = true → c.eventId.getLsbD b = f.idValue.getLsbD b) ∧
    f.classLow.toNat ≤ c.cls.toNat ∧ c.cls.toNat ≤ f.classHigh.toNat ∧
    (f.origin = .any ∨ (f.origin = .inband ∧ c.origin = .inband) ∨ (f.origin = .cell ∧ ∃ n, c.origin = .cell n))) ∧
  ∀ (c : Cue) (s : State),
    let takes := fun i : Fin 48 => (s.filter i).cfg.enable = true ∧ (s.filter i).cfg.matches c = true
    let stray : Stray := { cue := c, tick := s.tick }
    ((∀ i, ¬takes i) →
      deliverCue c s = { s with strays := (deliverCue c s).strays, strayOverruns := (deliverCue c s).strayOverruns
                                ports := (deliverCue c s).ports } ∧
      (s.strays = [] → deliverCue c s = raise (.stray c s.tick 1 false s.strayOverruns) [] { s with strays := [stray] }) ∧
      (∀ a, s.strays = [a] → deliverCue c s = raise (.stray c s.tick 2 false s.strayOverruns) [] { s with strays := [a, stray] }) ∧
      ∀ a b, s.strays = [a, b] →
        let overruns := min (s.strayOverruns + 1) 255
        deliverCue c s = raise (.stray c s.tick 2 true overruns) [] { s with strays := [a, stray], strayOverruns := overruns }) ∧
    ∀ i, takes i → (∀ j, j < i → ¬takes j) →
      let F := s.filter i
      let t := deliverCue c s
      let H := (t.filter i).hit
      let hits := fun u : State => u.updFilter i fun F => { F with hit := H }
      let lanes := (List.finRange 32).filter fun l =>
        F.cfg.lanes.getLsbD l.val && decide ((s.lane l).state = .run) && decide ((s.lane l).cfg.feed = c.feed)
      let run := lanes.foldl (fun (x : State × List (ReplyCode × Fin 32)) l =>
        ((cueAction i c l x.1).2, x.2 ++ [((cueAction i c l x.1).1, l)])) (s, [])
      let failed := run.2.find? fun r => decide (r.1 ≠ .ok)
      (t.filter i).cfg = F.cfg ∧ (t.filter i).revision = F.revision ∧ (∀ j, j ≠ i → t.filter j = s.filter j) ∧ t.strays = s.strays ∧
        H.count = min (F.hit.count + 1) 65535 ∧ H.lastCue = some c ∧ H.hitTick = some s.tick ∧ H.unread = true ∧
        H.overwritten = (F.hit.overwritten || F.hit.unread) ∧ CueOnly s t ∧
        (F.cfg.action = .drop → H.outcome = some .dropped ∧ H.outcomeLane = none ∧ H.lanesApplied = 0 ∧ t = hits s) ∧
        (F.cfg.action = .forward → H.outcome = some .forwarded ∧ H.outcomeLane = none ∧ H.lanesApplied = 0 ∧
          t = raise (.cueHit i .forward c .forwarded none 0 H.count s.tick) [] (hits s)) ∧
        (F.cfg.action = .arm → c.kind = .mark → H.outcome = some .ignoredKind ∧ H.outcomeLane = none ∧ H.lanesApplied = 0 ∧
          t.avails = s.avails ∧
          t = if F.cfg.notify then raise (.cueHit i .arm c .ignoredKind none 0 H.count s.tick) [] (hits s) else hits s) ∧
        (F.cfg.action = .arm → c.kind ≠ .mark →
          let outcome : HitOutcome := if lanes = [] then .noLane else match failed with
            | none => .result .ok
            | some r => .result r.1
          H.outcome = some outcome ∧ H.outcomeLane = failed.map Prod.snd ∧
          (∀ l : Fin 32, H.lanesApplied.getLsbD l.val =
            (F.cfg.lanes.getLsbD l.val && decide ((s.lane l).state = .run) && decide ((s.lane l).cfg.feed = c.feed))) ∧
          t = if F.cfg.notify then
              raise (.cueHit i .arm c outcome H.outcomeLane H.lanesApplied H.count s.tick) [] (hits run.1)
            else hits run.1)

/-! ## Avails and claims -/

/-- Splice time arithmetic: the anchor of a cue or a booking (R104, R105, R106), its nearest frame boundary (R107), the break frames (R108),
the in tick (R109), FAR (R110), lateness and the late grace (R111), and the claim close with arbitration due at creation (R112). What an
OUT cue action or a booking with these times does: a repeat, a re-timing, a conflict (R121), a new avail in the lowest EMPTY slot or in place
of the oldest final avail, or FULL (R118, R119), with its notice (R139). BOOK AVAIL with its refusals, and the OUT cue action, come to just
that (R119, R120). The nearest boundary lies within half a period also across the counter's wrap, on a grid as R5 describes it there (phase
below 2^48 mod period: log entry 6), and a sum of whole periods across it gives the boundary at or after the reduced sum (R6, R109). -/
def Obligations.BookAvail : Prop :=
  (∀ (L : Lane) (now S : Tick) (n : Nat) (provisional : Bool),
    let p := L.period
    let φ := L.cfg.phase
    let B := alignBoundary p φ S
    let I := addPeriods p φ B n
    let E := earliestEffect L now
    let times := fun (out : Tick) (frames : Nat) =>
      let close := out - BitVec.ofNat 48 L.cfg.claimLead
      ({ outTick := out, inTick := I, frames := frames, provisional := provisional, claimClose := close
         due := decide (0 ≤ (now - close).toInt) } : Times)
    (∀ q x : Int, (S.toNat : Int) - φ = q * p + x → 0 ≤ x → x < p → 0 ≤ φ + q * p → φ + (q + 1) * p < 2 ^ 48 →
      (B.toNat : Int) = if 2 * x < p then φ + q * p else φ + (q + 1) * p) ∧
    onGrid p φ B = true ∧ (φ < 2 ^ 48 % p → 2 * (S - B).toInt < p ∧ 2 * (B - S).toInt ≤ p) ∧
    (B.toNat + n * p < 2 ^ 48 → I.toNat = B.toNat + n * p) ∧
    (2 ^ 48 ≤ B.toNat + n * p → n ≤ 1048575 →
      onGrid p φ I = true ∧ B.toNat + n * p ≤ I.toNat + 2 ^ 48 ∧ I.toNat + 2 ^ 48 < B.toNat + n * p + p) ∧
    (1073741824 < (B - now).toInt → placeBreak L now S n provisional = .error .far) ∧
    ((B - now).toInt ≤ 1073741824 →
      (0 ≤ (B - E).toInt → placeBreak L now S n provisional = .ok (times B n)) ∧
      ((B - E).toInt < 0 →
        (L.cfg.lateGrace < (E - B).toInt → placeBreak L now S n provisional = .error .late) ∧
        ((E - B).toInt ≤ L.cfg.lateGrace → 0 < (I - E).toInt →
          placeBreak L now S n provisional = .ok (times E ((I - E).toInt.toNat / p))) ∧
        ((E - B).toInt ≤ L.cfg.lateGrace → (I - E).toInt ≤ 0 → placeBreak L now S n provisional = .error .late)))) ∧
  (∀ (s : State) (l : Fin 32) (r : RawBooking),
    bookingTimes s l r = placeBreak (s.lane l) s.tick r.outTick (min (max r.frames.toNat 1) 1048575) false) ∧
  (∀ (s : State) (l : Fin 32) (c : Cue),
    let L := s.lane l
    let p := L.period
    let whole := fun d : Nat => min (max (d / p + if p ≤ 2 * (d % p) then 1 else 0) 1) 1048575
    let n := match c.duration with
      | some d => whole d.toNat
      | none => whole (L.cfg.ceiling * 180000)
    (∀ stamp, c.timing = .stamped stamp →
      let R := s.feedRef c.feed
      let S : Int := R.station.toNat + (stamp - R.stamp).toInt + L.cfg.pathDelay
      let age := (s.tick - R.station).toInt
      (R.valid = false ∨ 5400000 < age → cueTimes s l c = .error .noRef) ∧
      (R.valid = true → age ≤ 5400000 → S < 0 → cueTimes s l c = .error .late) ∧
      (R.valid = true → age ≤ 5400000 → 0 ≤ S → cueTimes s l c = placeBreak L s.tick (BitVec.ofInt 48 S) n c.duration.isNone)) ∧
    ∀ lead, c.timing = .lead lead →
      cueTimes s l c = placeBreak L s.tick (BitVec.ofNat 48 (c.arrival.toNat + lead + L.cfg.pathDelay)) n c.duration.isNone) ∧
  (∀ (l : Fin 32) (id : BitVec 32) (cls : Byte) (origin : AvailOrigin) (t : Times) (s : State),
    let same := fun i : Fin 64 => (s.avail i).live = true ∧ (s.avail i).lane = l ∧ (s.avail i).eventId = id
    let x := acceptBreak l id cls origin (.ok t) s
    let closing := fun (i : Fin 64) (u : State) => if t.due then arbitrate i u else u
    let head := fun (i : Fin 64) (gen : Byte) =>
      ({ handle := { slot := i, gen := gen }, lane := l, eventId := id, tick := s.tick } : AvailHead)
    (∀ i, same i → (∀ j, j < i → ¬same j) →
      let a := s.avail i
      x.code = .ok ∧ x.slot = i ∧
      (t.outTick = a.outTick → x.disposition = .repeated ∧ x.state = s.updAvail i fun a => { a with repeats := min (a.repeats + 1) 255 }) ∧
      (t.outTick ≠ a.outTick → a.state ≠ .armed → x.disposition = .conflict ∧
        x.state = s.updAvail i fun a => { a with conflicts := min (a.conflicts + 1) 255 }) ∧
      (t.outTick ≠ a.outTick → a.state = .armed → x.disposition = .retimed ∧
        x.state = closing i (raise (.availRetimed (head i a.gen) .repeated .armed t.outTick t.inTick t.frames t.provisional t.claimClose
          a.fillTick) a.addressed (s.updAvail i fun a =>
            { a with outTick := t.outTick, inTick := t.inTick, frames := t.frames, provisional := t.provisional
                     claimClose := t.claimClose })))) ∧
    ((∀ i, ¬same i) →
      let lowest := fun i : Fin 64 => (s.avail i).state = .empty ∧ ∀ j, j < i → (s.avail j).state ≠ .empty
      let oldest := fun i : Fin 64 => (∀ j, (s.avail j).state ≠ .empty) ∧ (s.avail i).final = true ∧ ∃ f, (s.avail i).finalTick = some f ∧
        ∀ j, j ≠ i → (s.avail j).final = true → ∃ g, (s.avail j).finalTick = some g ∧ (0 < (g - f).toInt ∨ (g = f ∧ i < j))
      (∀ i, lowest i ∨ oldest i →
        let gen := if (s.avail i).state = .empty then (s.avail i).gen else (s.avail i).gen + 1
        x.code = .ok ∧ x.slot = i ∧ x.disposition = .new ∧
        x.state = closing i (raise (.availNew (head i gen) cls (some origin) t.outTick t.inTick t.frames t.provisional t.claimClose) []
          (s.updAvail i fun _ =>
            { gen := gen, state := .armed, lane := l, eventId := id, cls := cls, origin := some origin, outTick := t.outTick
              inTick := t.inTick, frames := t.frames, provisional := t.provisional, claimClose := t.claimClose }))) ∧
      ((∀ i, (s.avail i).live = true) → x.code = .full ∧ x.state = s))) ∧
  (∀ (f : Fin 48) (c : Cue) (l : Fin 32) (s : State), c.kind = .out →
    (∀ e, cueTimes s l c = .error e → cueAction f c l s = (e, s)) ∧
    ∀ t, cueTimes s l c = .ok t →
      let x := acceptBreak l c.eventId c.cls (.filter f) (.ok t) s
      cueAction f c l s = (x.code, x.state)) ∧
  ∀ (p : Fin 4) (r : RawBooking) (s : State), Accepts p .bookAvail s →
    (32 ≤ r.lane.toNat → exec (.bookAvail p r) s = .next (answer p .bookAvail .range .none (goodFrame p s))) ∧
    ∀ l : Fin 32, r.lane.toNat = l.val →
      let same := fun i : Fin 64 => (s.avail i).live = true ∧ (s.avail i).lane = l ∧ (s.avail i).eventId = r.eventId
      ((s.lane l).state ≠ .run → exec (.bookAvail p r) s = .next (answer p .bookAvail .busy .none (goodFrame p s))) ∧
      ((s.lane l).state = .run →
        (∀ e, bookingTimes s l r = .error e → e ≠ .ok → exec (.bookAvail p r) s = .next (answer p .bookAvail e .none (goodFrame p s))) ∧
        ∀ t, bookingTimes s l r = .ok t →
          (let x := acceptBreak l r.eventId r.cls (.booked p) (.ok t) (goodFrame p s)
           let a := x.state.avail x.slot
           exec (.bookAvail p r) s = .next
             (if x.code = .ok then
               answer p .bookAvail .ok
                 (.booked { slot := x.slot, gen := a.gen } x.disposition a.outTick a.inTick a.frames a.claimClose) x.state
             else answer p .bookAvail x.code .none (goodFrame p s))) ∧
          ((s.lane l).cfg.phase < (s.lane l).period → onGrid (s.lane l).period (s.lane l).cfg.phase t.outTick = true ∧
            onGrid (s.lane l).period (s.lane l).cfg.phase t.inTick = true) ∧
          t.claimClose = t.outTick - BitVec.ofNat 48 (s.lane l).cfg.claimLead ∧ t.provisional = false ∧
          (∀ i, same i → (∀ j, j < i → ¬same j) → t.outTick = (s.avail i).outTick →
            exec (.bookAvail p r) s = .next (answer p .bookAvail .ok
              (.booked { slot := i, gen := (s.avail i).gen } .repeated (s.avail i).outTick (s.avail i).inTick (s.avail i).frames
                (s.avail i).claimClose)
              ((goodFrame p s).updAvail i fun a => { a with repeats := min (a.repeats + 1) 255 }))) ∧
          ((∀ i, ¬same i) → (∀ i, (s.avail i).live = true) →
            exec (.bookAvail p r) s = .next (answer p .bookAvail .full .none (goodFrame p s))) ∧
          ((∀ i, ¬same i) → t.due = false → ∀ i, (s.avail i).state = .empty → (∀ j, j < i → (s.avail j).state ≠ .empty) →
            ∃ u, exec (.bookAvail p r) s = .next u ∧ AvailsOnly s u ∧ (∀ j, j ≠ i → u.avail j = s.avail j) ∧
              u.avail i = { gen := (s.avail i).gen, state := .armed, lane := l, eventId := r.eventId, cls := r.cls
                            origin := some (.booked p), outTick := t.outTick, inTick := t.inTick, frames := t.frames
                            provisional := false, claimClose := t.claimClose }))

/-- The RETURN and CANCEL cue actions on the avail of their lane and event id (R114, R131, R132), what a proposed in tick does to an avail and its
AVAIL_RETIMED (R122, R130), and CANCEL AVAIL, RELEASE, CLAIM and WITHDRAW on the avail that a handle names, by its state and the requester, with
AVAIL_CANCELLED or AVAIL_RETIMED where one is due (R116, R133, R134, R139, R142, R149), with the bounds of CLAIM's fields and the claim that fields
within them spell (R141, R142). That an undefined presence byte of CLAIM is refused RANGE is log entry 15. -/
def Obligations.AvailRequests : Prop :=
  (∀ (p : Fin 4) (r : RawClaim), (claimOf p r = none ↔ 15 < r.rank.toNat ∨ SpotSourceOut r.source ∨ SpotOut r.spot) ∧
    ∀ c, claimOf p r = some c → c.port = p ∧ c.rank = r.rank.toNat ∧ SpotSourceSpells r.source c.source ∧ SpotSpells r.spot c.spot) ∧
  (∀ (i : Fin 64) (T : Tick) (cause : RetimeCause) (clear : Bool) (s : State),
    let a := s.avail i
    let L := s.lane a.lane
    let started := a.fillStep = .waiting ∨ a.fillStep = .committed ∨ a.fillStep = .confirmed
    let inTick := match a.fillTick with
      | none => T
      | some f =>
        let least := addPeriods L.period L.cfg.phase f 1
        if started ∧ 0 < (least - T).toInt then least else T
    let frames := (inTick - a.outTick).toInt.toNat / L.period
    let fillTick := if a.fillStep ≠ .none then a.fillTick else match a.holder.bind Claim.spot with
      | none => none
      | some n => if n < frames then some (addPeriods L.period L.cfg.phase a.outTick n) else none
    let b := { a with inTick := inTick, frames := frames, provisional := a.provisional && !clear, fillTick := fillTick }
    moveIn i T cause clear s =
      if b = a then s
      else raise (.availRetimed { handle := { slot := i, gen := a.gen }, lane := a.lane, eventId := a.eventId, tick := s.tick } cause
        a.state a.outTick b.inTick b.frames b.provisional a.claimClose b.fillTick) a.addressed (s.updAvail i fun _ => b)) ∧
  (∀ (f : Fin 48) (c : Cue) (l : Fin 32) (s : State),
    let same := fun i : Fin 64 => (s.avail i).live = true ∧ (s.avail i).lane = l ∧ (s.avail i).eventId = c.eventId
    ((∀ i, ¬same i) → c.kind = .ret ∨ c.kind = .cancel → cueAction f c l s = (.unknown, s)) ∧
    ∀ i, same i → (∀ j, j < i → ¬same j) →
      let a := s.avail i
      let L := s.lane l
      let E := earliestEffect L s.tick
      let conflict := s.updAvail i fun a => { a with conflicts := min (a.conflicts + 1) 255 }
      let cancelled := raise (.availCancelled
        { head := { handle := { slot := i, gen := a.gen }, lane := l, eventId := c.eventId, tick := s.tick }, reason := .cue, left := a.state
          outTick := a.outTick, inTick := a.inTick, holder := a.holder, finalTick := s.tick }) a.addressed
        (s.updAvail i fun a => { a with state := .cancelled, result := some .cue, finalTick := some s.tick, claims := [] })
      (c.kind = .ret ∨ c.kind = .cancel → a.state = .returning → cueAction f c l s = (.late, conflict)) ∧
      (c.kind = .cancel → a.state = .armed ∨ a.state = .closed → cueAction f c l s = (.ok, cancelled)) ∧
      (c.kind = .cancel → a.state = .out → cueAction f c l s = (.ok, moveIn i (minTick a.inTick E) .cancel false s)) ∧
      (c.kind = .ret → a.state ≠ .returning →
        (∀ e, anchor s L c = .error e → cueAction f c l s = (e, s)) ∧
        ∀ S, anchor s L c = .ok S →
          let B := alignBoundary L.period L.cfg.phase S
          let least := maxTick B E
          let T := if 1048575 < (least - a.outTick).toInt.toNat / L.period then addPeriods L.period L.cfg.phase a.outTick 1048575 else least
          (1073741824 < (B - s.tick).toInt → cueAction f c l s = (.far, s)) ∧
          ((B - s.tick).toInt ≤ 1073741824 →
            ((T - a.outTick).toInt ≤ 0 → a.state ≠ .out → cueAction f c l s = (.ok, cancelled)) ∧
            (0 < (T - a.outTick).toInt ∨ a.state = .out → cueAction f c l s = (.ok, moveIn i T .ret true s))))) ∧
  (∀ (p : Fin 4) (h : RawHandle) (s : State) (code : ReplyCode),
    (64 ≤ h.slot.toNat ∧ code = .range) ∨
      (∃ i : Fin 64, h.slot.toNat = i.val ∧ ((s.avail i).state = .empty ∨ (s.avail i).gen ≠ h.gen) ∧ code = .unknown) →
    (Accepts p .cancelAvail s → exec (.cancelAvail p h) s = .next (answer p .cancelAvail code .none (goodFrame p s))) ∧
    (Accepts p .release s → exec (.release p h) s = .next (answer p .release code .none (goodFrame p s))) ∧
    (Accepts p .withdraw s → exec (.withdraw p h) s = .next (answer p .withdraw code .none (goodFrame p s))) ∧
    ∀ r : RawClaim, r.handle = h → Accepts p .claim s → exec (.claim p r) s = .next
      (answer p .claim (if claimOf p r = none then .range else code) .none (goodFrame p s))) ∧
  ∀ (p : Fin 4) (h : RawHandle) (i : Fin 64) (s : State), h.slot.toNat = i.val → (s.avail i).state ≠ .empty → (s.avail i).gen = h.gen →
    let a := s.avail i
    let mine := a.holder.map Claim.port = some p
    let pulled := minTick a.inTick (earliestEffect (s.lane a.lane) s.tick)
    let released := moveIn i pulled .release false ((goodFrame p s).updAvail i fun a => { a with released := true })
    (Accepts p .cancelAvail s →
      (a.state = .armed ∨ a.state = .closed → ∃ t, exec (.cancelAvail p h) s = .next t ∧ AvailsOnly s t ∧
        t.avail i = { a with state := .cancelled, result := some .request, finalTick := some s.tick, claims := [] } ∧
        (∀ j, j ≠ i → t.avail j = s.avail j) ∧
        (t.port p).reply = some { request := 26, outcome := .ok, body := .cancelled .cancelled a.inTick a.frames } ∧
        t = answer p .cancelAvail .ok (.cancelled .cancelled a.inTick a.frames) (raise (.availCancelled
          { head := { handle := { slot := i, gen := a.gen }, lane := a.lane, eventId := a.eventId, tick := s.tick }, reason := .request
            left := a.state, outTick := a.outTick, inTick := a.inTick, holder := a.holder, finalTick := s.tick }) a.addressed
          ((goodFrame p s).updAvail i fun a =>
            { a with state := .cancelled, result := some .request, finalTick := some s.tick, claims := [] }))) ∧
      (a.state = .out → ∃ t, exec (.cancelAvail p h) s = .next t ∧ AvailsOnly s t ∧ (t.avail i).state = .out ∧
        (t.avail i).released = a.released ∧ (∀ j, j ≠ i → t.avail j = s.avail j) ∧
        let u := moveIn i pulled .cancel false (goodFrame p s)
        t = answer p .cancelAvail .ok (.cancelled .out (u.avail i).inTick (u.avail i).frames) u) ∧
      (a.state = .returning → exec (.cancelAvail p h) s = .next (answer p .cancelAvail .late .none (goodFrame p s))) ∧
      (a.final = true → exec (.cancelAvail p h) s = .next (answer p .cancelAvail .closed .none (goodFrame p s)))) ∧
    (Accepts p .release s →
      (a.state = .out → mine → ∃ t, exec (.release p h) s = .next t ∧ AvailsOnly s t ∧ (t.avail i).state = .out ∧
        (t.avail i).released = true ∧ (a.fillStep = .none →
          (t.avail i).inTick = minTick a.inTick (earliestEffect (s.lane a.lane) s.tick)) ∧ (∀ j, j ≠ i → t.avail j = s.avail j) ∧
        t = answer p .release .ok .none released) ∧
      (a.state = .out → ¬mine → exec (.release p h) s = .next (answer p .release .closed .none (goodFrame p s))) ∧
      (a.state = .armed ∨ a.state = .closed → exec (.release p h) s = .next (answer p .release .busy .none (goodFrame p s))) ∧
      (a.state = .returning → exec (.release p h) s = .next (answer p .release .late .none (goodFrame p s))) ∧
      (a.final = true → exec (.release p h) s = .next (answer p .release .closed .none (goodFrame p s)))) ∧
    (∀ r : RawClaim, r.handle = h → Accepts p .claim s →
      (claimOf p r = none → exec (.claim p r) s = .next (answer p .claim .range .none (goodFrame p s))) ∧
      ∀ c, claimOf p r = some c →
        (a.state ≠ .armed → exec (.claim p r) s = .next (answer p .claim .closed .none (goodFrame p s))) ∧
        (a.state = .armed →
          let cs := a.claims.filter (fun x => decide (x.port ≠ p)) ++ [c]
          exec (.claim p r) s = .next (answer p .claim .ok
            (.claimed { slot := i, gen := a.gen } a.claimClose cs.length (a.claims.any fun x => decide (x.port = p)))
            ((goodFrame p s).updAvail i fun a => { a with claims := cs })))) ∧
    (Accepts p .withdraw s →
      (a.state = .armed → (∃ c ∈ a.claims, c.port = p) →
        exec (.withdraw p h) s = .next (answer p .withdraw .ok (.withdrawn .removed)
          ((goodFrame p s).updAvail i fun a => { a with claims := a.claims.filter fun x => decide (x.port ≠ p) }))) ∧
      (a.state = .closed → mine →
        exec (.withdraw p h) s = .next (answer p .withdraw .ok (.withdrawn .holderCleared)
          ((goodFrame p s).updAvail i fun a => { a with holder := none, fillTick := none }))) ∧
      (a.state = .out → mine → ∃ t, exec (.withdraw p h) s = .next t ∧ (t.avail i).state = .out ∧ (t.avail i).released = true ∧
        t = answer p .withdraw .ok (.withdrawn .released) released) ∧
      (a.state = .returning → mine → exec (.withdraw p h) s = .next (answer p .withdraw .late .none (goodFrame p s))) ∧
      ((a.state ≠ .armed ∧ ¬mine) ∨ (a.state = .armed ∧ ∀ c ∈ a.claims, c.port ≠ p) ∨ a.final = true →
        exec (.withdraw p h) s = .next (answer p .withdraw .ok (.withdrawn .none) (goodFrame p s))))

/-- STAND, STAND CLEAR, STAND PAUSE and STAND RESUME on the requester's own place, with the bounds of STAND's fields and the standing claim that
fields within them spell (R144, R145, R146, R147). That an undefined presence byte of STAND is refused RANGE is log entry 15. -/
def Obligations.StandingRequests : Prop :=
  (∀ r : RawStand, (standOf r = none ↔ 31 < r.lane.toNat ∨ 15 < r.rank.toNat ∨ SpotSourceOut r.source ∨ SpotOut r.spot) ∧
    ∀ l x, standOf r = some (l, x) →
      l.val = r.lane.toNat ∧ x.rank = r.rank.toNat ∧ SpotSourceSpells r.source x.source ∧ SpotSpells r.spot x.spot) ∧
  ∀ (p : Fin 4) (s : State),
    (∀ r : RawStand, Accepts p .stand s →
      (standOf r = none → exec (.stand p r) s = .next (answer p .stand .range .none (goodFrame p s))) ∧
      ∀ l x, standOf r = some (l, x) → x.paused = false ∧
        exec (.stand p r) s = .next (answer p .stand .ok (.flag (s.place l p).isSome) ((goodFrame p s).setPlace l p (some x)))) ∧
    (∀ b : Byte, 32 ≤ b.toNat →
      (Accepts p .standClear s → exec (.standClear p b) s = .next (answer p .standClear .range .none (goodFrame p s))) ∧
      (Accepts p .standPause s → exec (.standPause p b) s = .next (answer p .standPause .range .none (goodFrame p s))) ∧
      (Accepts p .standResume s → exec (.standResume p b) s = .next (answer p .standResume .range .none (goodFrame p s)))) ∧
    ∀ (b : Byte) (l : Fin 32), b.toNat = l.val →
      (Accepts p .standClear s →
        (s.place l p = none → exec (.standClear p b) s = .next (answer p .standClear .unknown .none (goodFrame p s))) ∧
        (s.place l p ≠ none → exec (.standClear p b) s = .next (answer p .standClear .ok .none ((goodFrame p s).setPlace l p none)))) ∧
      (Accepts p .standPause s →
        (s.place l p = none → exec (.standPause p b) s = .next (answer p .standPause .unknown .none (goodFrame p s))) ∧
        ∀ x, s.place l p = some x → exec (.standPause p b) s = .next (answer p .standPause .ok (.flag x.paused)
          ((goodFrame p s).setPlace l p (some { x with paused := true })))) ∧
      (Accepts p .standResume s →
        (s.place l p = none → exec (.standResume p b) s = .next (answer p .standResume .unknown .none (goodFrame p s))) ∧
        ∀ x, s.place l p = some x → exec (.standResume p b) s = .next (answer p .standResume .ok (.flag x.paused)
          ((goodFrame p s).setPlace l p (some { x with paused := false }))))

/-- The candidates of an arbitration and their effective ranks: the specific claims, and the standing claims of the lane that are not paused,
of ports that are not DETACHED; CAUTION adds 4 to a rank, up to 15 (R150, R151). The order of candidates, by which every arbitration with a
candidate has a winner (R152). A claim close that is due arbitrates: with no candidate the avail is CLOSED without a holder; a candidate
that precedes every other becomes its holder, with the fill tick of its spot; the claims list is emptied and no other avail changes; then
CLAIM_WON goes out, and one CLAIM_LOST for each other port with a candidate (R122, R123, R153, R154). -/
def Obligations.ClaimClose : Prop :=
  (∀ a b : Candidate, a.precedes b = true ↔
    a.effective < b.effective ∨ (a.effective = b.effective ∧ a.kind = .specific ∧ b.kind = .standing) ∨
      (a.effective = b.effective ∧ a.kind = b.kind ∧ a.claim.port < b.claim.port)) ∧
  (∀ (i : Fin 64) (s : State) (c : Candidate), c ∈ candidates s i ↔
    (s.port c.claim.port).state ≠ .detached ∧
    c.effective = (if (s.port c.claim.port).state = .caution then min (c.claim.rank + 4) 15 else c.claim.rank) ∧
    ((c.kind = .specific ∧ c.claim ∈ (s.avail i).claims) ∨
      (c.kind = .standing ∧ ∃ x, s.place (s.avail i).lane c.claim.port = some x ∧ x.paused = false ∧
        c.claim = { port := c.claim.port, rank := x.rank, source := x.source, spot := x.spot }))) ∧
  (∀ (i : Fin 64) (s : State), ClaimsSound s → candidates s i ≠ [] → (candidates s i).Nodup ∧ (candidates s i).length ≤ 8 ∧
    ∃ w ∈ candidates s i, ∀ c ∈ candidates s i, c ≠ w → w.precedes c = true) ∧
  (∀ (i : Fin 64) (s : State), (s.avail i).state = .armed → (s.avail i).claimClose = s.tick →
    exec (.claimClose i) s = .next (arbitrate i s)) ∧
  ∀ (i : Fin 64) (s : State),
    let a := s.avail i
    let cs := candidates s i
    (cs = [] → arbitrate i s = s.updAvail i fun a => { a with state := .closed, holder := none, claims := [], fillTick := none }) ∧
    ∀ w ∈ cs, (∀ c ∈ cs, c ≠ w → w.precedes c = true) →
      let t := arbitrate i s
      AvailsOnly s t ∧ (∀ j, j ≠ i → t.avail j = s.avail j) ∧
        (t.avail i).state = .closed ∧ (t.avail i).holder = some w.claim ∧ (t.avail i).claims = [] ∧
        (t.avail i).outTick = (s.avail i).outTick ∧ (t.avail i).inTick = (s.avail i).inTick ∧
        let head : AvailHead := { handle := { slot := i, gen := a.gen }, lane := a.lane, eventId := a.eventId, tick := s.tick }
        let L := s.lane a.lane
        let fill := match w.claim.spot with
          | none => none
          | some n => if n < a.frames then some (addPeriods L.period L.cfg.phase a.outTick n) else none
        let penalty := fun q : Fin 4 => decide ((s.port q).state = .caution)
        let won := raise (.claimWon head w.claim.port w.kind w.claim.port w.claim.source w.effective (penalty w.claim.port) a.outTick
            a.inTick a.frames w.claim.spot fill cs.length) [w.claim.port]
          (s.updAvail i fun a => { a with state := .closed, holder := some w.claim, claims := [], fillTick := fill })
        t = [0, 1, 2, 3].foldl (fun x q =>
          if q = w.claim.port then x
          else match ((cs.filter fun c => decide (c.claim.port = q)).map Candidate.effective).min? with
            | none => x
            | some best => raise (.claimLost head q w.kind w.claim.port w.claim.source w.effective best (penalty q) a.outTick a.inTick
                a.frames cs.length) [q] x) won

/-- Which states are non-final, final, and airing (R117). The out commit point: R124's checks in their order, each with its final result and final
notice, AVAIL_MISSED, AVAIL_CANCELLED or AVAIL_END, which also goes to the holder's port (R117, R138, R139); and where none applies, the order to the
holder's source is committed at the out tick, the avail is OUT and the lane re-resolved (R27, R34, R124), the avail owning the lane where no alert
covers it. -/
def Obligations.OutCommitPoint : Prop :=
  (∀ a : Avail, (a.live = true ↔ a.state ∈ [AvailState.armed, .closed, .out, .returning]) ∧
    (a.airing = true ↔ a.state ∈ [AvailState.out, .returning]) ∧ (a.final = true ↔ a.state ∈ [AvailState.ended, .cancelled, .missed]) ∧
    a.addressed = (a.holder.map Claim.port).toList) ∧
  ∀ (i : Fin 64) (s : State), (s.avail i).state = .closed → (s.avail i).outTick - BitVec.ofNat 48 9000 = s.tick →
    let a := s.avail i
    let l := a.lane
    let L := s.lane l
    let head : AvailHead := { handle := { slot := i, gen := a.gen }, lane := l, eventId := a.eventId, tick := s.tick }
    let notice := fun (st : AvailState) (r : FinalResult) =>
      let n : FinalNotice := { head := head, reason := r, left := .closed, outTick := a.outTick, inTick := a.inTick, holder := a.holder
                               finalTick := s.tick }
      match st with
      | .missed => Notice.availMissed n
      | .cancelled => .availCancelled n
      | _ => .availEnd head r a.outTick a.inTick a.frames a.holder s.tick
    let ends := fun (st : AvailState) (r : FinalResult) => ∃ t, exec (.outCommitPoint i) s = .next t ∧ AvailsOnly s t ∧
      t.avail i = { a with state := st, result := some r, finalTick := some s.tick, claims := [] } ∧ (∀ j, j ≠ i → t.avail j = s.avail j) ∧
      t = raise (notice st r) a.addressed
        (s.updAvail i fun a => { a with state := st, result := some r, finalTick := some s.tick, claims := [] })
    let alert := ∃ x, L.owner = .alert x
    let covered := fun ty => ∃ w : Fin 16, (s.window w).isOpen = true ∧ (s.window w).cfg.type = ty ∧ (s.window w).cfg.lanes.getLsbD l.val = true
    let busy := (∃ j, j ≠ i ∧ (s.avail j).airing = true ∧ (s.avail j).lane = l) ∨ L.committed ≠ none
    (L.state = .fault → ends .missed .fault) ∧ (L.state = .off ∨ L.state = .stopping → ends .cancelled .laneOff) ∧
    (L.state = .run →
      (alert → ends .missed .alert) ∧
      (¬alert → covered .insert → ends .missed .window) ∧
      (¬alert → ¬covered .insert → covered .blackout → ends .missed .blackout) ∧
      (¬alert → ¬covered .insert → ¬covered .blackout →
        (a.holder = none → ends .ended .unfilled) ∧
        ∀ h, a.holder = some h →
          (busy → ends .missed .laneBusy) ∧
          (¬busy → atOrAfter a.outTick (earliestEffect L s.tick) = false → ends .missed .late) ∧
          (¬busy → atOrAfter a.outTick (earliestEffect L s.tick) = true → exec (.outCommitPoint i) s = .next (reresolve .ordinary l
            ((commit l .out h.source a.outTick (some head.handle) s).updAvail i fun a => { a with state := .out }))) ∧
          (¬busy → atOrAfter a.outTick (earliestEffect L s.tick) = true →
            (∀ b ∈ s.recency, ∀ B ∈ s.alert b, B.zones.getLsbD L.cfg.zone.val = false) →
            ∃ t, exec (.outCommitPoint i) s = .next t ∧ BreakOnly s t ∧ t.avail i = { a with state := .out } ∧
              (t.lane l).owner = .avail { slot := i, gen := a.gen } ∧
              (t.lane l).committed = some { seq := L.orderSeq, target := h.source, effect := a.outTick, commit := s.tick } ∧
              ∀ j, j ≠ l → t.lane j = s.lane j)))

/-- The fill and in commit points of an avail in OUT on a lane in RUN: a FILL or IN step committed at once at the later of the wanted tick and the
earliest effect, or planned behind an outstanding order (R35). A fill tick that moves to a later effect is told with AVAIL_RETIMED(STEP) (R126). The
in commit point leaves the avail RETURNING and a waiting FILL superseded, and re-resolves the lane, which leaves a planned IN step (R27, R36, R127);
the target that a planned IN step shows, computed when it is planned, is log entry 9, since R35 computes it when the step is committed; an in tick
that its committed effect passes moves to that effect, with AVAIL_RETIMED(STEP) (R130; what a proposed in tick does is in AvailRequests). -/
def Obligations.FillAndInCommitPoints : Prop :=
  ∀ (i : Fin 64) (s : State), (s.avail i).state = .out → (s.lane (s.avail i).lane).state = .run →
    let a := s.avail i
    let l := a.lane
    let L := s.lane l
    let h : Handle := { slot := i, gen := a.gen }
    let head : AvailHead := { handle := h, lane := l, eventId := a.eventId, tick := s.tick }
    (∀ f, a.fillTick = some f → a.fillStep = .none → atOrAfter s.tick (f - BitVec.ofNat 48 9000) = true →
      (L.committed = none →
        let E := maxTick f (earliestEffect L s.tick)
        ∃ t, exec (.fillCommitPoint i) s = .next t ∧ BreakOnly s t ∧
          (t.lane l).committed = some { seq := L.orderSeq, target := .fill, effect := E, commit := s.tick } ∧
          t.avail i = { a with fillStep := .committed, fillTick := if later E f then some E else some f } ∧
          let filled := (commit l .fill .fill E (some h) s).updAvail i fun a =>
            { a with fillStep := .committed, fillTick := if later E f then some E else some f }
          t = if later E f then
              raise (.availRetimed head .step .out a.outTick a.inTick a.frames a.provisional a.claimClose (some E)) a.addressed filled
            else filled) ∧
      (∀ c, L.committed = some c → exec (.fillCommitPoint i) s = .next
        ((s.updLane l fun L => { L with planned := some { kind := .fill, target := .fill, effect := f, avail := some h } }).updAvail i
          fun a => { a with fillStep := .waiting }))) ∧
    (a.inTick - BitVec.ofNat 48 9000 = s.tick → ∃ t, exec (.inCommitPoint i) s = .next t ∧ BreakOnly s t ∧
      (t.avail i).state = .returning ∧
      (t.avail i).fillStep = (if a.fillStep = .waiting then .superseded else a.fillStep) ∧
      let target := (resolve s l (some h)).2
      let returning := fun u : State => reresolve .ordinary l (u.updAvail i fun a =>
        { a with state := .returning, fillStep := if a.fillStep = .waiting then .superseded else a.fillStep })
      (L.committed = none →
        let E := maxTick a.inTick (earliestEffect L s.tick)
        let u := returning (commit l .inStep target E (some h) s)
        (t.lane l).committed = some { seq := L.orderSeq, target := target, effect := E, commit := s.tick } ∧
        (t = if later E a.inTick then moveIn i E .step false u else u) ∧
        (later E a.inTick = false → (t.avail i).inTick = a.inTick ∧ (t.avail i).frames = a.frames) ∧
        (later E a.inTick = true → a.fillStep ≠ .committed → a.fillStep ≠ .confirmed →
          (t.avail i).inTick = E ∧ (t.avail i).frames = (E - a.outTick).toInt.toNat / L.period)) ∧
      ∀ c, L.committed = some c →
        let P : Planned := { kind := .inStep, target := target, effect := a.inTick, avail := some h }
        (t.lane l).committed = some c ∧ (t.lane l).planned = some P ∧ t.order l = s.order l ∧ (t.avail i).inTick = a.inTick ∧
        t = returning (s.updLane l fun L => { L with planned := some P }))

/-- Every command keeps every non-final avail on a lane in RUN, at most one avail of a lane in OUT or RETURNING, and a claims list with at most
one claim of a port, empty outside ARMED (R117, R124, R127, R141). -/
def Obligations.AvailsSoundKept : Prop :=
  (∀ s t : State, AvailsSound s → step s = .next t → AvailsSound t) ∧ ∀ s t : State, ClaimsSound s → step s = .next t → ClaimsSound t

/-! ## Windows and alerts -/

/-- WRITE WINDOW: the bounds of its fields (R157) and what fields within them spell (R198); the refusals; the new configuration and revision; an open
window closed by a disable, its remaining seconds clipped to a shorter duration, a closed one left closed (R164, R165, R166). A disable raises
WINDOW_CLOSE, an edit of the type, the lane set or the source or a clipping raises WINDOW_OPEN(EDITED), and a disable or an edit of the three
re-resolves the lanes of the old and the new lane set; nothing else changes (R27, R166, R169). That an undefined presence byte is refused RANGE is log
entry 15. -/
def Obligations.WriteWindow : Prop :=
  (∀ r : RawWindow,
    (windowWriteOf r = none ↔ 15 < r.window.toNat ∨ 1 < r.enable.toNat ∨ 1 < r.type.toNat ∨ 127 < r.days.toNat ∨
      (23 < r.hour.toNat ∧ r.hour.toNat ≠ 255) ∨ (59 < r.minute.toNat ∧ r.minute.toNat ≠ 255) ∨
      (59 < r.second.toNat ∧ r.second.toNat ≠ 255) ∨ r.duration.toNat < 1 ∨ 86400 < r.duration.toNat ∨ SpotSourceOut r.source ∨
      r.expected.undefinedPresent = true) ∧
    ∀ w cfg e, windowWriteOf r = some (w, cfg, e) →
      let start := fun b : Byte => if b.toNat = 255 then none else some b.toNat
      w.val = r.window.toNat ∧ cfg.enable = decide (r.enable.toNat = 1) ∧ [WindowType.insert, .blackout][r.type.toNat]? = some cfg.type ∧
      cfg.days.toNat = r.days.toNat ∧ cfg.hour = start r.hour ∧ cfg.minute = start r.minute ∧ cfg.second = start r.second ∧
      cfg.duration = r.duration.toNat ∧ cfg.lanes = r.lanes ∧ SpotSourceSpells r.source cfg.source ∧ OptSpells r.expected e) ∧
  ∀ (p : Fin 4) (r : RawWindow) (s : State), Accepts p .writeWindow s →
    (windowWriteOf r = none → exec (.writeWindow p r) s = .next (answer p .writeWindow .range .none (goodFrame p s))) ∧
    ∀ w cfg e, windowWriteOf r = some (w, cfg, e) →
      let W := s.window w
      ((∃ v, e = some v ∧ v ≠ W.revision) →
        exec (.writeWindow p r) s = .next (answer p .writeWindow .stale (.revision W.revision) (goodFrame p s))) ∧
      ((∀ v ∈ e, v = W.revision) →
        let N : Window :=
          if W.isOpen = false then { W with cfg := cfg, revision := W.revision + 1 }
          else if cfg.enable = false then { cfg := cfg, revision := W.revision + 1, isOpen := false, remaining := 0 }
          else { W with cfg := cfg, revision := W.revision + 1
                        remaining := if cfg.duration < W.remaining then cfg.duration else W.remaining }
        let notice := fun cause : WindowCause =>
          ({ window := w, cause := cause, type := cfg.type, lanes := cfg.lanes, source := if cfg.type = .insert then some cfg.source else none
             duration := cfg.duration, remaining := N.remaining, calendar := s.calendar, tick := s.tick } : WindowNotice)
        let written := (goodFrame p s).updWindow w fun _ => N
        let reply := answer p .writeWindow .ok (.windowWritten N.revision N.isOpen N.remaining)
        let lanes := W.cfg.lanes ||| cfg.lanes
        let edited := cfg.type ≠ W.cfg.type ∨ cfg.lanes ≠ W.cfg.lanes ∨ cfg.source ≠ W.cfg.source
        ∃ t, exec (.writeWindow p r) s = .next t ∧ t.window w = N ∧ (∀ v, v ≠ w → t.window v = s.window v) ∧
          (t.port p).reply = some { request := 36, outcome := .ok, body := .windowWritten N.revision N.isOpen N.remaining } ∧
          BreakOnly { s with windows := t.windows } t ∧
          (W.isOpen = false → t = reply written) ∧
          (W.isOpen = true → cfg.enable = false →
            t = reply (windowChange lanes (raise (.windowClose (notice .disabled)) [] written))) ∧
          (W.isOpen = true → cfg.enable = true →
            (edited → t = reply (windowChange lanes (raise (.windowOpen (notice .edited)) [] written))) ∧
            (¬edited → cfg.duration < W.remaining → t = reply (raise (.windowOpen (notice .edited)) [] written)) ∧
            (¬edited → W.remaining ≤ cfg.duration → t = reply written)))

/-- ALERT START: the bounds of its fields and what fields within them spell (R172, R198); the update of an alert with the same id, a new alert in the
lowest empty slot, the displacement of the alert of the lowest level, among several the one that stands earliest in the recency order, or FULL where
the new level is below its level (R172 to R175). The slot goes to the tail of the recency order; ALERT_END of a displaced alert and ALERT_BEGIN are
raised, and then every lane of the old and the new zones is re-resolved; nothing else changes (R27, R176, R182). That ALERT_END of a displaced alert
shows 3 alerts active is log entry 24. -/
def Obligations.AlertStart : Prop :=
  (∀ r : RawAlert,
    (alertOf r = none ↔ r.id.toNat < 1 ∨ r.level.toNat < 1 ∨ 3 < r.level.toNat ∨ r.zones = 0 ∨
      (r.source.toNat ≠ 17 ∧ r.source.toNat ≠ 18) ∨ r.duration.toNat < 1 ∨ 7200 < r.duration.toNat) ∧
    ∀ level source seconds, alertOf r = some (level, source, seconds) → level = r.level.toNat ∧ seconds = r.duration.toNat ∧
      ((r.source.toNat = 17 ∧ source = .alertA) ∨ (r.source.toNat = 18 ∧ source = .alertB))) ∧
  (∀ (zones : ZoneSet) (s : State), alertChange zones s =
    (List.finRange 32).foldl (fun x l => if zones.getLsbD (s.lane l).cfg.zone.val then reresolve .alertChange l x else x) s) ∧
  ∀ (p : Fin 4) (r : RawAlert) (s : State), Accepts p .alertStart s →
    (alertOf r = none → exec (.alertStart p r) s = .next (answer p .alertStart .range .none (goodFrame p s))) ∧
    ∀ level source seconds, alertOf r = some (level, source, seconds) →
      let A : Alert := { id := r.id, level := level, zones := r.zones, source := source, start := s.tick
                         expiry := s.tick + BitVec.ofNat 48 (seconds * 180000), port := p }
      let others := fun a => s.recency.filter fun b => decide (b ≠ a)
      let active := fun x : State => ((List.finRange 4).filter fun b => (x.alert b).isSome).length
      let placed := fun (a : Fin 4) (d : AlertDisposition) (x : Option Byte) (cause : BeginCause) (zones : ZoneSet) (y : State) =>
        ∃ t, exec (.alertStart p r) s = .next t ∧
          t.alert a = some A ∧ (∀ b, b ≠ a → t.alert b = s.alert b) ∧ t.recency = others a ++ [a] ∧
          (t.port p).reply = some { request := 38, outcome := .ok, body := .alertStarted a d A.start A.expiry x } ∧
          BreakOnly { s with alerts := t.alerts, recency := t.recency } t ∧
          let seated : State := { y.setAlert a (some A) with recency := others a ++ [a] }
          t = answer p .alertStart .ok (.alertStarted a d A.start A.expiry x)
            (alertChange zones (raise (.alertBegin a A cause (active seated) s.tick) [] seated))
      let sameId := fun a => ∃ B, s.alert a = some B ∧ B.id = r.id
      (∀ a B, s.alert a = some B → B.id = r.id → (∀ b, b < a → ¬sameId b) →
        placed a .updated none .update (B.zones ||| r.zones) (goodFrame p s)) ∧
      ((∀ a, ¬sameId a) →
        (∀ a, s.alert a = none → (∀ b, b < a → s.alert b ≠ none) → placed a .new none .new r.zones (goodFrame p s)) ∧
        ((∀ a, s.alert a ≠ none) → ∀ before a after B, s.recency = before ++ a :: after → s.alert a = some B →
          (∀ b ∈ before, ∀ C ∈ s.alert b, B.level < C.level) → (∀ b ∈ after, ∀ C ∈ s.alert b, B.level ≤ C.level) →
          (B.level ≤ level → placed a .displacing (some B.id) .new (B.zones ||| r.zones)
            (raise (.alertEnd a B .displaced (some p) 3 s.tick) [] (goodFrame p s))) ∧
          (level < B.level → exec (.alertStart p r) s = .next (answer p .alertStart .full .none (goodFrame p s)))))

/-- ALERT END and the expiry of an alert empty its slot, take it out of the recency order, raise ALERT_END and re-resolve every lane of its
zones; ALERT END refuses id 0 RANGE and an id that no alert holds UNKNOWN (R27, R176, R177, R178, R182). What becomes of a lane
that two alert changes of one tick reach (R178) is log entry 26. -/
def Obligations.AlertEnds : Prop :=
  ∀ (s : State),
    let emptied := fun (a : Fin 4) (y : State) => ({ y.setAlert a none with recency := s.recency.filter fun b => decide (b ≠ a) } : State)
    let ended := fun (a : Fin 4) (t : State) => t.alert a = none ∧ (∀ b, b ≠ a → t.alert b = s.alert b) ∧
      t.recency = (s.recency.filter fun b => decide (b ≠ a)) ∧ BreakOnly { s with alerts := t.alerts, recency := t.recency } t
    let left := fun (a : Fin 4) => ((List.finRange 4).filter fun b => decide (b ≠ a) && (s.alert b).isSome).length
    (∀ (p : Fin 4) (id : Byte), Accepts p .alertEnd s →
      (id = 0 → exec (.alertEnd p id) s = .next (answer p .alertEnd .range .none (goodFrame p s))) ∧
      (id ≠ 0 → (∀ a, ∀ B ∈ s.alert a, B.id ≠ id) →
        exec (.alertEnd p id) s = .next (answer p .alertEnd .unknown .none (goodFrame p s))) ∧
      (id ≠ 0 → ∀ a A, s.alert a = some A → A.id = id → (∀ b, b < a → ∀ B ∈ s.alert b, B.id ≠ id) →
        ∃ t, exec (.alertEnd p id) s = .next t ∧ ended a t ∧
          (t.port p).reply = some { request := 39, outcome := .ok, body := .alertEnded a A } ∧
          t = answer p .alertEnd .ok (.alertEnded a A)
            (alertChange A.zones (raise (.alertEnd a A .ended (some p) (left a) s.tick) [] (emptied a (goodFrame p s)))))) ∧
    ∀ a A, s.alert a = some A → A.expiry = s.tick → ∃ t, exec (.alertExpiry a) s = .next t ∧ ended a t ∧
      t = alertChange A.zones (raise (.alertEnd a A .expired none (left a) s.tick) [] (emptied a s))

/-- Every command keeps the alert table sound: the recency order lists each occupied slot once, and no two alerts share an id (R171). -/
def Obligations.AlertsSoundKept : Prop := ∀ s t : State, AlertsSound s → step s = .next t → AlertsSound t
end

