-- ==== Sys2Proof/Laws/Bytes.lean ====
section
/-! SUPPORT. The byte layouts of Decode.lean: fields survive their bytes, and check bytes make sums of zero. -/

namespace Sys2Proof

/-- A 16-bit field is the word of its bytes. -/
theorem word16_bytes (x : BitVec 16) : word16 (x.extractLsb' 8 8) (x.extractLsb' 0 8) = x := by
  unfold word16
  ext i hi
  simp only [BitVec.getElem_append, BitVec.getElem_extractLsb']
  split <;> (rw [← BitVec.getLsbD_eq_getElem]; congr 1; omega)

/-- A 24-bit field is the word of its bytes. -/
theorem word24_bytes (x : BitVec 24) : word24 (x.extractLsb' 16 8) (x.extractLsb' 8 8) (x.extractLsb' 0 8) = x := by
  unfold word24
  ext i hi
  simp only [BitVec.getElem_append, BitVec.getElem_extractLsb']
  repeat' split
  all_goals (rw [← BitVec.getLsbD_eq_getElem]; congr 1; omega)

/-- A 32-bit field is the word of its bytes. -/
theorem word32_bytes (x : BitVec 32) :
    word32 (x.extractLsb' 24 8) (x.extractLsb' 16 8) (x.extractLsb' 8 8) (x.extractLsb' 0 8) = x := by
  unfold word32
  ext i hi
  simp only [BitVec.getElem_append, BitVec.getElem_extractLsb']
  repeat' split
  all_goals (rw [← BitVec.getLsbD_eq_getElem]; congr 1; omega)

/-- A 48-bit field is the word of its bytes. -/
theorem word48_bytes (x : BitVec 48) :
    word48 (x.extractLsb' 40 8) (x.extractLsb' 32 8) (x.extractLsb' 24 8) (x.extractLsb' 16 8) (x.extractLsb' 8 8)
      (x.extractLsb' 0 8) = x := by
  unfold word48
  ext i hi
  simp only [BitVec.getElem_append, BitVec.getElem_extractLsb']
  repeat' split
  all_goals (rw [← BitVec.getLsbD_eq_getElem]; congr 1; omega)

/-- The sum of two runs. -/
theorem byteSum_append (a b : List Byte) : byteSum (a ++ b) = byteSum a + byteSum b := by
  induction a with
  | nil => simp [byteSum]
  | cons x xs ih =>
    have : byteSum (x :: xs ++ b) = x + byteSum (xs ++ b) := rfl
    rw [this, ih, ← BitVec.add_assoc]; rfl

/-- A run that ends with its check byte sums to 0. -/
theorem byteSum_checkByte (a : List Byte) : byteSum (a ++ [checkByte a]) = 0 := by
  rw [byteSum_append]
  have : byteSum [checkByte a] = checkByte a := by simp [byteSum]
  rw [this, checkByte]; ring

@[simp] theorem bytes16_length (x : BitVec 16) : (bytes16 x).length = 2 := rfl
@[simp] theorem bytes24_length (x : BitVec 24) : (bytes24 x).length = 3 := rfl
@[simp] theorem bytes32_length (x : BitVec 32) : (bytes32 x).length = 4 := rfl
@[simp] theorem bytes48_length (x : BitVec 48) : (bytes48 x).length = 6 := rfl

/-- Reading back a 16-bit field. -/
@[simp] theorem get16_bytes16 (x : BitVec 16) (r : List Byte) : get16 (bytes16 x ++ r) = some (x, r) := by
  simp [bytes16, get16, word16_bytes]

/-- Reading back a 24-bit field. -/
@[simp] theorem get24_bytes24 (x : BitVec 24) (r : List Byte) : get24 (bytes24 x ++ r) = some (x, r) := by
  simp [bytes24, get24, word24_bytes]

/-- Reading back a 32-bit field. -/
@[simp] theorem get32_bytes32 (x : BitVec 32) (r : List Byte) : get32 (bytes32 x ++ r) = some (x, r) := by
  simp [bytes32, get32, word32_bytes]

/-- Reading back a 48-bit field. -/
@[simp] theorem get48_bytes48 (x : BitVec 48) (r : List Byte) : get48 (bytes48 x ++ r) = some (x, r) := by
  simp [bytes48, get48, word48_bytes]

/-- Reading back an optional byte, where its kept presence byte is neither 0 nor 1. -/
theorem getOpt_put8 (x : OptField Byte) (h : x.wellFormed = true) (r : List Byte) :
    getOpt get8 (putOpt put8 x ++ r) = some (x, r) := by
  cases x with
  | absent => simp [putOpt, getOpt]
  | given a => simp [putOpt, getOpt, put8, get8]
  | undefinedPresence b =>
    simp only [OptField.wellFormed, decide_eq_true_eq] at h
    change (if b = 0 then _ else if b = 1 then _ else _) = _
    rw [if_neg h.1, if_neg h.2]; rfl

/-- Reading back an optional 32-bit field, where its kept presence byte is neither 0 nor 1. -/
theorem getOpt_bytes32 (x : OptField (BitVec 32)) (h : x.wellFormed = true) (r : List Byte) :
    getOpt get32 (putOpt bytes32 x ++ r) = some (x, r) := by
  cases x with
  | absent => simp [putOpt, getOpt]
  | given a => simp [putOpt, getOpt]
  | undefinedPresence b =>
    simp only [OptField.wellFormed, decide_eq_true_eq] at h
    change (if b = 0 then _ else if b = 1 then _ else _) = _
    rw [if_neg h.1, if_neg h.2]; rfl

end Sys2Proof
end

