-- ==== Sys2Proof/Laws/Due.lean ====
section
/-! SUPPORT. Where nothing waits for the present tick, the sweep before the counter's advance changes nothing; what the start
and the end of a send do. -/

namespace Sys2Proof.Machine

/-- A sweep over events none of which is due changes nothing. -/
theorem sweep_none {n : Nat} (take : Fin n → State → State) (s : State) (h : ∀ i, take i s = s) : sweep take s = s := by
  unfold sweep
  induction List.finRange n with
  | nil => rfl
  | cons i is ih => rw [List.foldl_cons, h i, ih]

theorem takeBoundary_none (s : State) (h : s.boundaryDue = false) : takeBoundary s = s := by simp [takeBoundary, h]

theorem takeSettle_none (n : Fin 12) (s : State) (h : settleDue n s = false) : takeSettle n s = s := by simp [takeSettle, h]

theorem takeAlertExpiry_none (a : Fin 4) (s : State) (h : ∀ A ∈ s.alert a, A.expiry ≠ s.tick) : takeAlertExpiry a s = s := by
  unfold takeAlertExpiry; split
  · rename_i A hA
    rw [if_neg (h A (by simp [hA]))]
  · rfl

theorem takeQuietExpiry_none (p : Fin 4) (s : State) (h : quietDue p s = false) : takeQuietExpiry p s = s := by
  simp [takeQuietExpiry, h]

theorem takeAckExpiry_none (l : Fin 32) (s : State) (h : ackDue l s = false) : takeAckExpiry l s = s := by
  unfold takeAckExpiry; split <;> simp [h]

theorem takeClaimClose_none (i : Fin 64) (s : State) (h : claimCloseDue i s = false) : takeClaimClose i s = s := by
  simp [takeClaimClose, h]

theorem takeOutCommit_none (i : Fin 64) (s : State) (h : outDue i s = false) : takeOutCommit i s = s := by simp [takeOutCommit, h]

theorem takeFillCommit_none (i : Fin 64) (s : State) (h : fillDue i s = false) : takeFillCommit i s = s := by
  unfold takeFillCommit; split <;> simp [h]

theorem startSend_none (s : State) (h : sendDue s = false) : startSend s = s := by
  unfold startSend; split
  · rename_i h1 h2; simp [sendDue, h1, h2] at h
  · rfl

/-- A send that is due begins at the present tick, and nothing else changes (R39). -/
theorem startSend_due (s : State) (h : sendDue s = true) : startSend s = { s with sending := some s.tick } := by
  unfold startSend; split
  · rfl
  · rename_i hn
    exact absurd h (by cases hs : s.sending <;> cases hq : s.orderQueue <;> simp_all [sendDue])

/-- After the start of a send the link is busy wherever a message waits (R39). -/
theorem startSend_idle (s : State) (h : (startSend s).sending = none) : s.orderQueue = [] := by
  cases hd : sendDue s
  · rw [startSend_none s hd] at h
    cases hq : s.orderQueue <;> simp_all [sendDue]
  · rw [startSend_due s hd] at h; cases h

/-- The end of a send, wherever it does anything: the head leaves the queue, its lane's record shows sent, and the next message, if any,
begins (R39). -/
theorem endSend_cases (s : State) : endSend s = s ∨ ∃ b m rest, s.sending = some b ∧ b ≠ s.tick ∧ s.orderQueue = m :: rest ∧
    endSend s = markSent m.lane { s with orderQueue := rest, sending := if rest = [] then none else some s.tick } := by
  unfold endSend; split
  · rename_i b m rest hs hq
    split
    · exact .inl rfl
    · exact .inr ⟨b, m, rest, hs, ‹_›, hq, rfl⟩
  · exact .inl rfl

theorem takeInCommit_none (i : Fin 64) (s : State) (h : inDue i s = false) : takeInCommit i s = s := by simp [takeInCommit, h]

/-- A tick at which nothing is due has no event (R2). -/
theorem settleTick_none (s : State) (h : NothingDue s) : settleTick s = s := by
  obtain ⟨hb, hs, ha, hq, hk, hc, ho, hf, hi, hw⟩ := h
  unfold settleTick
  rw [takeBoundary_none s hb, sweep_none takeSettle s fun n => takeSettle_none n s (hs n),
    sweep_none takeAlertExpiry s fun a => takeAlertExpiry_none a s (ha a),
    sweep_none takeQuietExpiry s fun p => takeQuietExpiry_none p s (hq p),
    sweep_none takeAckExpiry s fun l => takeAckExpiry_none l s (hk l),
    sweep_none takeClaimClose s fun i => takeClaimClose_none i s (hc i),
    sweep_none takeOutCommit s fun i => takeOutCommit_none i s (ho i),
    sweep_none takeFillCommit s fun i => takeFillCommit_none i s (hf i),
    sweep_none takeInCommit s fun i => takeInCommit_none i s (hi i), startSend_none s hw]

end Sys2Proof.Machine
end

