-- ==== Sys2Proof/Laws/State.lean ====
section
/-! SUPPORT. One lemma for each field and each accessor of State under each of the record updates of Machine/Flags.lean. -/

namespace Sys2Proof.Machine

variable (s : State)

/-! ## updLane -/

@[simp] theorem State.updLane_tick (l : Fin 32) (f : Lane → Lane) : (s.updLane l f).tick = s.tick := rfl
@[simp] theorem State.updLane_boundaryDue (l : Fin 32) (f : Lane → Lane) : (s.updLane l f).boundaryDue = s.boundaryDue := rfl
@[simp] theorem State.updLane_calendar (l : Fin 32) (f : Lane → Lane) : (s.updLane l f).calendar = s.calendar := rfl
@[simp] theorem State.updLane_calPhase (l : Fin 32) (f : Lane → Lane) : (s.updLane l f).calPhase = s.calPhase := rfl
@[simp] theorem State.updLane_orderQueue (l : Fin 32) (f : Lane → Lane) : (s.updLane l f).orderQueue = s.orderQueue := rfl
@[simp] theorem State.updLane_sending (l : Fin 32) (f : Lane → Lane) : (s.updLane l f).sending = s.sending := rfl
@[simp] theorem State.updLane_lateCount (l : Fin 32) (f : Lane → Lane) : (s.updLane l f).lateCount = s.lateCount := rfl
@[simp] theorem State.updLane_lastLate (l : Fin 32) (f : Lane → Lane) : (s.updLane l f).lastLate = s.lastLate := rfl
@[simp] theorem State.updLane_linkErrors (l : Fin 32) (f : Lane → Lane) : (s.updLane l f).linkErrors = s.linkErrors := rfl
@[simp] theorem State.updLane_lastLinkError (l : Fin 32) (f : Lane → Lane) : (s.updLane l f).lastLinkError = s.lastLinkError := rfl
@[simp] theorem State.updLane_fifo (l : Fin 32) (f : Lane → Lane) : (s.updLane l f).fifo = s.fifo := rfl
@[simp] theorem State.updLane_intakeErrors (l : Fin 32) (f : Lane → Lane) : (s.updLane l f).intakeErrors = s.intakeErrors := rfl
@[simp] theorem State.updLane_lastIntakeError (l : Fin 32) (f : Lane → Lane) : (s.updLane l f).lastIntakeError = s.lastIntakeError := rfl
@[simp] theorem State.updLane_overruns (l : Fin 32) (f : Lane → Lane) : (s.updLane l f).overruns = s.overruns := rfl
@[simp] theorem State.updLane_lastOverrun (l : Fin 32) (f : Lane → Lane) : (s.updLane l f).lastOverrun = s.lastOverrun := rfl
@[simp] theorem State.updLane_lines (l : Fin 32) (f : Lane → Lane) : (s.updLane l f).lines = s.lines := rfl
@[simp] theorem State.updLane_strays (l : Fin 32) (f : Lane → Lane) : (s.updLane l f).strays = s.strays := rfl
@[simp] theorem State.updLane_strayOverruns (l : Fin 32) (f : Lane → Lane) : (s.updLane l f).strayOverruns = s.strayOverruns := rfl
@[simp] theorem State.updLane_recency (l : Fin 32) (f : Lane → Lane) : (s.updLane l f).recency = s.recency := rfl
@[simp] theorem State.updLane_pending (l : Fin 32) (f : Lane → Lane) : (s.updLane l f).pending = s.pending := rfl
@[simp] theorem State.updLane_outstanding (l : Fin 32) (f : Lane → Lane) : (s.updLane l f).outstanding = s.outstanding := rfl
@[simp] theorem State.updLane_order (l : Fin 32) (f : Lane → Lane) (j : Fin 32) : (s.updLane l f).order j = s.order j := rfl
@[simp] theorem State.updLane_feedRefs (l : Fin 32) (f : Lane → Lane) : (s.updLane l f).feedRefs = s.feedRefs := rfl
@[simp] theorem State.updLane_feedRef (l : Fin 32) (f : Lane → Lane) (j : Fin 32) : (s.updLane l f).feedRef j = s.feedRef j := rfl
@[simp] theorem State.updLane_cells (l : Fin 32) (f : Lane → Lane) : (s.updLane l f).cells = s.cells := rfl
@[simp] theorem State.updLane_cell (l : Fin 32) (f : Lane → Lane) (j : Fin 12) : (s.updLane l f).cell j = s.cell j := rfl
@[simp] theorem State.updLane_pairs (l : Fin 32) (f : Lane → Lane) : (s.updLane l f).pairs = s.pairs := rfl
@[simp] theorem State.updLane_pair (l : Fin 32) (f : Lane → Lane) (j : Fin 6) : (s.updLane l f).pair j = s.pair j := rfl
@[simp] theorem State.updLane_outputs (l : Fin 32) (f : Lane → Lane) : (s.updLane l f).outputs = s.outputs := rfl
@[simp] theorem State.updLane_output (l : Fin 32) (f : Lane → Lane) (j : Fin 8) : (s.updLane l f).output j = s.output j := rfl
@[simp] theorem State.updLane_filters (l : Fin 32) (f : Lane → Lane) : (s.updLane l f).filters = s.filters := rfl
@[simp] theorem State.updLane_filter (l : Fin 32) (f : Lane → Lane) (j : Fin 48) : (s.updLane l f).filter j = s.filter j := rfl
@[simp] theorem State.updLane_avails (l : Fin 32) (f : Lane → Lane) : (s.updLane l f).avails = s.avails := rfl
@[simp] theorem State.updLane_avail (l : Fin 32) (f : Lane → Lane) (j : Fin 64) : (s.updLane l f).avail j = s.avail j := rfl
@[simp] theorem State.updLane_standing (l : Fin 32) (f : Lane → Lane) : (s.updLane l f).standing = s.standing := rfl
@[simp] theorem State.updLane_place (l : Fin 32) (f : Lane → Lane) (l0 : Fin 32) (p0 : Fin 4) : (s.updLane l f).place l0 p0 = s.place l0 p0 := rfl
@[simp] theorem State.updLane_windows (l : Fin 32) (f : Lane → Lane) : (s.updLane l f).windows = s.windows := rfl
@[simp] theorem State.updLane_window (l : Fin 32) (f : Lane → Lane) (j : Fin 16) : (s.updLane l f).window j = s.window j := rfl
@[simp] theorem State.updLane_alerts (l : Fin 32) (f : Lane → Lane) : (s.updLane l f).alerts = s.alerts := rfl
@[simp] theorem State.updLane_alert (l : Fin 32) (f : Lane → Lane) (j : Fin 4) : (s.updLane l f).alert j = s.alert j := rfl
@[simp] theorem State.updLane_ports (l : Fin 32) (f : Lane → Lane) : (s.updLane l f).ports = s.ports := rfl
@[simp] theorem State.updLane_port (l : Fin 32) (f : Lane → Lane) (j : Fin 4) : (s.updLane l f).port j = s.port j := rfl
/-- The record written, and every other one. -/
theorem State.updLane_lane (l : Fin 32) (f : Lane → Lane) (j : Fin 32) : (s.updLane l f).lane j = if j = l then f (s.lane l) else s.lane j := by
  by_cases h : j = l
  · subst h; simp [State.lane, State.updLane]
  · have : l.val ≠ j.val := fun e => h (Fin.ext e.symm)
    simp [State.lane, State.updLane, h, this]

/-- The record written. -/
@[simp] theorem State.updLane_lane_self (l : Fin 32) (f : Lane → Lane) : (s.updLane l f).lane l = f (s.lane l) := by simp [State.updLane_lane]

/-! ## setOrder -/

@[simp] theorem State.setOrder_tick (l : Fin 32) (o : Option Outstanding) : (s.setOrder l o).tick = s.tick := rfl
@[simp] theorem State.setOrder_boundaryDue (l : Fin 32) (o : Option Outstanding) : (s.setOrder l o).boundaryDue = s.boundaryDue := rfl
@[simp] theorem State.setOrder_calendar (l : Fin 32) (o : Option Outstanding) : (s.setOrder l o).calendar = s.calendar := rfl
@[simp] theorem State.setOrder_calPhase (l : Fin 32) (o : Option Outstanding) : (s.setOrder l o).calPhase = s.calPhase := rfl
@[simp] theorem State.setOrder_orderQueue (l : Fin 32) (o : Option Outstanding) : (s.setOrder l o).orderQueue = s.orderQueue := rfl
@[simp] theorem State.setOrder_sending (l : Fin 32) (o : Option Outstanding) : (s.setOrder l o).sending = s.sending := rfl
@[simp] theorem State.setOrder_lateCount (l : Fin 32) (o : Option Outstanding) : (s.setOrder l o).lateCount = s.lateCount := rfl
@[simp] theorem State.setOrder_lastLate (l : Fin 32) (o : Option Outstanding) : (s.setOrder l o).lastLate = s.lastLate := rfl
@[simp] theorem State.setOrder_linkErrors (l : Fin 32) (o : Option Outstanding) : (s.setOrder l o).linkErrors = s.linkErrors := rfl
@[simp] theorem State.setOrder_lastLinkError (l : Fin 32) (o : Option Outstanding) : (s.setOrder l o).lastLinkError = s.lastLinkError := rfl
@[simp] theorem State.setOrder_fifo (l : Fin 32) (o : Option Outstanding) : (s.setOrder l o).fifo = s.fifo := rfl
@[simp] theorem State.setOrder_intakeErrors (l : Fin 32) (o : Option Outstanding) : (s.setOrder l o).intakeErrors = s.intakeErrors := rfl
@[simp] theorem State.setOrder_lastIntakeError (l : Fin 32) (o : Option Outstanding) : (s.setOrder l o).lastIntakeError = s.lastIntakeError := rfl
@[simp] theorem State.setOrder_overruns (l : Fin 32) (o : Option Outstanding) : (s.setOrder l o).overruns = s.overruns := rfl
@[simp] theorem State.setOrder_lastOverrun (l : Fin 32) (o : Option Outstanding) : (s.setOrder l o).lastOverrun = s.lastOverrun := rfl
@[simp] theorem State.setOrder_lines (l : Fin 32) (o : Option Outstanding) : (s.setOrder l o).lines = s.lines := rfl
@[simp] theorem State.setOrder_strays (l : Fin 32) (o : Option Outstanding) : (s.setOrder l o).strays = s.strays := rfl
@[simp] theorem State.setOrder_strayOverruns (l : Fin 32) (o : Option Outstanding) : (s.setOrder l o).strayOverruns = s.strayOverruns := rfl
@[simp] theorem State.setOrder_recency (l : Fin 32) (o : Option Outstanding) : (s.setOrder l o).recency = s.recency := rfl
@[simp] theorem State.setOrder_pending (l : Fin 32) (o : Option Outstanding) : (s.setOrder l o).pending = s.pending := rfl
@[simp] theorem State.setOrder_lanes (l : Fin 32) (o : Option Outstanding) : (s.setOrder l o).lanes = s.lanes := rfl
@[simp] theorem State.setOrder_lane (l : Fin 32) (o : Option Outstanding) (j : Fin 32) : (s.setOrder l o).lane j = s.lane j := rfl
@[simp] theorem State.setOrder_feedRefs (l : Fin 32) (o : Option Outstanding) : (s.setOrder l o).feedRefs = s.feedRefs := rfl
@[simp] theorem State.setOrder_feedRef (l : Fin 32) (o : Option Outstanding) (j : Fin 32) : (s.setOrder l o).feedRef j = s.feedRef j := rfl
@[simp] theorem State.setOrder_cells (l : Fin 32) (o : Option Outstanding) : (s.setOrder l o).cells = s.cells := rfl
@[simp] theorem State.setOrder_cell (l : Fin 32) (o : Option Outstanding) (j : Fin 12) : (s.setOrder l o).cell j = s.cell j := rfl
@[simp] theorem State.setOrder_pairs (l : Fin 32) (o : Option Outstanding) : (s.setOrder l o).pairs = s.pairs := rfl
@[simp] theorem State.setOrder_pair (l : Fin 32) (o : Option Outstanding) (j : Fin 6) : (s.setOrder l o).pair j = s.pair j := rfl
@[simp] theorem State.setOrder_outputs (l : Fin 32) (o : Option Outstanding) : (s.setOrder l o).outputs = s.outputs := rfl
@[simp] theorem State.setOrder_output (l : Fin 32) (o : Option Outstanding) (j : Fin 8) : (s.setOrder l o).output j = s.output j := rfl
@[simp] theorem State.setOrder_filters (l : Fin 32) (o : Option Outstanding) : (s.setOrder l o).filters = s.filters := rfl
@[simp] theorem State.setOrder_filter (l : Fin 32) (o : Option Outstanding) (j : Fin 48) : (s.setOrder l o).filter j = s.filter j := rfl
@[simp] theorem State.setOrder_avails (l : Fin 32) (o : Option Outstanding) : (s.setOrder l o).avails = s.avails := rfl
@[simp] theorem State.setOrder_avail (l : Fin 32) (o : Option Outstanding) (j : Fin 64) : (s.setOrder l o).avail j = s.avail j := rfl
@[simp] theorem State.setOrder_standing (l : Fin 32) (o : Option Outstanding) : (s.setOrder l o).standing = s.standing := rfl
@[simp] theorem State.setOrder_place (l : Fin 32) (o : Option Outstanding) (l0 : Fin 32) (p0 : Fin 4) : (s.setOrder l o).place l0 p0 = s.place l0 p0 := rfl
@[simp] theorem State.setOrder_windows (l : Fin 32) (o : Option Outstanding) : (s.setOrder l o).windows = s.windows := rfl
@[simp] theorem State.setOrder_window (l : Fin 32) (o : Option Outstanding) (j : Fin 16) : (s.setOrder l o).window j = s.window j := rfl
@[simp] theorem State.setOrder_alerts (l : Fin 32) (o : Option Outstanding) : (s.setOrder l o).alerts = s.alerts := rfl
@[simp] theorem State.setOrder_alert (l : Fin 32) (o : Option Outstanding) (j : Fin 4) : (s.setOrder l o).alert j = s.alert j := rfl
@[simp] theorem State.setOrder_ports (l : Fin 32) (o : Option Outstanding) : (s.setOrder l o).ports = s.ports := rfl
@[simp] theorem State.setOrder_port (l : Fin 32) (o : Option Outstanding) (j : Fin 4) : (s.setOrder l o).port j = s.port j := rfl
/-- The record written, and every other one. -/
theorem State.setOrder_order (l : Fin 32) (o : Option Outstanding) (j : Fin 32) : (s.setOrder l o).order j = if j = l then o else s.order j := by
  by_cases h : j = l
  · subst h; simp [State.order, State.setOrder]
  · have : l.val ≠ j.val := fun e => h (Fin.ext e.symm)
    simp [State.order, State.setOrder, h, this]

/-- The record written. -/
@[simp] theorem State.setOrder_order_self (l : Fin 32) (o : Option Outstanding) : (s.setOrder l o).order l = o := by simp [State.setOrder_order]

/-! ## setFeedRef -/

@[simp] theorem State.setFeedRef_tick (f : Fin 32) (r : FeedRef) : (s.setFeedRef f r).tick = s.tick := rfl
@[simp] theorem State.setFeedRef_boundaryDue (f : Fin 32) (r : FeedRef) : (s.setFeedRef f r).boundaryDue = s.boundaryDue := rfl
@[simp] theorem State.setFeedRef_calendar (f : Fin 32) (r : FeedRef) : (s.setFeedRef f r).calendar = s.calendar := rfl
@[simp] theorem State.setFeedRef_calPhase (f : Fin 32) (r : FeedRef) : (s.setFeedRef f r).calPhase = s.calPhase := rfl
@[simp] theorem State.setFeedRef_orderQueue (f : Fin 32) (r : FeedRef) : (s.setFeedRef f r).orderQueue = s.orderQueue := rfl
@[simp] theorem State.setFeedRef_sending (f : Fin 32) (r : FeedRef) : (s.setFeedRef f r).sending = s.sending := rfl
@[simp] theorem State.setFeedRef_lateCount (f : Fin 32) (r : FeedRef) : (s.setFeedRef f r).lateCount = s.lateCount := rfl
@[simp] theorem State.setFeedRef_lastLate (f : Fin 32) (r : FeedRef) : (s.setFeedRef f r).lastLate = s.lastLate := rfl
@[simp] theorem State.setFeedRef_linkErrors (f : Fin 32) (r : FeedRef) : (s.setFeedRef f r).linkErrors = s.linkErrors := rfl
@[simp] theorem State.setFeedRef_lastLinkError (f : Fin 32) (r : FeedRef) : (s.setFeedRef f r).lastLinkError = s.lastLinkError := rfl
@[simp] theorem State.setFeedRef_fifo (f : Fin 32) (r : FeedRef) : (s.setFeedRef f r).fifo = s.fifo := rfl
@[simp] theorem State.setFeedRef_intakeErrors (f : Fin 32) (r : FeedRef) : (s.setFeedRef f r).intakeErrors = s.intakeErrors := rfl
@[simp] theorem State.setFeedRef_lastIntakeError (f : Fin 32) (r : FeedRef) : (s.setFeedRef f r).lastIntakeError = s.lastIntakeError := rfl
@[simp] theorem State.setFeedRef_overruns (f : Fin 32) (r : FeedRef) : (s.setFeedRef f r).overruns = s.overruns := rfl
@[simp] theorem State.setFeedRef_lastOverrun (f : Fin 32) (r : FeedRef) : (s.setFeedRef f r).lastOverrun = s.lastOverrun := rfl
@[simp] theorem State.setFeedRef_lines (f : Fin 32) (r : FeedRef) : (s.setFeedRef f r).lines = s.lines := rfl
@[simp] theorem State.setFeedRef_strays (f : Fin 32) (r : FeedRef) : (s.setFeedRef f r).strays = s.strays := rfl
@[simp] theorem State.setFeedRef_strayOverruns (f : Fin 32) (r : FeedRef) : (s.setFeedRef f r).strayOverruns = s.strayOverruns := rfl
@[simp] theorem State.setFeedRef_recency (f : Fin 32) (r : FeedRef) : (s.setFeedRef f r).recency = s.recency := rfl
@[simp] theorem State.setFeedRef_pending (f : Fin 32) (r : FeedRef) : (s.setFeedRef f r).pending = s.pending := rfl
@[simp] theorem State.setFeedRef_lanes (f : Fin 32) (r : FeedRef) : (s.setFeedRef f r).lanes = s.lanes := rfl
@[simp] theorem State.setFeedRef_lane (f : Fin 32) (r : FeedRef) (j : Fin 32) : (s.setFeedRef f r).lane j = s.lane j := rfl
@[simp] theorem State.setFeedRef_outstanding (f : Fin 32) (r : FeedRef) : (s.setFeedRef f r).outstanding = s.outstanding := rfl
@[simp] theorem State.setFeedRef_order (f : Fin 32) (r : FeedRef) (j : Fin 32) : (s.setFeedRef f r).order j = s.order j := rfl
@[simp] theorem State.setFeedRef_cells (f : Fin 32) (r : FeedRef) : (s.setFeedRef f r).cells = s.cells := rfl
@[simp] theorem State.setFeedRef_cell (f : Fin 32) (r : FeedRef) (j : Fin 12) : (s.setFeedRef f r).cell j = s.cell j := rfl
@[simp] theorem State.setFeedRef_pairs (f : Fin 32) (r : FeedRef) : (s.setFeedRef f r).pairs = s.pairs := rfl
@[simp] theorem State.setFeedRef_pair (f : Fin 32) (r : FeedRef) (j : Fin 6) : (s.setFeedRef f r).pair j = s.pair j := rfl
@[simp] theorem State.setFeedRef_outputs (f : Fin 32) (r : FeedRef) : (s.setFeedRef f r).outputs = s.outputs := rfl
@[simp] theorem State.setFeedRef_output (f : Fin 32) (r : FeedRef) (j : Fin 8) : (s.setFeedRef f r).output j = s.output j := rfl
@[simp] theorem State.setFeedRef_filters (f : Fin 32) (r : FeedRef) : (s.setFeedRef f r).filters = s.filters := rfl
@[simp] theorem State.setFeedRef_filter (f : Fin 32) (r : FeedRef) (j : Fin 48) : (s.setFeedRef f r).filter j = s.filter j := rfl
@[simp] theorem State.setFeedRef_avails (f : Fin 32) (r : FeedRef) : (s.setFeedRef f r).avails = s.avails := rfl
@[simp] theorem State.setFeedRef_avail (f : Fin 32) (r : FeedRef) (j : Fin 64) : (s.setFeedRef f r).avail j = s.avail j := rfl
@[simp] theorem State.setFeedRef_standing (f : Fin 32) (r : FeedRef) : (s.setFeedRef f r).standing = s.standing := rfl
@[simp] theorem State.setFeedRef_place (f : Fin 32) (r : FeedRef) (l0 : Fin 32) (p0 : Fin 4) : (s.setFeedRef f r).place l0 p0 = s.place l0 p0 := rfl
@[simp] theorem State.setFeedRef_windows (f : Fin 32) (r : FeedRef) : (s.setFeedRef f r).windows = s.windows := rfl
@[simp] theorem State.setFeedRef_window (f : Fin 32) (r : FeedRef) (j : Fin 16) : (s.setFeedRef f r).window j = s.window j := rfl
@[simp] theorem State.setFeedRef_alerts (f : Fin 32) (r : FeedRef) : (s.setFeedRef f r).alerts = s.alerts := rfl
@[simp] theorem State.setFeedRef_alert (f : Fin 32) (r : FeedRef) (j : Fin 4) : (s.setFeedRef f r).alert j = s.alert j := rfl
@[simp] theorem State.setFeedRef_ports (f : Fin 32) (r : FeedRef) : (s.setFeedRef f r).ports = s.ports := rfl
@[simp] theorem State.setFeedRef_port (f : Fin 32) (r : FeedRef) (j : Fin 4) : (s.setFeedRef f r).port j = s.port j := rfl
/-- The record written, and every other one. -/
theorem State.setFeedRef_feedRef (f : Fin 32) (r : FeedRef) (j : Fin 32) : (s.setFeedRef f r).feedRef j = if j = f then r else s.feedRef j := by
  by_cases h : j = f
  · subst h; simp [State.feedRef, State.setFeedRef]
  · have : f.val ≠ j.val := fun e => h (Fin.ext e.symm)
    simp [State.feedRef, State.setFeedRef, h, this]

/-- The record written. -/
@[simp] theorem State.setFeedRef_feedRef_self (f : Fin 32) (r : FeedRef) : (s.setFeedRef f r).feedRef f = r := by simp [State.setFeedRef_feedRef]

/-! ## updCell -/

@[simp] theorem State.updCell_tick (n : Fin 12) (f : Cell → Cell) : (s.updCell n f).tick = s.tick := rfl
@[simp] theorem State.updCell_boundaryDue (n : Fin 12) (f : Cell → Cell) : (s.updCell n f).boundaryDue = s.boundaryDue := rfl
@[simp] theorem State.updCell_calendar (n : Fin 12) (f : Cell → Cell) : (s.updCell n f).calendar = s.calendar := rfl
@[simp] theorem State.updCell_calPhase (n : Fin 12) (f : Cell → Cell) : (s.updCell n f).calPhase = s.calPhase := rfl
@[simp] theorem State.updCell_orderQueue (n : Fin 12) (f : Cell → Cell) : (s.updCell n f).orderQueue = s.orderQueue := rfl
@[simp] theorem State.updCell_sending (n : Fin 12) (f : Cell → Cell) : (s.updCell n f).sending = s.sending := rfl
@[simp] theorem State.updCell_lateCount (n : Fin 12) (f : Cell → Cell) : (s.updCell n f).lateCount = s.lateCount := rfl
@[simp] theorem State.updCell_lastLate (n : Fin 12) (f : Cell → Cell) : (s.updCell n f).lastLate = s.lastLate := rfl
@[simp] theorem State.updCell_linkErrors (n : Fin 12) (f : Cell → Cell) : (s.updCell n f).linkErrors = s.linkErrors := rfl
@[simp] theorem State.updCell_lastLinkError (n : Fin 12) (f : Cell → Cell) : (s.updCell n f).lastLinkError = s.lastLinkError := rfl
@[simp] theorem State.updCell_fifo (n : Fin 12) (f : Cell → Cell) : (s.updCell n f).fifo = s.fifo := rfl
@[simp] theorem State.updCell_intakeErrors (n : Fin 12) (f : Cell → Cell) : (s.updCell n f).intakeErrors = s.intakeErrors := rfl
@[simp] theorem State.updCell_lastIntakeError (n : Fin 12) (f : Cell → Cell) : (s.updCell n f).lastIntakeError = s.lastIntakeError := rfl
@[simp] theorem State.updCell_overruns (n : Fin 12) (f : Cell → Cell) : (s.updCell n f).overruns = s.overruns := rfl
@[simp] theorem State.updCell_lastOverrun (n : Fin 12) (f : Cell → Cell) : (s.updCell n f).lastOverrun = s.lastOverrun := rfl
@[simp] theorem State.updCell_lines (n : Fin 12) (f : Cell → Cell) : (s.updCell n f).lines = s.lines := rfl
@[simp] theorem State.updCell_strays (n : Fin 12) (f : Cell → Cell) : (s.updCell n f).strays = s.strays := rfl
@[simp] theorem State.updCell_strayOverruns (n : Fin 12) (f : Cell → Cell) : (s.updCell n f).strayOverruns = s.strayOverruns := rfl
@[simp] theorem State.updCell_recency (n : Fin 12) (f : Cell → Cell) : (s.updCell n f).recency = s.recency := rfl
@[simp] theorem State.updCell_pending (n : Fin 12) (f : Cell → Cell) : (s.updCell n f).pending = s.pending := rfl
@[simp] theorem State.updCell_lanes (n : Fin 12) (f : Cell → Cell) : (s.updCell n f).lanes = s.lanes := rfl
@[simp] theorem State.updCell_lane (n : Fin 12) (f : Cell → Cell) (j : Fin 32) : (s.updCell n f).lane j = s.lane j := rfl
@[simp] theorem State.updCell_outstanding (n : Fin 12) (f : Cell → Cell) : (s.updCell n f).outstanding = s.outstanding := rfl
@[simp] theorem State.updCell_order (n : Fin 12) (f : Cell → Cell) (j : Fin 32) : (s.updCell n f).order j = s.order j := rfl
@[simp] theorem State.updCell_feedRefs (n : Fin 12) (f : Cell → Cell) : (s.updCell n f).feedRefs = s.feedRefs := rfl
@[simp] theorem State.updCell_feedRef (n : Fin 12) (f : Cell → Cell) (j : Fin 32) : (s.updCell n f).feedRef j = s.feedRef j := rfl
@[simp] theorem State.updCell_pairs (n : Fin 12) (f : Cell → Cell) : (s.updCell n f).pairs = s.pairs := rfl
@[simp] theorem State.updCell_pair (n : Fin 12) (f : Cell → Cell) (j : Fin 6) : (s.updCell n f).pair j = s.pair j := rfl
@[simp] theorem State.updCell_outputs (n : Fin 12) (f : Cell → Cell) : (s.updCell n f).outputs = s.outputs := rfl
@[simp] theorem State.updCell_output (n : Fin 12) (f : Cell → Cell) (j : Fin 8) : (s.updCell n f).output j = s.output j := rfl
@[simp] theorem State.updCell_filters (n : Fin 12) (f : Cell → Cell) : (s.updCell n f).filters = s.filters := rfl
@[simp] theorem State.updCell_filter (n : Fin 12) (f : Cell → Cell) (j : Fin 48) : (s.updCell n f).filter j = s.filter j := rfl
@[simp] theorem State.updCell_avails (n : Fin 12) (f : Cell → Cell) : (s.updCell n f).avails = s.avails := rfl
@[simp] theorem State.updCell_avail (n : Fin 12) (f : Cell → Cell) (j : Fin 64) : (s.updCell n f).avail j = s.avail j := rfl
@[simp] theorem State.updCell_standing (n : Fin 12) (f : Cell → Cell) : (s.updCell n f).standing = s.standing := rfl
@[simp] theorem State.updCell_place (n : Fin 12) (f : Cell → Cell) (l0 : Fin 32) (p0 : Fin 4) : (s.updCell n f).place l0 p0 = s.place l0 p0 := rfl
@[simp] theorem State.updCell_windows (n : Fin 12) (f : Cell → Cell) : (s.updCell n f).windows = s.windows := rfl
@[simp] theorem State.updCell_window (n : Fin 12) (f : Cell → Cell) (j : Fin 16) : (s.updCell n f).window j = s.window j := rfl
@[simp] theorem State.updCell_alerts (n : Fin 12) (f : Cell → Cell) : (s.updCell n f).alerts = s.alerts := rfl
@[simp] theorem State.updCell_alert (n : Fin 12) (f : Cell → Cell) (j : Fin 4) : (s.updCell n f).alert j = s.alert j := rfl
@[simp] theorem State.updCell_ports (n : Fin 12) (f : Cell → Cell) : (s.updCell n f).ports = s.ports := rfl
@[simp] theorem State.updCell_port (n : Fin 12) (f : Cell → Cell) (j : Fin 4) : (s.updCell n f).port j = s.port j := rfl
/-- The record written, and every other one. -/
theorem State.updCell_cell (n : Fin 12) (f : Cell → Cell) (j : Fin 12) : (s.updCell n f).cell j = if j = n then f (s.cell n) else s.cell j := by
  by_cases h : j = n
  · subst h; simp [State.cell, State.updCell]
  · have : n.val ≠ j.val := fun e => h (Fin.ext e.symm)
    simp [State.cell, State.updCell, h, this]

/-- The record written. -/
@[simp] theorem State.updCell_cell_self (n : Fin 12) (f : Cell → Cell) : (s.updCell n f).cell n = f (s.cell n) := by simp [State.updCell_cell]

/-! ## updPair -/

@[simp] theorem State.updPair_tick (k : Fin 6) (f : Pair → Pair) : (s.updPair k f).tick = s.tick := rfl
@[simp] theorem State.updPair_boundaryDue (k : Fin 6) (f : Pair → Pair) : (s.updPair k f).boundaryDue = s.boundaryDue := rfl
@[simp] theorem State.updPair_calendar (k : Fin 6) (f : Pair → Pair) : (s.updPair k f).calendar = s.calendar := rfl
@[simp] theorem State.updPair_calPhase (k : Fin 6) (f : Pair → Pair) : (s.updPair k f).calPhase = s.calPhase := rfl
@[simp] theorem State.updPair_orderQueue (k : Fin 6) (f : Pair → Pair) : (s.updPair k f).orderQueue = s.orderQueue := rfl
@[simp] theorem State.updPair_sending (k : Fin 6) (f : Pair → Pair) : (s.updPair k f).sending = s.sending := rfl
@[simp] theorem State.updPair_lateCount (k : Fin 6) (f : Pair → Pair) : (s.updPair k f).lateCount = s.lateCount := rfl
@[simp] theorem State.updPair_lastLate (k : Fin 6) (f : Pair → Pair) : (s.updPair k f).lastLate = s.lastLate := rfl
@[simp] theorem State.updPair_linkErrors (k : Fin 6) (f : Pair → Pair) : (s.updPair k f).linkErrors = s.linkErrors := rfl
@[simp] theorem State.updPair_lastLinkError (k : Fin 6) (f : Pair → Pair) : (s.updPair k f).lastLinkError = s.lastLinkError := rfl
@[simp] theorem State.updPair_fifo (k : Fin 6) (f : Pair → Pair) : (s.updPair k f).fifo = s.fifo := rfl
@[simp] theorem State.updPair_intakeErrors (k : Fin 6) (f : Pair → Pair) : (s.updPair k f).intakeErrors = s.intakeErrors := rfl
@[simp] theorem State.updPair_lastIntakeError (k : Fin 6) (f : Pair → Pair) : (s.updPair k f).lastIntakeError = s.lastIntakeError := rfl
@[simp] theorem State.updPair_overruns (k : Fin 6) (f : Pair → Pair) : (s.updPair k f).overruns = s.overruns := rfl
@[simp] theorem State.updPair_lastOverrun (k : Fin 6) (f : Pair → Pair) : (s.updPair k f).lastOverrun = s.lastOverrun := rfl
@[simp] theorem State.updPair_lines (k : Fin 6) (f : Pair → Pair) : (s.updPair k f).lines = s.lines := rfl
@[simp] theorem State.updPair_strays (k : Fin 6) (f : Pair → Pair) : (s.updPair k f).strays = s.strays := rfl
@[simp] theorem State.updPair_strayOverruns (k : Fin 6) (f : Pair → Pair) : (s.updPair k f).strayOverruns = s.strayOverruns := rfl
@[simp] theorem State.updPair_recency (k : Fin 6) (f : Pair → Pair) : (s.updPair k f).recency = s.recency := rfl
@[simp] theorem State.updPair_pending (k : Fin 6) (f : Pair → Pair) : (s.updPair k f).pending = s.pending := rfl
@[simp] theorem State.updPair_lanes (k : Fin 6) (f : Pair → Pair) : (s.updPair k f).lanes = s.lanes := rfl
@[simp] theorem State.updPair_lane (k : Fin 6) (f : Pair → Pair) (j : Fin 32) : (s.updPair k f).lane j = s.lane j := rfl
@[simp] theorem State.updPair_outstanding (k : Fin 6) (f : Pair → Pair) : (s.updPair k f).outstanding = s.outstanding := rfl
@[simp] theorem State.updPair_order (k : Fin 6) (f : Pair → Pair) (j : Fin 32) : (s.updPair k f).order j = s.order j := rfl
@[simp] theorem State.updPair_feedRefs (k : Fin 6) (f : Pair → Pair) : (s.updPair k f).feedRefs = s.feedRefs := rfl
@[simp] theorem State.updPair_feedRef (k : Fin 6) (f : Pair → Pair) (j : Fin 32) : (s.updPair k f).feedRef j = s.feedRef j := rfl
@[simp] theorem State.updPair_cells (k : Fin 6) (f : Pair → Pair) : (s.updPair k f).cells = s.cells := rfl
@[simp] theorem State.updPair_cell (k : Fin 6) (f : Pair → Pair) (j : Fin 12) : (s.updPair k f).cell j = s.cell j := rfl
@[simp] theorem State.updPair_outputs (k : Fin 6) (f : Pair → Pair) : (s.updPair k f).outputs = s.outputs := rfl
@[simp] theorem State.updPair_output (k : Fin 6) (f : Pair → Pair) (j : Fin 8) : (s.updPair k f).output j = s.output j := rfl
@[simp] theorem State.updPair_filters (k : Fin 6) (f : Pair → Pair) : (s.updPair k f).filters = s.filters := rfl
@[simp] theorem State.updPair_filter (k : Fin 6) (f : Pair → Pair) (j : Fin 48) : (s.updPair k f).filter j = s.filter j := rfl
@[simp] theorem State.updPair_avails (k : Fin 6) (f : Pair → Pair) : (s.updPair k f).avails = s.avails := rfl
@[simp] theorem State.updPair_avail (k : Fin 6) (f : Pair → Pair) (j : Fin 64) : (s.updPair k f).avail j = s.avail j := rfl
@[simp] theorem State.updPair_standing (k : Fin 6) (f : Pair → Pair) : (s.updPair k f).standing = s.standing := rfl
@[simp] theorem State.updPair_place (k : Fin 6) (f : Pair → Pair) (l0 : Fin 32) (p0 : Fin 4) : (s.updPair k f).place l0 p0 = s.place l0 p0 := rfl
@[simp] theorem State.updPair_windows (k : Fin 6) (f : Pair → Pair) : (s.updPair k f).windows = s.windows := rfl
@[simp] theorem State.updPair_window (k : Fin 6) (f : Pair → Pair) (j : Fin 16) : (s.updPair k f).window j = s.window j := rfl
@[simp] theorem State.updPair_alerts (k : Fin 6) (f : Pair → Pair) : (s.updPair k f).alerts = s.alerts := rfl
@[simp] theorem State.updPair_alert (k : Fin 6) (f : Pair → Pair) (j : Fin 4) : (s.updPair k f).alert j = s.alert j := rfl
@[simp] theorem State.updPair_ports (k : Fin 6) (f : Pair → Pair) : (s.updPair k f).ports = s.ports := rfl
@[simp] theorem State.updPair_port (k : Fin 6) (f : Pair → Pair) (j : Fin 4) : (s.updPair k f).port j = s.port j := rfl
/-- The record written, and every other one. -/
theorem State.updPair_pair (k : Fin 6) (f : Pair → Pair) (j : Fin 6) : (s.updPair k f).pair j = if j = k then f (s.pair k) else s.pair j := by
  by_cases h : j = k
  · subst h; simp [State.pair, State.updPair]
  · have : k.val ≠ j.val := fun e => h (Fin.ext e.symm)
    simp [State.pair, State.updPair, h, this]

/-- The record written. -/
@[simp] theorem State.updPair_pair_self (k : Fin 6) (f : Pair → Pair) : (s.updPair k f).pair k = f (s.pair k) := by simp [State.updPair_pair]

/-! ## setOutput -/

@[simp] theorem State.setOutput_tick (o : Fin 8) (x : OutputSelection) : (s.setOutput o x).tick = s.tick := rfl
@[simp] theorem State.setOutput_boundaryDue (o : Fin 8) (x : OutputSelection) : (s.setOutput o x).boundaryDue = s.boundaryDue := rfl
@[simp] theorem State.setOutput_calendar (o : Fin 8) (x : OutputSelection) : (s.setOutput o x).calendar = s.calendar := rfl
@[simp] theorem State.setOutput_calPhase (o : Fin 8) (x : OutputSelection) : (s.setOutput o x).calPhase = s.calPhase := rfl
@[simp] theorem State.setOutput_orderQueue (o : Fin 8) (x : OutputSelection) : (s.setOutput o x).orderQueue = s.orderQueue := rfl
@[simp] theorem State.setOutput_sending (o : Fin 8) (x : OutputSelection) : (s.setOutput o x).sending = s.sending := rfl
@[simp] theorem State.setOutput_lateCount (o : Fin 8) (x : OutputSelection) : (s.setOutput o x).lateCount = s.lateCount := rfl
@[simp] theorem State.setOutput_lastLate (o : Fin 8) (x : OutputSelection) : (s.setOutput o x).lastLate = s.lastLate := rfl
@[simp] theorem State.setOutput_linkErrors (o : Fin 8) (x : OutputSelection) : (s.setOutput o x).linkErrors = s.linkErrors := rfl
@[simp] theorem State.setOutput_lastLinkError (o : Fin 8) (x : OutputSelection) : (s.setOutput o x).lastLinkError = s.lastLinkError := rfl
@[simp] theorem State.setOutput_fifo (o : Fin 8) (x : OutputSelection) : (s.setOutput o x).fifo = s.fifo := rfl
@[simp] theorem State.setOutput_intakeErrors (o : Fin 8) (x : OutputSelection) : (s.setOutput o x).intakeErrors = s.intakeErrors := rfl
@[simp] theorem State.setOutput_lastIntakeError (o : Fin 8) (x : OutputSelection) : (s.setOutput o x).lastIntakeError = s.lastIntakeError := rfl
@[simp] theorem State.setOutput_overruns (o : Fin 8) (x : OutputSelection) : (s.setOutput o x).overruns = s.overruns := rfl
@[simp] theorem State.setOutput_lastOverrun (o : Fin 8) (x : OutputSelection) : (s.setOutput o x).lastOverrun = s.lastOverrun := rfl
@[simp] theorem State.setOutput_lines (o : Fin 8) (x : OutputSelection) : (s.setOutput o x).lines = s.lines := rfl
@[simp] theorem State.setOutput_strays (o : Fin 8) (x : OutputSelection) : (s.setOutput o x).strays = s.strays := rfl
@[simp] theorem State.setOutput_strayOverruns (o : Fin 8) (x : OutputSelection) : (s.setOutput o x).strayOverruns = s.strayOverruns := rfl
@[simp] theorem State.setOutput_recency (o : Fin 8) (x : OutputSelection) : (s.setOutput o x).recency = s.recency := rfl
@[simp] theorem State.setOutput_pending (o : Fin 8) (x : OutputSelection) : (s.setOutput o x).pending = s.pending := rfl
@[simp] theorem State.setOutput_lanes (o : Fin 8) (x : OutputSelection) : (s.setOutput o x).lanes = s.lanes := rfl
@[simp] theorem State.setOutput_lane (o : Fin 8) (x : OutputSelection) (j : Fin 32) : (s.setOutput o x).lane j = s.lane j := rfl
@[simp] theorem State.setOutput_outstanding (o : Fin 8) (x : OutputSelection) : (s.setOutput o x).outstanding = s.outstanding := rfl
@[simp] theorem State.setOutput_order (o : Fin 8) (x : OutputSelection) (j : Fin 32) : (s.setOutput o x).order j = s.order j := rfl
@[simp] theorem State.setOutput_feedRefs (o : Fin 8) (x : OutputSelection) : (s.setOutput o x).feedRefs = s.feedRefs := rfl
@[simp] theorem State.setOutput_feedRef (o : Fin 8) (x : OutputSelection) (j : Fin 32) : (s.setOutput o x).feedRef j = s.feedRef j := rfl
@[simp] theorem State.setOutput_cells (o : Fin 8) (x : OutputSelection) : (s.setOutput o x).cells = s.cells := rfl
@[simp] theorem State.setOutput_cell (o : Fin 8) (x : OutputSelection) (j : Fin 12) : (s.setOutput o x).cell j = s.cell j := rfl
@[simp] theorem State.setOutput_pairs (o : Fin 8) (x : OutputSelection) : (s.setOutput o x).pairs = s.pairs := rfl
@[simp] theorem State.setOutput_pair (o : Fin 8) (x : OutputSelection) (j : Fin 6) : (s.setOutput o x).pair j = s.pair j := rfl
@[simp] theorem State.setOutput_filters (o : Fin 8) (x : OutputSelection) : (s.setOutput o x).filters = s.filters := rfl
@[simp] theorem State.setOutput_filter (o : Fin 8) (x : OutputSelection) (j : Fin 48) : (s.setOutput o x).filter j = s.filter j := rfl
@[simp] theorem State.setOutput_avails (o : Fin 8) (x : OutputSelection) : (s.setOutput o x).avails = s.avails := rfl
@[simp] theorem State.setOutput_avail (o : Fin 8) (x : OutputSelection) (j : Fin 64) : (s.setOutput o x).avail j = s.avail j := rfl
@[simp] theorem State.setOutput_standing (o : Fin 8) (x : OutputSelection) : (s.setOutput o x).standing = s.standing := rfl
@[simp] theorem State.setOutput_place (o : Fin 8) (x : OutputSelection) (l0 : Fin 32) (p0 : Fin 4) : (s.setOutput o x).place l0 p0 = s.place l0 p0 := rfl
@[simp] theorem State.setOutput_windows (o : Fin 8) (x : OutputSelection) : (s.setOutput o x).windows = s.windows := rfl
@[simp] theorem State.setOutput_window (o : Fin 8) (x : OutputSelection) (j : Fin 16) : (s.setOutput o x).window j = s.window j := rfl
@[simp] theorem State.setOutput_alerts (o : Fin 8) (x : OutputSelection) : (s.setOutput o x).alerts = s.alerts := rfl
@[simp] theorem State.setOutput_alert (o : Fin 8) (x : OutputSelection) (j : Fin 4) : (s.setOutput o x).alert j = s.alert j := rfl
@[simp] theorem State.setOutput_ports (o : Fin 8) (x : OutputSelection) : (s.setOutput o x).ports = s.ports := rfl
@[simp] theorem State.setOutput_port (o : Fin 8) (x : OutputSelection) (j : Fin 4) : (s.setOutput o x).port j = s.port j := rfl
/-- The record written, and every other one. -/
theorem State.setOutput_output (o : Fin 8) (x : OutputSelection) (j : Fin 8) : (s.setOutput o x).output j = if j = o then x else s.output j := by
  by_cases h : j = o
  · subst h; simp [State.output, State.setOutput]
  · have : o.val ≠ j.val := fun e => h (Fin.ext e.symm)
    simp [State.output, State.setOutput, h, this]

/-- The record written. -/
@[simp] theorem State.setOutput_output_self (o : Fin 8) (x : OutputSelection) : (s.setOutput o x).output o = x := by simp [State.setOutput_output]

/-! ## updFilter -/

@[simp] theorem State.updFilter_tick (i : Fin 48) (f : Filter → Filter) : (s.updFilter i f).tick = s.tick := rfl
@[simp] theorem State.updFilter_boundaryDue (i : Fin 48) (f : Filter → Filter) : (s.updFilter i f).boundaryDue = s.boundaryDue := rfl
@[simp] theorem State.updFilter_calendar (i : Fin 48) (f : Filter → Filter) : (s.updFilter i f).calendar = s.calendar := rfl
@[simp] theorem State.updFilter_calPhase (i : Fin 48) (f : Filter → Filter) : (s.updFilter i f).calPhase = s.calPhase := rfl
@[simp] theorem State.updFilter_orderQueue (i : Fin 48) (f : Filter → Filter) : (s.updFilter i f).orderQueue = s.orderQueue := rfl
@[simp] theorem State.updFilter_sending (i : Fin 48) (f : Filter → Filter) : (s.updFilter i f).sending = s.sending := rfl
@[simp] theorem State.updFilter_lateCount (i : Fin 48) (f : Filter → Filter) : (s.updFilter i f).lateCount = s.lateCount := rfl
@[simp] theorem State.updFilter_lastLate (i : Fin 48) (f : Filter → Filter) : (s.updFilter i f).lastLate = s.lastLate := rfl
@[simp] theorem State.updFilter_linkErrors (i : Fin 48) (f : Filter → Filter) : (s.updFilter i f).linkErrors = s.linkErrors := rfl
@[simp] theorem State.updFilter_lastLinkError (i : Fin 48) (f : Filter → Filter) : (s.updFilter i f).lastLinkError = s.lastLinkError := rfl
@[simp] theorem State.updFilter_fifo (i : Fin 48) (f : Filter → Filter) : (s.updFilter i f).fifo = s.fifo := rfl
@[simp] theorem State.updFilter_intakeErrors (i : Fin 48) (f : Filter → Filter) : (s.updFilter i f).intakeErrors = s.intakeErrors := rfl
@[simp] theorem State.updFilter_lastIntakeError (i : Fin 48) (f : Filter → Filter) : (s.updFilter i f).lastIntakeError = s.lastIntakeError := rfl
@[simp] theorem State.updFilter_overruns (i : Fin 48) (f : Filter → Filter) : (s.updFilter i f).overruns = s.overruns := rfl
@[simp] theorem State.updFilter_lastOverrun (i : Fin 48) (f : Filter → Filter) : (s.updFilter i f).lastOverrun = s.lastOverrun := rfl
@[simp] theorem State.updFilter_lines (i : Fin 48) (f : Filter → Filter) : (s.updFilter i f).lines = s.lines := rfl
@[simp] theorem State.updFilter_strays (i : Fin 48) (f : Filter → Filter) : (s.updFilter i f).strays = s.strays := rfl
@[simp] theorem State.updFilter_strayOverruns (i : Fin 48) (f : Filter → Filter) : (s.updFilter i f).strayOverruns = s.strayOverruns := rfl
@[simp] theorem State.updFilter_recency (i : Fin 48) (f : Filter → Filter) : (s.updFilter i f).recency = s.recency := rfl
@[simp] theorem State.updFilter_pending (i : Fin 48) (f : Filter → Filter) : (s.updFilter i f).pending = s.pending := rfl
@[simp] theorem State.updFilter_lanes (i : Fin 48) (f : Filter → Filter) : (s.updFilter i f).lanes = s.lanes := rfl
@[simp] theorem State.updFilter_lane (i : Fin 48) (f : Filter → Filter) (j : Fin 32) : (s.updFilter i f).lane j = s.lane j := rfl
@[simp] theorem State.updFilter_outstanding (i : Fin 48) (f : Filter → Filter) : (s.updFilter i f).outstanding = s.outstanding := rfl
@[simp] theorem State.updFilter_order (i : Fin 48) (f : Filter → Filter) (j : Fin 32) : (s.updFilter i f).order j = s.order j := rfl
@[simp] theorem State.updFilter_feedRefs (i : Fin 48) (f : Filter → Filter) : (s.updFilter i f).feedRefs = s.feedRefs := rfl
@[simp] theorem State.updFilter_feedRef (i : Fin 48) (f : Filter → Filter) (j : Fin 32) : (s.updFilter i f).feedRef j = s.feedRef j := rfl
@[simp] theorem State.updFilter_cells (i : Fin 48) (f : Filter → Filter) : (s.updFilter i f).cells = s.cells := rfl
@[simp] theorem State.updFilter_cell (i : Fin 48) (f : Filter → Filter) (j : Fin 12) : (s.updFilter i f).cell j = s.cell j := rfl
@[simp] theorem State.updFilter_pairs (i : Fin 48) (f : Filter → Filter) : (s.updFilter i f).pairs = s.pairs := rfl
@[simp] theorem State.updFilter_pair (i : Fin 48) (f : Filter → Filter) (j : Fin 6) : (s.updFilter i f).pair j = s.pair j := rfl
@[simp] theorem State.updFilter_outputs (i : Fin 48) (f : Filter → Filter) : (s.updFilter i f).outputs = s.outputs := rfl
@[simp] theorem State.updFilter_output (i : Fin 48) (f : Filter → Filter) (j : Fin 8) : (s.updFilter i f).output j = s.output j := rfl
@[simp] theorem State.updFilter_avails (i : Fin 48) (f : Filter → Filter) : (s.updFilter i f).avails = s.avails := rfl
@[simp] theorem State.updFilter_avail (i : Fin 48) (f : Filter → Filter) (j : Fin 64) : (s.updFilter i f).avail j = s.avail j := rfl
@[simp] theorem State.updFilter_standing (i : Fin 48) (f : Filter → Filter) : (s.updFilter i f).standing = s.standing := rfl
@[simp] theorem State.updFilter_place (i : Fin 48) (f : Filter → Filter) (l0 : Fin 32) (p0 : Fin 4) : (s.updFilter i f).place l0 p0 = s.place l0 p0 := rfl
@[simp] theorem State.updFilter_windows (i : Fin 48) (f : Filter → Filter) : (s.updFilter i f).windows = s.windows := rfl
@[simp] theorem State.updFilter_window (i : Fin 48) (f : Filter → Filter) (j : Fin 16) : (s.updFilter i f).window j = s.window j := rfl
@[simp] theorem State.updFilter_alerts (i : Fin 48) (f : Filter → Filter) : (s.updFilter i f).alerts = s.alerts := rfl
@[simp] theorem State.updFilter_alert (i : Fin 48) (f : Filter → Filter) (j : Fin 4) : (s.updFilter i f).alert j = s.alert j := rfl
@[simp] theorem State.updFilter_ports (i : Fin 48) (f : Filter → Filter) : (s.updFilter i f).ports = s.ports := rfl
@[simp] theorem State.updFilter_port (i : Fin 48) (f : Filter → Filter) (j : Fin 4) : (s.updFilter i f).port j = s.port j := rfl
/-- The record written, and every other one. -/
theorem State.updFilter_filter (i : Fin 48) (f : Filter → Filter) (j : Fin 48) : (s.updFilter i f).filter j = if j = i then f (s.filter i) else s.filter j := by
  by_cases h : j = i
  · subst h; simp [State.filter, State.updFilter]
  · have : i.val ≠ j.val := fun e => h (Fin.ext e.symm)
    simp [State.filter, State.updFilter, h, this]

/-- The record written. -/
@[simp] theorem State.updFilter_filter_self (i : Fin 48) (f : Filter → Filter) : (s.updFilter i f).filter i = f (s.filter i) := by simp [State.updFilter_filter]

/-! ## updAvail -/

@[simp] theorem State.updAvail_tick (i : Fin 64) (f : Avail → Avail) : (s.updAvail i f).tick = s.tick := rfl
@[simp] theorem State.updAvail_boundaryDue (i : Fin 64) (f : Avail → Avail) : (s.updAvail i f).boundaryDue = s.boundaryDue := rfl
@[simp] theorem State.updAvail_calendar (i : Fin 64) (f : Avail → Avail) : (s.updAvail i f).calendar = s.calendar := rfl
@[simp] theorem State.updAvail_calPhase (i : Fin 64) (f : Avail → Avail) : (s.updAvail i f).calPhase = s.calPhase := rfl
@[simp] theorem State.updAvail_orderQueue (i : Fin 64) (f : Avail → Avail) : (s.updAvail i f).orderQueue = s.orderQueue := rfl
@[simp] theorem State.updAvail_sending (i : Fin 64) (f : Avail → Avail) : (s.updAvail i f).sending = s.sending := rfl
@[simp] theorem State.updAvail_lateCount (i : Fin 64) (f : Avail → Avail) : (s.updAvail i f).lateCount = s.lateCount := rfl
@[simp] theorem State.updAvail_lastLate (i : Fin 64) (f : Avail → Avail) : (s.updAvail i f).lastLate = s.lastLate := rfl
@[simp] theorem State.updAvail_linkErrors (i : Fin 64) (f : Avail → Avail) : (s.updAvail i f).linkErrors = s.linkErrors := rfl
@[simp] theorem State.updAvail_lastLinkError (i : Fin 64) (f : Avail → Avail) : (s.updAvail i f).lastLinkError = s.lastLinkError := rfl
@[simp] theorem State.updAvail_fifo (i : Fin 64) (f : Avail → Avail) : (s.updAvail i f).fifo = s.fifo := rfl
@[simp] theorem State.updAvail_intakeErrors (i : Fin 64) (f : Avail → Avail) : (s.updAvail i f).intakeErrors = s.intakeErrors := rfl
@[simp] theorem State.updAvail_lastIntakeError (i : Fin 64) (f : Avail → Avail) : (s.updAvail i f).lastIntakeError = s.lastIntakeError := rfl
@[simp] theorem State.updAvail_overruns (i : Fin 64) (f : Avail → Avail) : (s.updAvail i f).overruns = s.overruns := rfl
@[simp] theorem State.updAvail_lastOverrun (i : Fin 64) (f : Avail → Avail) : (s.updAvail i f).lastOverrun = s.lastOverrun := rfl
@[simp] theorem State.updAvail_lines (i : Fin 64) (f : Avail → Avail) : (s.updAvail i f).lines = s.lines := rfl
@[simp] theorem State.updAvail_strays (i : Fin 64) (f : Avail → Avail) : (s.updAvail i f).strays = s.strays := rfl
@[simp] theorem State.updAvail_strayOverruns (i : Fin 64) (f : Avail → Avail) : (s.updAvail i f).strayOverruns = s.strayOverruns := rfl
@[simp] theorem State.updAvail_recency (i : Fin 64) (f : Avail → Avail) : (s.updAvail i f).recency = s.recency := rfl
@[simp] theorem State.updAvail_pending (i : Fin 64) (f : Avail → Avail) : (s.updAvail i f).pending = s.pending := rfl
@[simp] theorem State.updAvail_lanes (i : Fin 64) (f : Avail → Avail) : (s.updAvail i f).lanes = s.lanes := rfl
@[simp] theorem State.updAvail_lane (i : Fin 64) (f : Avail → Avail) (j : Fin 32) : (s.updAvail i f).lane j = s.lane j := rfl
@[simp] theorem State.updAvail_outstanding (i : Fin 64) (f : Avail → Avail) : (s.updAvail i f).outstanding = s.outstanding := rfl
@[simp] theorem State.updAvail_order (i : Fin 64) (f : Avail → Avail) (j : Fin 32) : (s.updAvail i f).order j = s.order j := rfl
@[simp] theorem State.updAvail_feedRefs (i : Fin 64) (f : Avail → Avail) : (s.updAvail i f).feedRefs = s.feedRefs := rfl
@[simp] theorem State.updAvail_feedRef (i : Fin 64) (f : Avail → Avail) (j : Fin 32) : (s.updAvail i f).feedRef j = s.feedRef j := rfl
@[simp] theorem State.updAvail_cells (i : Fin 64) (f : Avail → Avail) : (s.updAvail i f).cells = s.cells := rfl
@[simp] theorem State.updAvail_cell (i : Fin 64) (f : Avail → Avail) (j : Fin 12) : (s.updAvail i f).cell j = s.cell j := rfl
@[simp] theorem State.updAvail_pairs (i : Fin 64) (f : Avail → Avail) : (s.updAvail i f).pairs = s.pairs := rfl
@[simp] theorem State.updAvail_pair (i : Fin 64) (f : Avail → Avail) (j : Fin 6) : (s.updAvail i f).pair j = s.pair j := rfl
@[simp] theorem State.updAvail_outputs (i : Fin 64) (f : Avail → Avail) : (s.updAvail i f).outputs = s.outputs := rfl
@[simp] theorem State.updAvail_output (i : Fin 64) (f : Avail → Avail) (j : Fin 8) : (s.updAvail i f).output j = s.output j := rfl
@[simp] theorem State.updAvail_filters (i : Fin 64) (f : Avail → Avail) : (s.updAvail i f).filters = s.filters := rfl
@[simp] theorem State.updAvail_filter (i : Fin 64) (f : Avail → Avail) (j : Fin 48) : (s.updAvail i f).filter j = s.filter j := rfl
@[simp] theorem State.updAvail_standing (i : Fin 64) (f : Avail → Avail) : (s.updAvail i f).standing = s.standing := rfl
@[simp] theorem State.updAvail_place (i : Fin 64) (f : Avail → Avail) (l0 : Fin 32) (p0 : Fin 4) : (s.updAvail i f).place l0 p0 = s.place l0 p0 := rfl
@[simp] theorem State.updAvail_windows (i : Fin 64) (f : Avail → Avail) : (s.updAvail i f).windows = s.windows := rfl
@[simp] theorem State.updAvail_window (i : Fin 64) (f : Avail → Avail) (j : Fin 16) : (s.updAvail i f).window j = s.window j := rfl
@[simp] theorem State.updAvail_alerts (i : Fin 64) (f : Avail → Avail) : (s.updAvail i f).alerts = s.alerts := rfl
@[simp] theorem State.updAvail_alert (i : Fin 64) (f : Avail → Avail) (j : Fin 4) : (s.updAvail i f).alert j = s.alert j := rfl
@[simp] theorem State.updAvail_ports (i : Fin 64) (f : Avail → Avail) : (s.updAvail i f).ports = s.ports := rfl
@[simp] theorem State.updAvail_port (i : Fin 64) (f : Avail → Avail) (j : Fin 4) : (s.updAvail i f).port j = s.port j := rfl
/-- The record written, and every other one. -/
theorem State.updAvail_avail (i : Fin 64) (f : Avail → Avail) (j : Fin 64) : (s.updAvail i f).avail j = if j = i then f (s.avail i) else s.avail j := by
  by_cases h : j = i
  · subst h; simp [State.avail, State.updAvail]
  · have : i.val ≠ j.val := fun e => h (Fin.ext e.symm)
    simp [State.avail, State.updAvail, h, this]

/-- The record written. -/
@[simp] theorem State.updAvail_avail_self (i : Fin 64) (f : Avail → Avail) : (s.updAvail i f).avail i = f (s.avail i) := by simp [State.updAvail_avail]

/-! ## setPlace -/

@[simp] theorem State.setPlace_tick (l : Fin 32) (p : Fin 4) (x : Option Standing) : (s.setPlace l p x).tick = s.tick := rfl
@[simp] theorem State.setPlace_boundaryDue (l : Fin 32) (p : Fin 4) (x : Option Standing) : (s.setPlace l p x).boundaryDue = s.boundaryDue := rfl
@[simp] theorem State.setPlace_calendar (l : Fin 32) (p : Fin 4) (x : Option Standing) : (s.setPlace l p x).calendar = s.calendar := rfl
@[simp] theorem State.setPlace_calPhase (l : Fin 32) (p : Fin 4) (x : Option Standing) : (s.setPlace l p x).calPhase = s.calPhase := rfl
@[simp] theorem State.setPlace_orderQueue (l : Fin 32) (p : Fin 4) (x : Option Standing) : (s.setPlace l p x).orderQueue = s.orderQueue := rfl
@[simp] theorem State.setPlace_sending (l : Fin 32) (p : Fin 4) (x : Option Standing) : (s.setPlace l p x).sending = s.sending := rfl
@[simp] theorem State.setPlace_lateCount (l : Fin 32) (p : Fin 4) (x : Option Standing) : (s.setPlace l p x).lateCount = s.lateCount := rfl
@[simp] theorem State.setPlace_lastLate (l : Fin 32) (p : Fin 4) (x : Option Standing) : (s.setPlace l p x).lastLate = s.lastLate := rfl
@[simp] theorem State.setPlace_linkErrors (l : Fin 32) (p : Fin 4) (x : Option Standing) : (s.setPlace l p x).linkErrors = s.linkErrors := rfl
@[simp] theorem State.setPlace_lastLinkError (l : Fin 32) (p : Fin 4) (x : Option Standing) : (s.setPlace l p x).lastLinkError = s.lastLinkError := rfl
@[simp] theorem State.setPlace_fifo (l : Fin 32) (p : Fin 4) (x : Option Standing) : (s.setPlace l p x).fifo = s.fifo := rfl
@[simp] theorem State.setPlace_intakeErrors (l : Fin 32) (p : Fin 4) (x : Option Standing) : (s.setPlace l p x).intakeErrors = s.intakeErrors := rfl
@[simp] theorem State.setPlace_lastIntakeError (l : Fin 32) (p : Fin 4) (x : Option Standing) : (s.setPlace l p x).lastIntakeError = s.lastIntakeError := rfl
@[simp] theorem State.setPlace_overruns (l : Fin 32) (p : Fin 4) (x : Option Standing) : (s.setPlace l p x).overruns = s.overruns := rfl
@[simp] theorem State.setPlace_lastOverrun (l : Fin 32) (p : Fin 4) (x : Option Standing) : (s.setPlace l p x).lastOverrun = s.lastOverrun := rfl
@[simp] theorem State.setPlace_lines (l : Fin 32) (p : Fin 4) (x : Option Standing) : (s.setPlace l p x).lines = s.lines := rfl
@[simp] theorem State.setPlace_strays (l : Fin 32) (p : Fin 4) (x : Option Standing) : (s.setPlace l p x).strays = s.strays := rfl
@[simp] theorem State.setPlace_strayOverruns (l : Fin 32) (p : Fin 4) (x : Option Standing) : (s.setPlace l p x).strayOverruns = s.strayOverruns := rfl
@[simp] theorem State.setPlace_recency (l : Fin 32) (p : Fin 4) (x : Option Standing) : (s.setPlace l p x).recency = s.recency := rfl
@[simp] theorem State.setPlace_pending (l : Fin 32) (p : Fin 4) (x : Option Standing) : (s.setPlace l p x).pending = s.pending := rfl
@[simp] theorem State.setPlace_lanes (l : Fin 32) (p : Fin 4) (x : Option Standing) : (s.setPlace l p x).lanes = s.lanes := rfl
@[simp] theorem State.setPlace_lane (l : Fin 32) (p : Fin 4) (x : Option Standing) (j : Fin 32) : (s.setPlace l p x).lane j = s.lane j := rfl
@[simp] theorem State.setPlace_outstanding (l : Fin 32) (p : Fin 4) (x : Option Standing) : (s.setPlace l p x).outstanding = s.outstanding := rfl
@[simp] theorem State.setPlace_order (l : Fin 32) (p : Fin 4) (x : Option Standing) (j : Fin 32) : (s.setPlace l p x).order j = s.order j := rfl
@[simp] theorem State.setPlace_feedRefs (l : Fin 32) (p : Fin 4) (x : Option Standing) : (s.setPlace l p x).feedRefs = s.feedRefs := rfl
@[simp] theorem State.setPlace_feedRef (l : Fin 32) (p : Fin 4) (x : Option Standing) (j : Fin 32) : (s.setPlace l p x).feedRef j = s.feedRef j := rfl
@[simp] theorem State.setPlace_cells (l : Fin 32) (p : Fin 4) (x : Option Standing) : (s.setPlace l p x).cells = s.cells := rfl
@[simp] theorem State.setPlace_cell (l : Fin 32) (p : Fin 4) (x : Option Standing) (j : Fin 12) : (s.setPlace l p x).cell j = s.cell j := rfl
@[simp] theorem State.setPlace_pairs (l : Fin 32) (p : Fin 4) (x : Option Standing) : (s.setPlace l p x).pairs = s.pairs := rfl
@[simp] theorem State.setPlace_pair (l : Fin 32) (p : Fin 4) (x : Option Standing) (j : Fin 6) : (s.setPlace l p x).pair j = s.pair j := rfl
@[simp] theorem State.setPlace_outputs (l : Fin 32) (p : Fin 4) (x : Option Standing) : (s.setPlace l p x).outputs = s.outputs := rfl
@[simp] theorem State.setPlace_output (l : Fin 32) (p : Fin 4) (x : Option Standing) (j : Fin 8) : (s.setPlace l p x).output j = s.output j := rfl
@[simp] theorem State.setPlace_filters (l : Fin 32) (p : Fin 4) (x : Option Standing) : (s.setPlace l p x).filters = s.filters := rfl
@[simp] theorem State.setPlace_filter (l : Fin 32) (p : Fin 4) (x : Option Standing) (j : Fin 48) : (s.setPlace l p x).filter j = s.filter j := rfl
@[simp] theorem State.setPlace_avails (l : Fin 32) (p : Fin 4) (x : Option Standing) : (s.setPlace l p x).avails = s.avails := rfl
@[simp] theorem State.setPlace_avail (l : Fin 32) (p : Fin 4) (x : Option Standing) (j : Fin 64) : (s.setPlace l p x).avail j = s.avail j := rfl
@[simp] theorem State.setPlace_windows (l : Fin 32) (p : Fin 4) (x : Option Standing) : (s.setPlace l p x).windows = s.windows := rfl
@[simp] theorem State.setPlace_window (l : Fin 32) (p : Fin 4) (x : Option Standing) (j : Fin 16) : (s.setPlace l p x).window j = s.window j := rfl
@[simp] theorem State.setPlace_alerts (l : Fin 32) (p : Fin 4) (x : Option Standing) : (s.setPlace l p x).alerts = s.alerts := rfl
@[simp] theorem State.setPlace_alert (l : Fin 32) (p : Fin 4) (x : Option Standing) (j : Fin 4) : (s.setPlace l p x).alert j = s.alert j := rfl
@[simp] theorem State.setPlace_ports (l : Fin 32) (p : Fin 4) (x : Option Standing) : (s.setPlace l p x).ports = s.ports := rfl
@[simp] theorem State.setPlace_port (l : Fin 32) (p : Fin 4) (x : Option Standing) (j : Fin 4) : (s.setPlace l p x).port j = s.port j := rfl
/-- The place written, and every other place. -/
theorem State.setPlace_place (l : Fin 32) (p : Fin 4) (x : Option Standing) (l0 : Fin 32) (p0 : Fin 4) :
    (s.setPlace l p x).place l0 p0 = if l0 = l ∧ p0 = p then x else s.place l0 p0 := by
  by_cases hl : l0 = l
  · subst hl
    by_cases hp : p0 = p
    · subst hp; simp [State.place, State.setPlace]
    · have : p.val ≠ p0.val := fun h => hp (Fin.ext h.symm)
      simp [State.place, State.setPlace, hp, this]
  · have : l.val ≠ l0.val := fun h => hl (Fin.ext h.symm)
    simp [State.place, State.setPlace, hl, this]

/-! ## updWindow -/

@[simp] theorem State.updWindow_tick (w : Fin 16) (f : Window → Window) : (s.updWindow w f).tick = s.tick := rfl
@[simp] theorem State.updWindow_boundaryDue (w : Fin 16) (f : Window → Window) : (s.updWindow w f).boundaryDue = s.boundaryDue := rfl
@[simp] theorem State.updWindow_calendar (w : Fin 16) (f : Window → Window) : (s.updWindow w f).calendar = s.calendar := rfl
@[simp] theorem State.updWindow_calPhase (w : Fin 16) (f : Window → Window) : (s.updWindow w f).calPhase = s.calPhase := rfl
@[simp] theorem State.updWindow_orderQueue (w : Fin 16) (f : Window → Window) : (s.updWindow w f).orderQueue = s.orderQueue := rfl
@[simp] theorem State.updWindow_sending (w : Fin 16) (f : Window → Window) : (s.updWindow w f).sending = s.sending := rfl
@[simp] theorem State.updWindow_lateCount (w : Fin 16) (f : Window → Window) : (s.updWindow w f).lateCount = s.lateCount := rfl
@[simp] theorem State.updWindow_lastLate (w : Fin 16) (f : Window → Window) : (s.updWindow w f).lastLate = s.lastLate := rfl
@[simp] theorem State.updWindow_linkErrors (w : Fin 16) (f : Window → Window) : (s.updWindow w f).linkErrors = s.linkErrors := rfl
@[simp] theorem State.updWindow_lastLinkError (w : Fin 16) (f : Window → Window) : (s.updWindow w f).lastLinkError = s.lastLinkError := rfl
@[simp] theorem State.updWindow_fifo (w : Fin 16) (f : Window → Window) : (s.updWindow w f).fifo = s.fifo := rfl
@[simp] theorem State.updWindow_intakeErrors (w : Fin 16) (f : Window → Window) : (s.updWindow w f).intakeErrors = s.intakeErrors := rfl
@[simp] theorem State.updWindow_lastIntakeError (w : Fin 16) (f : Window → Window) : (s.updWindow w f).lastIntakeError = s.lastIntakeError := rfl
@[simp] theorem State.updWindow_overruns (w : Fin 16) (f : Window → Window) : (s.updWindow w f).overruns = s.overruns := rfl
@[simp] theorem State.updWindow_lastOverrun (w : Fin 16) (f : Window → Window) : (s.updWindow w f).lastOverrun = s.lastOverrun := rfl
@[simp] theorem State.updWindow_lines (w : Fin 16) (f : Window → Window) : (s.updWindow w f).lines = s.lines := rfl
@[simp] theorem State.updWindow_strays (w : Fin 16) (f : Window → Window) : (s.updWindow w f).strays = s.strays := rfl
@[simp] theorem State.updWindow_strayOverruns (w : Fin 16) (f : Window → Window) : (s.updWindow w f).strayOverruns = s.strayOverruns := rfl
@[simp] theorem State.updWindow_recency (w : Fin 16) (f : Window → Window) : (s.updWindow w f).recency = s.recency := rfl
@[simp] theorem State.updWindow_pending (w : Fin 16) (f : Window → Window) : (s.updWindow w f).pending = s.pending := rfl
@[simp] theorem State.updWindow_lanes (w : Fin 16) (f : Window → Window) : (s.updWindow w f).lanes = s.lanes := rfl
@[simp] theorem State.updWindow_lane (w : Fin 16) (f : Window → Window) (j : Fin 32) : (s.updWindow w f).lane j = s.lane j := rfl
@[simp] theorem State.updWindow_outstanding (w : Fin 16) (f : Window → Window) : (s.updWindow w f).outstanding = s.outstanding := rfl
@[simp] theorem State.updWindow_order (w : Fin 16) (f : Window → Window) (j : Fin 32) : (s.updWindow w f).order j = s.order j := rfl
@[simp] theorem State.updWindow_feedRefs (w : Fin 16) (f : Window → Window) : (s.updWindow w f).feedRefs = s.feedRefs := rfl
@[simp] theorem State.updWindow_feedRef (w : Fin 16) (f : Window → Window) (j : Fin 32) : (s.updWindow w f).feedRef j = s.feedRef j := rfl
@[simp] theorem State.updWindow_cells (w : Fin 16) (f : Window → Window) : (s.updWindow w f).cells = s.cells := rfl
@[simp] theorem State.updWindow_cell (w : Fin 16) (f : Window → Window) (j : Fin 12) : (s.updWindow w f).cell j = s.cell j := rfl
@[simp] theorem State.updWindow_pairs (w : Fin 16) (f : Window → Window) : (s.updWindow w f).pairs = s.pairs := rfl
@[simp] theorem State.updWindow_pair (w : Fin 16) (f : Window → Window) (j : Fin 6) : (s.updWindow w f).pair j = s.pair j := rfl
@[simp] theorem State.updWindow_outputs (w : Fin 16) (f : Window → Window) : (s.updWindow w f).outputs = s.outputs := rfl
@[simp] theorem State.updWindow_output (w : Fin 16) (f : Window → Window) (j : Fin 8) : (s.updWindow w f).output j = s.output j := rfl
@[simp] theorem State.updWindow_filters (w : Fin 16) (f : Window → Window) : (s.updWindow w f).filters = s.filters := rfl
@[simp] theorem State.updWindow_filter (w : Fin 16) (f : Window → Window) (j : Fin 48) : (s.updWindow w f).filter j = s.filter j := rfl
@[simp] theorem State.updWindow_avails (w : Fin 16) (f : Window → Window) : (s.updWindow w f).avails = s.avails := rfl
@[simp] theorem State.updWindow_avail (w : Fin 16) (f : Window → Window) (j : Fin 64) : (s.updWindow w f).avail j = s.avail j := rfl
@[simp] theorem State.updWindow_standing (w : Fin 16) (f : Window → Window) : (s.updWindow w f).standing = s.standing := rfl
@[simp] theorem State.updWindow_place (w : Fin 16) (f : Window → Window) (l0 : Fin 32) (p0 : Fin 4) : (s.updWindow w f).place l0 p0 = s.place l0 p0 := rfl
@[simp] theorem State.updWindow_alerts (w : Fin 16) (f : Window → Window) : (s.updWindow w f).alerts = s.alerts := rfl
@[simp] theorem State.updWindow_alert (w : Fin 16) (f : Window → Window) (j : Fin 4) : (s.updWindow w f).alert j = s.alert j := rfl
@[simp] theorem State.updWindow_ports (w : Fin 16) (f : Window → Window) : (s.updWindow w f).ports = s.ports := rfl
@[simp] theorem State.updWindow_port (w : Fin 16) (f : Window → Window) (j : Fin 4) : (s.updWindow w f).port j = s.port j := rfl
/-- The record written, and every other one. -/
theorem State.updWindow_window (w : Fin 16) (f : Window → Window) (j : Fin 16) : (s.updWindow w f).window j = if j = w then f (s.window w) else s.window j := by
  by_cases h : j = w
  · subst h; simp [State.window, State.updWindow]
  · have : w.val ≠ j.val := fun e => h (Fin.ext e.symm)
    simp [State.window, State.updWindow, h, this]

/-- The record written. -/
@[simp] theorem State.updWindow_window_self (w : Fin 16) (f : Window → Window) : (s.updWindow w f).window w = f (s.window w) := by simp [State.updWindow_window]

/-! ## setAlert -/

@[simp] theorem State.setAlert_tick (a : Fin 4) (x : Option Alert) : (s.setAlert a x).tick = s.tick := rfl
@[simp] theorem State.setAlert_boundaryDue (a : Fin 4) (x : Option Alert) : (s.setAlert a x).boundaryDue = s.boundaryDue := rfl
@[simp] theorem State.setAlert_calendar (a : Fin 4) (x : Option Alert) : (s.setAlert a x).calendar = s.calendar := rfl
@[simp] theorem State.setAlert_calPhase (a : Fin 4) (x : Option Alert) : (s.setAlert a x).calPhase = s.calPhase := rfl
@[simp] theorem State.setAlert_orderQueue (a : Fin 4) (x : Option Alert) : (s.setAlert a x).orderQueue = s.orderQueue := rfl
@[simp] theorem State.setAlert_sending (a : Fin 4) (x : Option Alert) : (s.setAlert a x).sending = s.sending := rfl
@[simp] theorem State.setAlert_lateCount (a : Fin 4) (x : Option Alert) : (s.setAlert a x).lateCount = s.lateCount := rfl
@[simp] theorem State.setAlert_lastLate (a : Fin 4) (x : Option Alert) : (s.setAlert a x).lastLate = s.lastLate := rfl
@[simp] theorem State.setAlert_linkErrors (a : Fin 4) (x : Option Alert) : (s.setAlert a x).linkErrors = s.linkErrors := rfl
@[simp] theorem State.setAlert_lastLinkError (a : Fin 4) (x : Option Alert) : (s.setAlert a x).lastLinkError = s.lastLinkError := rfl
@[simp] theorem State.setAlert_fifo (a : Fin 4) (x : Option Alert) : (s.setAlert a x).fifo = s.fifo := rfl
@[simp] theorem State.setAlert_intakeErrors (a : Fin 4) (x : Option Alert) : (s.setAlert a x).intakeErrors = s.intakeErrors := rfl
@[simp] theorem State.setAlert_lastIntakeError (a : Fin 4) (x : Option Alert) : (s.setAlert a x).lastIntakeError = s.lastIntakeError := rfl
@[simp] theorem State.setAlert_overruns (a : Fin 4) (x : Option Alert) : (s.setAlert a x).overruns = s.overruns := rfl
@[simp] theorem State.setAlert_lastOverrun (a : Fin 4) (x : Option Alert) : (s.setAlert a x).lastOverrun = s.lastOverrun := rfl
@[simp] theorem State.setAlert_lines (a : Fin 4) (x : Option Alert) : (s.setAlert a x).lines = s.lines := rfl
@[simp] theorem State.setAlert_strays (a : Fin 4) (x : Option Alert) : (s.setAlert a x).strays = s.strays := rfl
@[simp] theorem State.setAlert_strayOverruns (a : Fin 4) (x : Option Alert) : (s.setAlert a x).strayOverruns = s.strayOverruns := rfl
@[simp] theorem State.setAlert_recency (a : Fin 4) (x : Option Alert) : (s.setAlert a x).recency = s.recency := rfl
@[simp] theorem State.setAlert_pending (a : Fin 4) (x : Option Alert) : (s.setAlert a x).pending = s.pending := rfl
@[simp] theorem State.setAlert_lanes (a : Fin 4) (x : Option Alert) : (s.setAlert a x).lanes = s.lanes := rfl
@[simp] theorem State.setAlert_lane (a : Fin 4) (x : Option Alert) (j : Fin 32) : (s.setAlert a x).lane j = s.lane j := rfl
@[simp] theorem State.setAlert_outstanding (a : Fin 4) (x : Option Alert) : (s.setAlert a x).outstanding = s.outstanding := rfl
@[simp] theorem State.setAlert_order (a : Fin 4) (x : Option Alert) (j : Fin 32) : (s.setAlert a x).order j = s.order j := rfl
@[simp] theorem State.setAlert_feedRefs (a : Fin 4) (x : Option Alert) : (s.setAlert a x).feedRefs = s.feedRefs := rfl
@[simp] theorem State.setAlert_feedRef (a : Fin 4) (x : Option Alert) (j : Fin 32) : (s.setAlert a x).feedRef j = s.feedRef j := rfl
@[simp] theorem State.setAlert_cells (a : Fin 4) (x : Option Alert) : (s.setAlert a x).cells = s.cells := rfl
@[simp] theorem State.setAlert_cell (a : Fin 4) (x : Option Alert) (j : Fin 12) : (s.setAlert a x).cell j = s.cell j := rfl
@[simp] theorem State.setAlert_pairs (a : Fin 4) (x : Option Alert) : (s.setAlert a x).pairs = s.pairs := rfl
@[simp] theorem State.setAlert_pair (a : Fin 4) (x : Option Alert) (j : Fin 6) : (s.setAlert a x).pair j = s.pair j := rfl
@[simp] theorem State.setAlert_outputs (a : Fin 4) (x : Option Alert) : (s.setAlert a x).outputs = s.outputs := rfl
@[simp] theorem State.setAlert_output (a : Fin 4) (x : Option Alert) (j : Fin 8) : (s.setAlert a x).output j = s.output j := rfl
@[simp] theorem State.setAlert_filters (a : Fin 4) (x : Option Alert) : (s.setAlert a x).filters = s.filters := rfl
@[simp] theorem State.setAlert_filter (a : Fin 4) (x : Option Alert) (j : Fin 48) : (s.setAlert a x).filter j = s.filter j := rfl
@[simp] theorem State.setAlert_avails (a : Fin 4) (x : Option Alert) : (s.setAlert a x).avails = s.avails := rfl
@[simp] theorem State.setAlert_avail (a : Fin 4) (x : Option Alert) (j : Fin 64) : (s.setAlert a x).avail j = s.avail j := rfl
@[simp] theorem State.setAlert_standing (a : Fin 4) (x : Option Alert) : (s.setAlert a x).standing = s.standing := rfl
@[simp] theorem State.setAlert_place (a : Fin 4) (x : Option Alert) (l0 : Fin 32) (p0 : Fin 4) : (s.setAlert a x).place l0 p0 = s.place l0 p0 := rfl
@[simp] theorem State.setAlert_windows (a : Fin 4) (x : Option Alert) : (s.setAlert a x).windows = s.windows := rfl
@[simp] theorem State.setAlert_window (a : Fin 4) (x : Option Alert) (j : Fin 16) : (s.setAlert a x).window j = s.window j := rfl
@[simp] theorem State.setAlert_ports (a : Fin 4) (x : Option Alert) : (s.setAlert a x).ports = s.ports := rfl
@[simp] theorem State.setAlert_port (a : Fin 4) (x : Option Alert) (j : Fin 4) : (s.setAlert a x).port j = s.port j := rfl
/-- The record written, and every other one. -/
theorem State.setAlert_alert (a : Fin 4) (x : Option Alert) (j : Fin 4) : (s.setAlert a x).alert j = if j = a then x else s.alert j := by
  by_cases h : j = a
  · subst h; simp [State.alert, State.setAlert]
  · have : a.val ≠ j.val := fun e => h (Fin.ext e.symm)
    simp [State.alert, State.setAlert, h, this]

/-- The record written. -/
@[simp] theorem State.setAlert_alert_self (a : Fin 4) (x : Option Alert) : (s.setAlert a x).alert a = x := by simp [State.setAlert_alert]

/-! ## updPort -/

@[simp] theorem State.updPort_tick (p : Fin 4) (f : Port → Port) : (s.updPort p f).tick = s.tick := rfl
@[simp] theorem State.updPort_boundaryDue (p : Fin 4) (f : Port → Port) : (s.updPort p f).boundaryDue = s.boundaryDue := rfl
@[simp] theorem State.updPort_calendar (p : Fin 4) (f : Port → Port) : (s.updPort p f).calendar = s.calendar := rfl
@[simp] theorem State.updPort_calPhase (p : Fin 4) (f : Port → Port) : (s.updPort p f).calPhase = s.calPhase := rfl
@[simp] theorem State.updPort_orderQueue (p : Fin 4) (f : Port → Port) : (s.updPort p f).orderQueue = s.orderQueue := rfl
@[simp] theorem State.updPort_sending (p : Fin 4) (f : Port → Port) : (s.updPort p f).sending = s.sending := rfl
@[simp] theorem State.updPort_lateCount (p : Fin 4) (f : Port → Port) : (s.updPort p f).lateCount = s.lateCount := rfl
@[simp] theorem State.updPort_lastLate (p : Fin 4) (f : Port → Port) : (s.updPort p f).lastLate = s.lastLate := rfl
@[simp] theorem State.updPort_linkErrors (p : Fin 4) (f : Port → Port) : (s.updPort p f).linkErrors = s.linkErrors := rfl
@[simp] theorem State.updPort_lastLinkError (p : Fin 4) (f : Port → Port) : (s.updPort p f).lastLinkError = s.lastLinkError := rfl
@[simp] theorem State.updPort_fifo (p : Fin 4) (f : Port → Port) : (s.updPort p f).fifo = s.fifo := rfl
@[simp] theorem State.updPort_intakeErrors (p : Fin 4) (f : Port → Port) : (s.updPort p f).intakeErrors = s.intakeErrors := rfl
@[simp] theorem State.updPort_lastIntakeError (p : Fin 4) (f : Port → Port) : (s.updPort p f).lastIntakeError = s.lastIntakeError := rfl
@[simp] theorem State.updPort_overruns (p : Fin 4) (f : Port → Port) : (s.updPort p f).overruns = s.overruns := rfl
@[simp] theorem State.updPort_lastOverrun (p : Fin 4) (f : Port → Port) : (s.updPort p f).lastOverrun = s.lastOverrun := rfl
@[simp] theorem State.updPort_lines (p : Fin 4) (f : Port → Port) : (s.updPort p f).lines = s.lines := rfl
@[simp] theorem State.updPort_strays (p : Fin 4) (f : Port → Port) : (s.updPort p f).strays = s.strays := rfl
@[simp] theorem State.updPort_strayOverruns (p : Fin 4) (f : Port → Port) : (s.updPort p f).strayOverruns = s.strayOverruns := rfl
@[simp] theorem State.updPort_recency (p : Fin 4) (f : Port → Port) : (s.updPort p f).recency = s.recency := rfl
@[simp] theorem State.updPort_pending (p : Fin 4) (f : Port → Port) : (s.updPort p f).pending = s.pending := rfl
@[simp] theorem State.updPort_lanes (p : Fin 4) (f : Port → Port) : (s.updPort p f).lanes = s.lanes := rfl
@[simp] theorem State.updPort_lane (p : Fin 4) (f : Port → Port) (j : Fin 32) : (s.updPort p f).lane j = s.lane j := rfl
@[simp] theorem State.updPort_outstanding (p : Fin 4) (f : Port → Port) : (s.updPort p f).outstanding = s.outstanding := rfl
@[simp] theorem State.updPort_order (p : Fin 4) (f : Port → Port) (j : Fin 32) : (s.updPort p f).order j = s.order j := rfl
@[simp] theorem State.updPort_feedRefs (p : Fin 4) (f : Port → Port) : (s.updPort p f).feedRefs = s.feedRefs := rfl
@[simp] theorem State.updPort_feedRef (p : Fin 4) (f : Port → Port) (j : Fin 32) : (s.updPort p f).feedRef j = s.feedRef j := rfl
@[simp] theorem State.updPort_cells (p : Fin 4) (f : Port → Port) : (s.updPort p f).cells = s.cells := rfl
@[simp] theorem State.updPort_cell (p : Fin 4) (f : Port → Port) (j : Fin 12) : (s.updPort p f).cell j = s.cell j := rfl
@[simp] theorem State.updPort_pairs (p : Fin 4) (f : Port → Port) : (s.updPort p f).pairs = s.pairs := rfl
@[simp] theorem State.updPort_pair (p : Fin 4) (f : Port → Port) (j : Fin 6) : (s.updPort p f).pair j = s.pair j := rfl
@[simp] theorem State.updPort_outputs (p : Fin 4) (f : Port → Port) : (s.updPort p f).outputs = s.outputs := rfl
@[simp] theorem State.updPort_output (p : Fin 4) (f : Port → Port) (j : Fin 8) : (s.updPort p f).output j = s.output j := rfl
@[simp] theorem State.updPort_filters (p : Fin 4) (f : Port → Port) : (s.updPort p f).filters = s.filters := rfl
@[simp] theorem State.updPort_filter (p : Fin 4) (f : Port → Port) (j : Fin 48) : (s.updPort p f).filter j = s.filter j := rfl
@[simp] theorem State.updPort_avails (p : Fin 4) (f : Port → Port) : (s.updPort p f).avails = s.avails := rfl
@[simp] theorem State.updPort_avail (p : Fin 4) (f : Port → Port) (j : Fin 64) : (s.updPort p f).avail j = s.avail j := rfl
@[simp] theorem State.updPort_standing (p : Fin 4) (f : Port → Port) : (s.updPort p f).standing = s.standing := rfl
@[simp] theorem State.updPort_place (p : Fin 4) (f : Port → Port) (l0 : Fin 32) (p0 : Fin 4) : (s.updPort p f).place l0 p0 = s.place l0 p0 := rfl
@[simp] theorem State.updPort_windows (p : Fin 4) (f : Port → Port) : (s.updPort p f).windows = s.windows := rfl
@[simp] theorem State.updPort_window (p : Fin 4) (f : Port → Port) (j : Fin 16) : (s.updPort p f).window j = s.window j := rfl
@[simp] theorem State.updPort_alerts (p : Fin 4) (f : Port → Port) : (s.updPort p f).alerts = s.alerts := rfl
@[simp] theorem State.updPort_alert (p : Fin 4) (f : Port → Port) (j : Fin 4) : (s.updPort p f).alert j = s.alert j := rfl
/-- The record written, and every other one. -/
theorem State.updPort_port (p : Fin 4) (f : Port → Port) (j : Fin 4) : (s.updPort p f).port j = if j = p then f (s.port p) else s.port j := by
  by_cases h : j = p
  · subst h; simp [State.port, State.updPort]
  · have : p.val ≠ j.val := fun e => h (Fin.ext e.symm)
    simp [State.port, State.updPort, h, this]

/-- The record written. -/
@[simp] theorem State.updPort_port_self (p : Fin 4) (f : Port → Port) : (s.updPort p f).port p = f (s.port p) := by simp [State.updPort_port]

end Sys2Proof.Machine
end

