-- ==== Sys2Proof/Laws/Ports.lean ====
section
/-! SUPPORT. What the operations of the client ports can do: raising a notice, counting a frame, answering and taking a request. -/

namespace Sys2Proof.Machine

/-! ## Raising a notice -/

/-- A raised notice changes port records only. -/
theorem raise_frame (n : Notice) (a : List (Fin 4)) (s : State) : raise n a s = { s with ports := (raise n a s).ports } := rfl

/-- Every port has its part in a raised notice, and nothing else (R192). -/
theorem raise_port (n : Notice) (a : List (Fin 4)) (s : State) (p : Fin 4) :
    (raise n a s).port p = (s.port p).receive n (a.contains p) := by
  fin_cases p <;> rfl

@[simp] theorem raise_tick (n : Notice) (a : List (Fin 4)) (s : State) : (raise n a s).tick = s.tick := rfl
@[simp] theorem raise_lane (n : Notice) (a : List (Fin 4)) (s : State) (l : Fin 32) : (raise n a s).lane l = s.lane l := rfl
@[simp] theorem raise_order (n : Notice) (a : List (Fin 4)) (s : State) (l : Fin 32) : (raise n a s).order l = s.order l := rfl
@[simp] theorem raise_cell (n : Notice) (a : List (Fin 4)) (s : State) (i : Fin 12) : (raise n a s).cell i = s.cell i := rfl
@[simp] theorem raise_pair (n : Notice) (a : List (Fin 4)) (s : State) (k : Fin 6) : (raise n a s).pair k = s.pair k := rfl
@[simp] theorem raise_filter (n : Notice) (a : List (Fin 4)) (s : State) (i : Fin 48) : (raise n a s).filter i = s.filter i := rfl
@[simp] theorem raise_avail (n : Notice) (a : List (Fin 4)) (s : State) (i : Fin 64) : (raise n a s).avail i = s.avail i := rfl
@[simp] theorem raise_place (n : Notice) (a : List (Fin 4)) (s : State) (l : Fin 32) (p : Fin 4) :
    (raise n a s).place l p = s.place l p := rfl
@[simp] theorem raise_window (n : Notice) (a : List (Fin 4)) (s : State) (w : Fin 16) : (raise n a s).window w = s.window w := rfl
@[simp] theorem raise_alert (n : Notice) (a : List (Fin 4)) (s : State) (i : Fin 4) : (raise n a s).alert i = s.alert i := rfl
@[simp] theorem raise_orderQueue (n : Notice) (a : List (Fin 4)) (s : State) : (raise n a s).orderQueue = s.orderQueue := rfl
@[simp] theorem raise_recency (n : Notice) (a : List (Fin 4)) (s : State) : (raise n a s).recency = s.recency := rfl
@[simp] theorem raise_pending (n : Notice) (a : List (Fin 4)) (s : State) : (raise n a s).pending = s.pending := rfl

/-- A port's part in a notice touches its queue and its dropped-notice count only. -/
theorem Port.receive_frame (P : Port) (n : Notice) (a : Bool) :
    P.receive n a = { P with queue := (P.receive n a).queue, dropped := (P.receive n a).dropped } := by
  unfold Port.receive; split <;> [rfl; split <;> [rfl; split <;> rfl]]

@[simp] theorem Port.receive_role (P : Port) (n : Notice) (a : Bool) : (P.receive n a).role = P.role := by rw [P.receive_frame]
@[simp] theorem Port.receive_state (P : Port) (n : Notice) (a : Bool) : (P.receive n a).state = P.state := by rw [P.receive_frame]
@[simp] theorem Port.receive_errors (P : Port) (n : Notice) (a : Bool) : (P.receive n a).errors = P.errors := by rw [P.receive_frame]
@[simp] theorem Port.receive_reply (P : Port) (n : Notice) (a : Bool) : (P.receive n a).reply = P.reply := by rw [P.receive_frame]
@[simp] theorem Port.receive_mask (P : Port) (n : Notice) (a : Bool) : (P.receive n a).mask = P.mask := by rw [P.receive_frame]
@[simp] theorem Port.receive_quiet (P : Port) (n : Notice) (a : Bool) : (P.receive n a).quiet = P.quiet := by rw [P.receive_frame]

/-- What a port's part in a notice comes to (R192). -/
theorem Port.receive_cases (P : Port) (n : Notice) (a : Bool) :
    P.receive n a = P ∨
      (P.state ≠ .detached ∧ 16 ≤ P.queue.length ∧ P.receive n a = { P with dropped := satInc 255 P.dropped }) ∨
      (P.state ≠ .detached ∧ P.queue.length < 16 ∧ P.receive n a = { P with queue := P.queue ++ [n] }) := by
  unfold Port.receive
  split
  · exact .inl rfl
  · split
    · exact .inl rfl
    · rename_i hd
      split
      · rename_i hq; exact .inr (.inl ⟨hd, hq, rfl⟩)
      · rename_i hq; exact .inr (.inr ⟨hd, Nat.lt_of_not_le hq, rfl⟩)

/-! ## Counting a frame -/

/-- Setting an error count changes port records only. -/
theorem setErrors_frame (p : Fin 4) (n : Nat) (s : State) : setErrors p n s = { s with ports := (setErrors p n s).ports } := by
  unfold setErrors; dsimp only; split <;> rfl

/-- A well-formed frame's count changes port records only. -/
theorem goodFrame_frame (p : Fin 4) (s : State) : goodFrame p s = { s with ports := (goodFrame p s).ports } := by
  unfold goodFrame; dsimp only; split
  · rfl
  · rw [setErrors_frame]; rfl

/-- What setting an error count does to its port (R189): its count, its state, and a PORT_STATE in its queue on a change. -/
theorem setErrors_port_self (p : Fin 4) (n : Nat) (s : State) :
    (setErrors p n s).port p =
      let P := s.port p
      let Q : Port := { P with errors := n, state := portStateAfter P.state n }
      if portStateAfter P.state n = P.state then Q
      else Q.receive (.portState p P.state (portStateAfter P.state n) n .frame s.tick) true := by
  unfold setErrors; dsimp only; split <;> simp [raise_port]

/-- What setting an error count does to another port: it may receive PORT_STATE (R196). -/
theorem setErrors_port_other (p q : Fin 4) (n : Nat) (s : State) (h : q ≠ p) :
    (setErrors p n s).port q =
      if portStateAfter (s.port p).state n = (s.port p).state then s.port q
      else (s.port q).receive (.portState p (s.port p).state (portStateAfter (s.port p).state n) n .frame s.tick) false := by
  unfold setErrors; dsimp only; split <;> simp [raise_port, State.updPort_port, h]

/-- A well-formed frame that does not change its port's state takes one off the count and ends the select. -/
theorem goodFrame_steady (p : Fin 4) (s : State) (hd : (s.port p).state ≠ .detached)
    (h : portStateAfter (s.port p).state ((s.port p).errors - 1) = (s.port p).state) :
    goodFrame p s = s.updPort p fun P => { P with chosen := none, errors := P.errors - 1 } := by
  unfold goodFrame; dsimp only
  rw [if_neg (by simpa using hd)]
  unfold setErrors; dsimp only
  rw [if_pos (by simpa using h)]
  have h' : portStateAfter s.ports[p.val].state (s.ports[p.val].errors - 1) = s.ports[p.val].state := h
  simp [State.updPort, State.port, h']

/-- A well-formed frame on a DETACHED port leaves its count (R188, step 1). -/
theorem goodFrame_detached (p : Fin 4) (s : State) (hd : (s.port p).state = .detached) :
    goodFrame p s = s.updPort p fun P => { P with chosen := none } := by
  unfold goodFrame; dsimp only; rw [if_pos (by simpa using hd)]

@[simp] theorem goodFrame_role (p q : Fin 4) (s : State) : ((goodFrame p s).port q).role = (s.port q).role := by
  unfold goodFrame; dsimp only; split
  · by_cases h : q = p
    · subst h; simp
    · simp [State.updPort_port, h]
  · by_cases h : q = p
    · subst h; rw [setErrors_port_self]; dsimp only; split <;> simp
    · rw [setErrors_port_other _ _ _ _ h]; split <;> simp [State.updPort_port, h]

@[simp] theorem goodFrame_reply (p q : Fin 4) (s : State) : ((goodFrame p s).port q).reply = (s.port q).reply := by
  unfold goodFrame; dsimp only; split
  · by_cases h : q = p
    · subst h; simp
    · simp [State.updPort_port, h]
  · by_cases h : q = p
    · subst h; rw [setErrors_port_self]; dsimp only; split <;> simp
    · rw [setErrors_port_other _ _ _ _ h]; split <;> simp [State.updPort_port, h]

/-- A well-formed frame detaches no port whose count is one that a port can have. -/
theorem goodFrame_detached_iff (p : Fin 4) (s : State) (he : (s.port p).errors ≤ 192) :
    ((goodFrame p s).port p).state = .detached ↔ (s.port p).state = .detached := by
  unfold goodFrame; dsimp only; split
  · rename_i h; simp
  · rename_i h
    rw [setErrors_port_self]; dsimp only
    have hst : (s.port p).state ≠ .detached := by simpa using h
    have hne : (s.port p).errors - 1 ≠ 192 := by omega
    have key : portStateAfter (s.port p).state ((s.port p).errors - 1) ≠ .detached := by
      revert hst
      cases (s.port p).state <;> simp [portStateAfter, Config.detachCount, hne] <;> split <;> simp
    split <;> simp_all

/-- A port that is not in DETACHED after a well-formed frame was not in it before. -/
theorem goodFrame_state_other (p q : Fin 4) (s : State) (h : q ≠ p) : ((goodFrame p s).port q).state = (s.port q).state := by
  unfold goodFrame; dsimp only; split
  · simp [State.updPort_port, h]
  · rw [setErrors_port_other _ _ _ _ h]; split <;> simp [State.updPort_port, h]

@[simp] theorem goodFrame_tick (p : Fin 4) (s : State) : (goodFrame p s).tick = s.tick := by rw [goodFrame_frame]
@[simp] theorem goodFrame_lane (p : Fin 4) (s : State) (l : Fin 32) : (goodFrame p s).lane l = s.lane l := by rw [goodFrame_frame]; rfl
@[simp] theorem goodFrame_avail (p : Fin 4) (s : State) (i : Fin 64) : (goodFrame p s).avail i = s.avail i := by
  rw [goodFrame_frame]; rfl
@[simp] theorem goodFrame_filter (p : Fin 4) (s : State) (i : Fin 48) : (goodFrame p s).filter i = s.filter i := by
  rw [goodFrame_frame]; rfl
@[simp] theorem goodFrame_window (p : Fin 4) (s : State) (w : Fin 16) : (goodFrame p s).window w = s.window w := by
  rw [goodFrame_frame]; rfl
@[simp] theorem goodFrame_place (p : Fin 4) (s : State) (l : Fin 32) (q : Fin 4) : (goodFrame p s).place l q = s.place l q := by
  rw [goodFrame_frame]; rfl
@[simp] theorem goodFrame_pair (p : Fin 4) (s : State) (k : Fin 6) : (goodFrame p s).pair k = s.pair k := by
  rw [goodFrame_frame]; rfl
@[simp] theorem goodFrame_alert (p : Fin 4) (s : State) (a : Fin 4) : (goodFrame p s).alert a = s.alert a := by
  rw [goodFrame_frame]; rfl

/-! ## Requests -/

/-- An answer fills one reply slot and changes nothing else. -/
theorem answer_frame (p : Fin 4) (r : Req) (c : ReplyCode) (b : ReplyBody) (s : State) :
    answer p r c b s = { s with ports := (answer p r c b s).ports } := rfl

/-- Everything that the taking of a well-formed request can do (R188): the count first, then nothing, a DETACHED reply, a ROLE reply, or
the block's answer. -/
theorem takeRequest_cases (p : Fin 4) (r : Req) (act : State → Answer) (s : State) :
    takeRequest p r act s = goodFrame p s ∨ takeRequest p r act s = answer p r .detached .none (goodFrame p s) ∨
      takeRequest p r act s = answer p r .role .none (goodFrame p s) ∨
      (((goodFrame p s).port p).reply = none ∧
        (((goodFrame p s).port p).state ≠ .detached ∨ takenDetached r = true) ∧ permitted (s.port p).role r = true ∧
        takeRequest p r act s =
          answer p r (act (goodFrame p s)).code (act (goodFrame p s)).body (act (goodFrame p s)).state) := by
  unfold takeRequest; dsimp only
  split
  · exact .inl rfl
  · rename_i hr
    split
    · exact .inr (.inl rfl)
    · rename_i hd
      split
      · exact .inr (.inr (.inl rfl))
      · rename_i hp
        refine .inr (.inr (.inr ⟨by simpa using hr, ?_, by simpa using hp, rfl⟩))
        by_cases h : ((goodFrame p s).port p).state = .detached
        · right; simp [h] at hd; exact hd
        · exact .inl h

/-- A request that reaches its block (R188). -/
theorem takeRequest_accepted (p : Fin 4) (r : Req) (act : State → Answer) (s : State) (hr : (s.port p).reply = none)
    (hd : (s.port p).state ≠ .detached ∨ takenDetached r = true) (hp : permitted (s.port p).role r = true)
    (he : (s.port p).errors ≤ 192) :
    takeRequest p r act s =
      answer p r (act (goodFrame p s)).code (act (goodFrame p s)).body (act (goodFrame p s)).state := by
  unfold takeRequest; dsimp only
  rw [if_neg (by simp [hr]), if_neg, if_neg (by simp [hp])]
  rw [goodFrame_detached_iff p s he]
  rintro ⟨h1, h2⟩
  rcases hd with h | h
  · exact h h1
  · simp [h] at h2

end Sys2Proof.Machine
end

