-- ==== Sys2Proof/Laws/Frames.lean ====
section
/-! SUPPORT. What the shared operations of the break side, the cue side and the schedule side leave as it was, in the frames of
Safety.lean. -/

namespace Sys2Proof

open Sys2Proof.Machine

/-! ## Frames compose -/

theorem PortsOnly.refl (s : State) : PortsOnly s s := rfl
theorem AvailsOnly.refl (s : State) : AvailsOnly s s := rfl
theorem BreakOnly.refl (s : State) : BreakOnly s s := rfl
theorem CueOnly.refl (s : State) : CueOnly s s := rfl
theorem ArrayOnly.refl (s : State) : ArrayOnly s s := rfl

theorem PortsOnly.trans {s t u : State} (h : PortsOnly s t) (g : PortsOnly t u) : PortsOnly s u := by
  unfold PortsOnly at *; rw [h] at g; exact g
theorem AvailsOnly.trans {s t u : State} (h : AvailsOnly s t) (g : AvailsOnly t u) : AvailsOnly s u := by
  unfold AvailsOnly at *; rw [h] at g; exact g
theorem BreakOnly.trans {s t u : State} (h : BreakOnly s t) (g : BreakOnly t u) : BreakOnly s u := by
  unfold BreakOnly at *; rw [h] at g; exact g
theorem CueOnly.trans {s t u : State} (h : CueOnly s t) (g : CueOnly t u) : CueOnly s u := by
  unfold CueOnly at *; rw [h] at g; exact g
theorem ArrayOnly.trans {s t u : State} (h : ArrayOnly s t) (g : ArrayOnly t u) : ArrayOnly s u := by
  unfold ArrayOnly at *; rw [h] at g; exact g

theorem PortsOnly.avails {s t : State} (h : PortsOnly s t) : AvailsOnly s t := by unfold PortsOnly AvailsOnly at *; rw [h]
theorem AvailsOnly.break {s t : State} (h : AvailsOnly s t) : BreakOnly s t := by unfold AvailsOnly BreakOnly at *; rw [h]
theorem AvailsOnly.cue {s t : State} (h : AvailsOnly s t) : CueOnly s t := by unfold AvailsOnly CueOnly at *; rw [h]
theorem CueOnly.array {s t : State} (h : CueOnly s t) : ArrayOnly s t := by unfold CueOnly ArrayOnly at *; rw [h]
theorem PortsOnly.break {s t : State} (h : PortsOnly s t) : BreakOnly s t := h.avails.break

/-- A fold keeps what each of its steps keeps. -/
theorem foldl_keeps {α β : Type} (R : β → β → Prop) (hr : ∀ s, R s s) (ht : ∀ s t u, R s t → R t u → R s u) (f : β → α → β)
    (hf : ∀ s a, R s (f s a)) (xs : List α) (s : β) : R s (xs.foldl f s) := by
  induction xs generalizing s with
  | nil => exact hr s
  | cons a as ih => exact ht _ _ _ (hf s a) (ih _)

end Sys2Proof

namespace Sys2Proof.Machine

/-! ## Notices and avails -/

theorem raise_ports (n : Notice) (a : List (Fin 4)) (s : State) : PortsOnly s (raise n a s) := rfl

theorem updAvail_avails (i : Fin 64) (f : Avail → Avail) (s : State) : AvailsOnly s (s.updAvail i f) := rfl

theorem raiseLaneState_ports (l : Fin 32) (c : LaneCause) (s : State) : PortsOnly s (raiseLaneState l c s) := rfl

theorem raiseRetimed_ports (i : Fin 64) (c : RetimeCause) (s : State) : PortsOnly s (raiseRetimed i c s) := rfl

theorem raiseFinal_ports (i : Fin 64) (left : AvailState) (r : FinalResult) (s : State) : PortsOnly s (raiseFinal i left r s) := by
  unfold raiseFinal; dsimp only; split <;> rfl

theorem finish_avails (i : Fin 64) (st : AvailState) (r : FinalResult) (s : State) : AvailsOnly s (finish i st r s) :=
  (updAvail_avails ..).trans (raiseFinal_ports ..).avails

theorem preempt_avails (h : Handle) (s : State) : AvailsOnly s (preempt h s) := by
  unfold preempt; split
  · exact finish_avails ..
  · rfl

theorem finishLane_avails (l : Fin 32) (st : AvailState) (r : FinalResult) (s : State) : AvailsOnly s (finishLane l st r s) :=
  foldl_keeps AvailsOnly AvailsOnly.refl (fun _ _ _ => AvailsOnly.trans) _ (fun s i => by
    split
    · exact finish_avails ..
    · rfl) _ _

theorem moveIn_avails (i : Fin 64) (T : Tick) (c : RetimeCause) (b : Bool) (s : State) : AvailsOnly s (moveIn i T c b s) := by
  unfold moveIn; dsimp only; split
  · exact updAvail_avails ..
  · exact (updAvail_avails ..).trans (raiseRetimed_ports ..).avails

theorem pullIn_avails (i : Fin 64) (c : RetimeCause) (s : State) : AvailsOnly s (pullIn i c s) := moveIn_avails ..

/-! ## Lanes and orders -/

theorem updLane_break (l : Fin 32) (f : Lane → Lane) (s : State) : BreakOnly s (s.updLane l f) := rfl

theorem setOrder_break (l : Fin 32) (o : Option Outstanding) (s : State) : BreakOnly s (s.setOrder l o) := rfl

theorem commit_break (l : Fin 32) (k : StepKind) (x : Source) (e : Tick) (a : Option Handle) (s : State) :
    BreakOnly s (commit l k x e a s) := rfl

/-- Everything that a commit does (R31, R38, R39, R40). -/
theorem commit_eq (l : Fin 32) (k : StepKind) (x : Source) (e : Tick) (a : Option Handle) (s : State) :
    commit l k x e a s =
      { (s.updLane l fun L =>
          { L with committed := some ⟨L.orderSeq, x, e, s.tick⟩, orderSeq := L.orderSeq + 1, lastEffect := some e, planned := none }).setOrder
            l (some ⟨(s.lane l).orderSeq, x, e, k, a, false, addTicks e (s.lane l).cfg.ackGrace⟩) with
        orderQueue := s.orderQueue ++ [⟨l, (s.lane l).orderSeq, x, e⟩] } := rfl

theorem planOwner_break (l : Fin 32) (c : Committed) (x : Source) (s : State) : BreakOnly s (planOwner l c x s) := rfl

theorem dropOwner_break (l : Fin 32) (s : State) : BreakOnly s (dropOwner l s) := by
  unfold dropOwner; split <;> rfl

theorem setOwner_break (l : Fin 32) (x : Source) (b : Bool) (s : State) : BreakOnly s (setOwner l x b s) := by
  unfold setOwner; dsimp only; repeat' split
  all_goals rfl

theorem noOwner_break (l : Fin 32) (x : Source) (b : Bool) (s : State) : BreakOnly s (noOwner l x b s) := by
  unfold noOwner; split
  · exact planOwner_break ..
  · exact dropOwner_break ..

theorem setOwnerField_break (l : Fin 32) (o : Owner) (s : State) : BreakOnly s (setOwnerField l o s) := by
  unfold setOwnerField; dsimp only; split
  · exact BreakOnly.refl _
  · have h : BreakOnly s (raiseLaneState l .owner (s.updLane l fun L => { L with owner := o })) :=
      (updLane_break ..).trans (raiseLaneState_ports ..).break
    split
    · exact h.trans (preempt_avails ..).break
    · exact h.trans (preempt_avails ..).break
    · exact h

theorem setTransition_break (l : Fin 32) (c : ResolveCause) (o : Owner) (x : Source) (b : Bool) (s : State) :
    BreakOnly s (setTransition l c o x b s) := by
  unfold setTransition; dsimp only; repeat' split
  all_goals first | exact BreakOnly.refl _ | exact dropOwner_break .. | exact noOwner_break .. | exact setOwner_break ..

/-- A re-resolution touches lanes, orders, avails and ports only. -/
theorem reresolve_break (c : ResolveCause) (l : Fin 32) (s : State) : BreakOnly s (reresolve c l s) :=
  (setOwnerField_break ..).trans (setTransition_break ..)

theorem reresolveLanes_break (c : ResolveCause) (f : Fin 32 → Bool) (s : State) : BreakOnly s (reresolveLanes c f s) :=
  foldl_keeps BreakOnly BreakOnly.refl (fun _ _ _ => BreakOnly.trans) _ (fun s l => by
    split
    · exact reresolve_break ..
    · exact BreakOnly.refl _) _ _

theorem windowChange_break (m : LaneSet) (s : State) : BreakOnly s (windowChange m s) := reresolveLanes_break ..

theorem alertChange_break (z : ZoneSet) (s : State) : BreakOnly s (alertChange z s) := reresolveLanes_break ..

theorem setConfirmed_break (l : Fin 32) (x : Option Source) (s : State) : BreakOnly s (setConfirmed l x s) := by
  unfold setConfirmed; split
  · exact BreakOnly.refl _
  · exact (updLane_break ..).trans (raiseLaneState_ports ..).break

theorem setLaneState_break (l : Fin 32) (x : LaneState) (s : State) : BreakOnly s (setLaneState l x s) :=
  (updLane_break ..).trans (raiseLaneState_ports ..).break

theorem endStop_break (l : Fin 32) (k : StepKind) (s : State) : BreakOnly s (endStop l k s) := by
  unfold endStop; split
  · exact (updLane_break ..).trans (setLaneState_break ..)
  · exact BreakOnly.refl _

theorem reportCommitted_avails (f : Bool) (h : Handle) (e : Tick) (s : State) : AvailsOnly s (reportCommitted f h e s) := by
  unfold reportCommitted; dsimp only; split
  · exact AvailsOnly.refl _
  · split
    · split
      · split
        · exact ((updAvail_avails ..).trans (updAvail_avails ..)).trans (raiseRetimed_ports ..).avails
        · exact updAvail_avails ..
      · exact updAvail_avails ..
    · split
      · exact moveIn_avails ..
      · exact AvailsOnly.refl _

theorem stepDone_avails (k : StepKind) (h : Handle) (x : Source) (s : State) : AvailsOnly s (stepDone k h x s) := by
  unfold stepDone; dsimp only; split
  · exact AvailsOnly.refl _
  · repeat' split
    all_goals first
      | exact AvailsOnly.refl _
      | exact (raise_ports ..).avails
      | exact updAvail_avails ..
      | exact (raise_ports ..).avails.trans (finish_avails ..)

theorem handlePlanned_break (l : Fin 32) (s : State) : BreakOnly s (handlePlanned l s) := by
  unfold handlePlanned; dsimp only; repeat' split
  all_goals first
    | exact BreakOnly.refl _
    | exact updLane_break ..
    | exact (commit_break ..).trans (reportCommitted_avails ..).break

/-- A matched DONE touches lanes, orders, avails and ports only. -/
theorem orderDone_break (l : Fin 32) (o : Outstanding) (s : State) : BreakOnly s (orderDone l o s) := by
  unfold orderDone; dsimp only
  refine BreakOnly.trans ?_ (handlePlanned_break ..)
  have h : BreakOnly s (endStop l o.kind ((setConfirmed l (some o.target) (s.setOrder l none)).updLane l fun L =>
      { L with committed := none })) :=
    (((setOrder_break ..).trans (setConfirmed_break ..)).trans (updLane_break ..)).trans (endStop_break ..)
  split
  · exact h.trans (stepDone_avails ..).break
  · exact h

/-- A lane fault touches lanes, orders, avails and ports only. -/
theorem laneFault_break (l : Fin 32) (o : Outstanding) (r : FaultReason) (c : Option FabricCode) (s : State) :
    BreakOnly s (laneFault l o r c s) := by
  unfold laneFault; dsimp only
  have h1 := (setConfirmed_break l none s).trans (updLane_break l (fun L =>
    { L with committed := none, planned := none, faultReason := some r, failedTarget := some o.target }) _)
  have h2 (x : State) (n : Notice) (h : BreakOnly s x) : BreakOnly s (finishLane l .missed .fault (raise n [] x)) :=
    (h.trans (raise_ports n [] x).break).trans (finishLane_avails l .missed .fault _).break
  have h3 := h1.trans (setLaneState_break l (faultedState
    (((setConfirmed l none s).updLane l fun L =>
      { L with committed := none, planned := none, faultReason := some r, failedTarget := some o.target }).lane l).state) _)
  split
  · refine BreakOnly.trans (h2 _ _ ?_) (reresolve_break ..)
    split
    · exact h1
    · exact h3
  · refine h2 _ _ ?_
    split
    · exact h1
    · exact h3

/-! ## Claims and cue actions -/

theorem raiseLost_ports (i : Fin 64) (w : Candidate) (cs : List Candidate) (s : State) (p : Fin 4) :
    PortsOnly s (raiseLost i w cs s p) := by
  unfold raiseLost; dsimp only; split
  · rfl
  · split
    · rfl
    · exact raise_ports ..

theorem raiseClaims_ports (i : Fin 64) (w : Candidate) (cs : List Candidate) (s : State) : PortsOnly s (raiseClaims i w cs s) := by
  unfold raiseClaims; dsimp only
  refine PortsOnly.trans ?_
    (foldl_keeps PortsOnly PortsOnly.refl (fun _ _ _ => PortsOnly.trans) _ (raiseLost_ports i w cs) _ _)
  exact raise_ports ..

/-- An arbitration touches avails and ports only. -/
theorem arbitrate_avails (i : Fin 64) (s : State) : AvailsOnly s (arbitrate i s) := by
  unfold arbitrate; dsimp only; split
  · exact updAvail_avails ..
  · exact (updAvail_avails ..).trans (raiseClaims_ports ..).avails

theorem arbitrateIf_avails (b : Bool) (i : Fin 64) (s : State) : AvailsOnly s (arbitrateIf b i s) := by
  unfold arbitrateIf; split
  · exact arbitrate_avails ..
  · exact AvailsOnly.refl _

theorem createAvail_avails (i : Fin 64) (l : Fin 32) (id : BitVec 32) (c : Byte) (o : AvailOrigin) (t : Times) (s : State) :
    AvailsOnly s (createAvail i l id c o t s) :=
  ((updAvail_avails i _ s).trans (raise_ports ..).avails).trans (arbitrateIf_avails ..)

theorem repeatAvail_avails (i : Fin 64) (t : Times) (s : State) : AvailsOnly s (repeatAvail i t s).state := by
  unfold repeatAvail; dsimp only; repeat' split
  · exact rfl
  · exact ((updAvail_avails ..).trans (raiseRetimed_ports ..).avails).trans (arbitrateIf_avails ..)
  · exact rfl

theorem acceptBreak_avails (l : Fin 32) (id : BitVec 32) (c : Byte) (o : AvailOrigin) (t : Except ReplyCode Times) (s : State) :
    AvailsOnly s (acceptBreak l id c o t s).state := by
  unfold acceptBreak; repeat' split
  all_goals first | exact AvailsOnly.refl _ | exact repeatAvail_avails .. | exact createAvail_avails ..

/-- A cue action on a lane touches avails and ports only. -/
theorem cueAction_avails (f : Fin 48) (c : Cue) (l : Fin 32) (s : State) : AvailsOnly s (cueAction f c l s).2 := by
  unfold cueAction; split
  · exact acceptBreak_avails ..
  · unfold returnCue; dsimp only; repeat' split
    all_goals first
      | exact AvailsOnly.refl _ | exact updAvail_avails .. | exact finish_avails .. | exact moveIn_avails ..
  · unfold cancelCue; repeat' split
    all_goals first
      | exact AvailsOnly.refl _ | exact updAvail_avails .. | exact finish_avails .. | exact pullIn_avails ..
  · exact AvailsOnly.refl _

theorem armLanes_avails (f : Fin 48) (c : Cue) (ls : List (Fin 32)) (s : State) : AvailsOnly s (armLanes f c ls s).2 := by
  induction ls generalizing s with
  | nil => exact AvailsOnly.refl _
  | cons l ls ih =>
    unfold armLanes; dsimp only; split <;> exact (cueAction_avails ..).trans (ih _)

theorem filterAct_avails (i : Fin 48) (c : Cue) (s : State) : AvailsOnly s (filterAct i c s).state := by
  unfold filterAct; dsimp only; repeat' split
  all_goals first | exact AvailsOnly.refl _ | exact armLanes_avails ..

/-- A delivered cue touches hit records, strays, avails and ports only. -/
theorem deliverCue_cue (c : Cue) (s : State) : CueOnly s (deliverCue c s) := by
  unfold deliverCue; split
  · rename_i i _
    unfold takeHit; dsimp only
    have h := (filterAct_avails i c s).cue.trans (u := (filterAct i c s).state.updFilter i fun F =>
      { F with hit := F.hit.hit c s.tick (filterAct i c s).outcome (filterAct i c s).lane (filterAct i c s).applied }) rfl
    split
    · exact h.trans (raise_ports ..).avails.cue
    · exact h
  · unfold takeStrayCue; dsimp only
    exact CueOnly.trans (t := { s with
      strays := pushStray { cue := c, tick := s.tick } s.strays
      strayOverruns := if decide (2 ≤ s.strays.length) = true then satInc Config.smallCountMax s.strayOverruns else s.strayOverruns })
      rfl (raise_ports ..).avails.cue

/-! ## The cue logic -/

theorem emit_array (n : Fin 12) (b : Bool) (x : Pass) : ArrayOnly x.1 (emit n b x).1 := by
  unfold emit; dsimp only; split <;> rfl

theorem emitOn_array (src : EmitSource) (n : Fin 12) (b : Bool) (x : Pass) : ArrayOnly x.1 (emitOn src n b x).1 := by
  unfold emitOn; split
  · exact emit_array ..
  · rfl

theorem evalCell_array (n : Fin 12) (x : Pass) : ArrayOnly x.1 (evalCell n x).1 := by
  unfold evalCell; dsimp only; split
  · rfl
  · split
    · rfl
    · split
      · split
        · exact rfl
        · exact ArrayOnly.trans (t := x.1.updCell n _) rfl (emitOn_array _ _ _ (_, _))
      · exact rfl

theorem evalElement_array (k : Fin 6) (x : Pass) : ArrayOnly x.1 (evalElement k x).1 := by
  unfold evalElement; dsimp only; split
  · rfl
  · split
    · exact rfl
    · refine ArrayOnly.trans (ArrayOnly.trans ?_ (emitOn_array _ _ _ _)) (emitOn_array _ _ _ _)
      exact rfl

/-- An evaluation pass touches cells and pairs only; with the cues it emits, also what a delivered cue touches. -/
theorem runPass_array (x : Pass) : ArrayOnly x.1 (runPass x) := by
  unfold runPass; dsimp only
  have h : ArrayOnly x.1 (evalPass x).1 :=
    foldl_keeps (fun a b : Pass => ArrayOnly a.1 b.1) (fun _ => rfl) (fun _ _ _ => ArrayOnly.trans) evalPair
      (fun x k => ((evalCell_array ..).trans (evalCell_array ..)).trans (evalElement_array ..)) _ x
  exact h.trans (foldl_keeps ArrayOnly ArrayOnly.refl (fun _ _ _ => ArrayOnly.trans) _ (fun s c => (deliverCue_cue c s).array) _ _)

/-! ## Commit points -/

theorem requestStep_break (l : Fin 32) (b : Bool) (h : Handle) (T : Tick) (s : State) : BreakOnly s (requestStep l b h T s).2 := by
  unfold requestStep; dsimp only; repeat' split
  all_goals rfl

theorem outCommit_break (i : Fin 64) (s : State) : BreakOnly s (outCommit i s) := by
  unfold outCommit; dsimp only; repeat' split
  all_goals first
    | exact (finish_avails ..).break
    | exact ((commit_break ..).trans (updAvail_avails ..).break).trans (reresolve_break ..)

theorem fillCommit_break (i : Fin 64) (f : Tick) (s : State) : BreakOnly s (fillCommit i f s) := by
  unfold fillCommit; dsimp only; split
  · exact (requestStep_break ..).trans (reportCommitted_avails ..).break
  · exact (requestStep_break ..).trans (updAvail_avails ..).break
  · exact requestStep_break ..

theorem inCommit_break (i : Fin 64) (s : State) : BreakOnly s (inCommit i s) := by
  unfold inCommit; dsimp only; split
  · exact (((requestStep_break ..).trans (updAvail_avails ..).break).trans (reresolve_break ..)).trans (reportCommitted_avails ..).break
  · exact ((requestStep_break ..).trans (updAvail_avails ..).break).trans (reresolve_break ..)
  · exact requestStep_break ..

/-! ## Lane requests, windows and alerts -/

theorem enableLane_break (l : Fin 32) (s : State) : BreakOnly s (enableLane l s) := by
  unfold enableLane; dsimp only
  exact (((updLane_break ..).trans (setLaneState_break ..)).trans (commit_break ..)).trans (reresolve_break ..)

theorem prepareStop_break (l : Fin 32) (s : State) : BreakOnly s (prepareStop l s) := by
  unfold prepareStop; dsimp only; split <;> rfl

theorem disableLane_break (l : Fin 32) (s : State) : BreakOnly s (disableLane l s) := by
  unfold disableLane; dsimp only
  have h := (((updLane_break l (fun L => { L with planned := none }) s).trans (setLaneState_break l .stopping _)).trans
    (finishLane_avails l .cancelled .laneOff _).break).trans (prepareStop_break l _)
  split
  · exact h.trans (reresolve_break ..)
  · exact h

/-- An accepted WRITE LANE touches lanes, orders, avails and ports only. -/
theorem acceptLane_break (l : Fin 32) (c : LaneConfig) (s : State) : BreakOnly s (acceptLane l c s) := by
  unfold acceptLane; dsimp only
  have h (x : State) (a b : Bool) : BreakOnly x (enableConsequence l a b x) := by
    unfold enableConsequence; split
    · exact enableLane_break ..
    · exact disableLane_break ..
    · exact disableLane_break ..
    · exact BreakOnly.refl _
  split
  · exact (updLane_break ..).trans (h ..)
  · exact ((updLane_break ..).trans (h ..)).trans (reresolve_break ..)

theorem resetLane_break (l : Fin 32) (s : State) : BreakOnly s (resetLane l s) :=
  ((updLane_break ..).trans (setLaneState_break ..)).trans (reresolve_break ..)

theorem countDown_frame (w : Fin 16) (s : State) :
    countDown w s = { s with windows := (countDown w s).windows, ports := (countDown w s).ports } := by
  unfold countDown; dsimp only; split
  · rfl
  · split <;> rfl

theorem matchStart_frame (w : Fin 16) (s : State) :
    matchStart w s = { s with windows := (matchStart w s).windows, ports := (matchStart w s).ports } := by
  unfold matchStart; dsimp only; split <;> rfl

theorem treatWindow_frame (s : State) (w : Fin 16) :
    treatWindow s w = { s with windows := (treatWindow s w).windows, ports := (treatWindow s w).ports } := by
  unfold treatWindow; split
  · rw [matchStart_frame, countDown_frame]
  · rfl

/-- The treatment of the windows at a boundary touches windows and ports only. -/
theorem treatWindows_frame (s : State) :
    treatWindows s = { s with windows := (treatWindows s).windows, ports := (treatWindows s).ports } :=
  foldl_keeps (fun s t : State => t = { s with windows := t.windows, ports := t.ports }) (fun _ => rfl)
    (fun s t u h g => by rw [h] at g; exact g) treatWindow treatWindow_frame _ s

/-- The windows' part in a second boundary touches windows and what a re-resolution touches. -/
theorem windowBoundary_frame (s : State) :
    BreakOnly { s with windows := (windowBoundary s).windows } (windowBoundary s) := by
  have h : BreakOnly (treatWindows s) (windowBoundary s) :=
    foldl_keeps BreakOnly BreakOnly.refl (fun _ _ _ => BreakOnly.trans) _ (fun s w => windowChange_break ..) _ _
  have hw : (windowBoundary s).windows = (treatWindows s).windows := by rw [h]
  rw [hw]
  refine BreakOnly.trans ?_ h
  unfold BreakOnly
  rw [treatWindows_frame]

/-- An alert change after the table changed touches what a re-resolution touches. -/
theorem takeAlertExpiry_frame (a : Fin 4) (s : State) :
    BreakOnly { s with alerts := (takeAlertExpiry a s).alerts, recency := (takeAlertExpiry a s).recency } (takeAlertExpiry a s) := by
  unfold takeAlertExpiry; split
  · rename_i A _
    split
    · have h := alertChange_break A.zones (endAlert a A .expired none s)
      have e1 : (alertChange A.zones (endAlert a A .expired none s)).alerts = (endAlert a A .expired none s).alerts := by rw [h]
      have e2 : (alertChange A.zones (endAlert a A .expired none s)).recency = (endAlert a A .expired none s).recency := by rw [h]
      rw [e1, e2]
      exact BreakOnly.trans (t := endAlert a A .expired none s) rfl h
    · rfl
  · rfl

end Sys2Proof.Machine
end

