-- ==== Sys2Proof/Laws/PerInstr.lean ====
section
/-! SUPPORT. The family RequestCode, constructor by constructor: the request that a command's frame spells is the one whose port, role and
reply the part's handling reads. -/

namespace Sys2Proof.Laws.RequestCode

/-- The frame's request and the handled request are one; a command with no frame carries no request. -/
def Statement (i : Sys2Proof.Instr) : Prop :=
  (Sys2Proof.encodeBody i).map Prod.fst = (Sys2Proof.requestOf i).map Prod.snd

theorem powerOnReset (straps : BitVec 8) (lines : BitVec 24) : Statement (.powerOnReset straps lines) := rfl
theorem secondBoundary : Statement (.secondBoundary) := rfl
theorem chipSelectAssert (port : Fin 4) : Statement (.chipSelectAssert port) := rfl
theorem malformedFrame (port : Fin 4) (bytes : List Sys2Proof.Byte) : Statement (.malformedFrame port bytes) := rfl
theorem status (port : Fin 4) : Statement (.status port) := rfl
theorem fetch (port : Fin 4) (through : Bool) : Statement (.fetch port through) := rfl
theorem subscribe (port : Fin 4) (mask : BitVec 24) : Statement (.subscribe port mask) := rfl
theorem rejoin (port : Fin 4) : Statement (.rejoin port) := rfl
theorem quietExpiry (port : Fin 4) : Statement (.quietExpiry port) := rfl
theorem readTime (port : Fin 4) : Statement (.readTime port) := rfl
theorem setCalendar (port : Fin 4) (body : Sys2Proof.RawCalendar) : Statement (.setCalendar port body) := rfl
theorem readLane (port : Fin 4) (lane : Sys2Proof.Byte) : Statement (.readLane port lane) := rfl
theorem writeLane (port : Fin 4) (body : Sys2Proof.RawLane) : Statement (.writeLane port body) := rfl
theorem laneReset (port : Fin 4) (lane : Sys2Proof.Byte) : Statement (.laneReset port lane) := rfl
theorem orderSendStart : Statement (.orderSendStart) := rfl
theorem orderSendEnd : Statement (.orderSendEnd) := rfl
theorem done (lane : Fin 32) (seq : Sys2Proof.Byte) : Statement (.done lane seq) := rfl
theorem fault (lane : Fin 32) (seq : Sys2Proof.Byte) (code : Sys2Proof.FabricCode) : Statement (.fault lane seq code) := rfl
theorem fabricMessageMalformed (bytes : List Sys2Proof.Byte) : Statement (.fabricMessageMalformed bytes) := rfl
theorem ackTimerExpiry (lane : Fin 32) : Statement (.ackTimerExpiry lane) := rfl
theorem readOrderLink (port : Fin 4) : Statement (.readOrderLink port) := rfl
theorem recordArrival (bytes : List Sys2Proof.Byte) : Statement (.recordArrival bytes) := rfl
theorem intakeTaking : Statement (.intakeTaking) := rfl
theorem readIntake (port : Fin 4) : Statement (.readIntake port) := rfl
theorem readFeed (port : Fin 4) (feed : Sys2Proof.Byte) : Statement (.readFeed port feed) := rfl
theorem lineChange (line : Fin 24) (level : Bool) : Statement (.lineChange line level) := rfl
theorem settleExpiry (cell : Fin 12) : Statement (.settleExpiry cell) := rfl
theorem readCueLogic (port : Fin 4) : Statement (.readCueLogic port) := rfl
theorem readPair (port : Fin 4) (pair : Sys2Proof.Byte) : Statement (.readPair port pair) := rfl
theorem writePair (port : Fin 4) (body : Sys2Proof.RawPair) : Statement (.writePair port body) := rfl
theorem enablePair (port : Fin 4) (body : Sys2Proof.RawEnable) : Statement (.enablePair port body) := rfl
theorem setCueOutput (port : Fin 4) (body : Sys2Proof.RawOutput) : Statement (.setCueOutput port body) := rfl
theorem readFilter (port : Fin 4) (filter : Sys2Proof.Byte) : Statement (.readFilter port filter) := rfl
theorem writeFilter (port : Fin 4) (body : Sys2Proof.RawFilter) : Statement (.writeFilter port body) := rfl
theorem readHit (port : Fin 4) (filter : Sys2Proof.Byte) : Statement (.readHit port filter) := rfl
theorem readStrays (port : Fin 4) : Statement (.readStrays port) := rfl
theorem takeStray (port : Fin 4) : Statement (.takeStray port) := rfl
theorem claimClose (slot : Fin 64) : Statement (.claimClose slot) := rfl
theorem outCommitPoint (slot : Fin 64) : Statement (.outCommitPoint slot) := rfl
theorem fillCommitPoint (slot : Fin 64) : Statement (.fillCommitPoint slot) := rfl
theorem inCommitPoint (slot : Fin 64) : Statement (.inCommitPoint slot) := rfl
theorem readAvail (port : Fin 4) (handle : Sys2Proof.RawHandle) : Statement (.readAvail port handle) := rfl
theorem readLaneAvails (port : Fin 4) (lane : Sys2Proof.Byte) : Statement (.readLaneAvails port lane) := rfl
theorem bookAvail (port : Fin 4) (body : Sys2Proof.RawBooking) : Statement (.bookAvail port body) := rfl
theorem cancelAvail (port : Fin 4) (handle : Sys2Proof.RawHandle) : Statement (.cancelAvail port handle) := rfl
theorem release (port : Fin 4) (handle : Sys2Proof.RawHandle) : Statement (.release port handle) := rfl
theorem claim (port : Fin 4) (body : Sys2Proof.RawClaim) : Statement (.claim port body) := rfl
theorem withdraw (port : Fin 4) (handle : Sys2Proof.RawHandle) : Statement (.withdraw port handle) := rfl
theorem stand (port : Fin 4) (body : Sys2Proof.RawStand) : Statement (.stand port body) := rfl
theorem standClear (port : Fin 4) (lane : Sys2Proof.Byte) : Statement (.standClear port lane) := rfl
theorem standPause (port : Fin 4) (lane : Sys2Proof.Byte) : Statement (.standPause port lane) := rfl
theorem standResume (port : Fin 4) (lane : Sys2Proof.Byte) : Statement (.standResume port lane) := rfl
theorem readStanding (port : Fin 4) (lane : Sys2Proof.Byte) : Statement (.readStanding port lane) := rfl
theorem readWindow (port : Fin 4) (window : Sys2Proof.Byte) : Statement (.readWindow port window) := rfl
theorem writeWindow (port : Fin 4) (body : Sys2Proof.RawWindow) : Statement (.writeWindow port body) := rfl
theorem readAlerts (port : Fin 4) : Statement (.readAlerts port) := rfl
theorem alertStart (port : Fin 4) (body : Sys2Proof.RawAlert) : Statement (.alertStart port body) := rfl
theorem alertEnd (port : Fin 4) (id : Sys2Proof.Byte) : Statement (.alertEnd port id) := rfl
theorem alertExpiry (slot : Fin 4) : Statement (.alertExpiry slot) := rfl
theorem stationTick : Statement (.stationTick) := rfl
theorem fetchCheckByte (port : Fin 4) : Statement (.fetchCheckByte port) := rfl

end Sys2Proof.Laws.RequestCode
end

