-- ==== Sys2Proof/Laws/Time.lean ====
section
/-! SUPPORT. The frame grid and the earliest effect (R5, R6, R30): what the grid operations of Machine/Time.lean give. -/

namespace Sys2Proof.Machine

/-- Every cadence has a positive period. -/
theorem period_pos (c : Cadence) : 0 < period c := by cases c <;> decide

/-- No period is longer than 7,200 ticks. -/
theorem period_le (c : Cadence) : period c ≤ 7200 := by cases c <;> decide

/-- R6's sum is the first whole number from n upward that the grid holds (R5, R6). -/
theorem gridSum_spec (p φ n : Nat) (hp : 0 < p) :
    n ≤ gridSum p φ n ∧ gridSum p φ n < n + p ∧ ((gridSum p φ n : Int) - φ) % p = 0 := by
  have hz : (0 : Int) < p := by exact_mod_cast hp
  have h0 : 0 ≤ ((φ : Int) - n) % p := Int.emod_nonneg _ (by omega)
  have h1 : ((φ : Int) - n) % p < p := Int.emod_lt_of_pos _ hz
  unfold gridSum
  refine ⟨by omega, by omega, ?_⟩
  push_cast
  rw [Int.toNat_of_nonneg h0]
  have e : (n : Int) + ((φ : Int) - n) % p - φ = -(((φ : Int) - n) - ((φ : Int) - n) % p) := by ring
  rw [e]
  exact Int.emod_eq_zero_of_dvd (Int.dvd_neg.mpr (Int.dvd_self_sub_emod))

/-- The boundary at or after a tick as a whole number: R6's sum, or across the wrap the first boundary after it (R5, R6). -/
theorem boundaryAtOrAfter_toNat (p φ : Nat) (t : Tick) (hp : 0 < p) (hb : p ≤ 7200) :
    (boundaryAtOrAfter p φ t).toNat = if gridSum p φ t.toNat < 2 ^ 48 then gridSum p φ t.toNat else gridSum p φ 0 := by
  have ht := t.isLt
  have h1 := gridSum_spec p φ t.toNat hp
  have h2 := gridSum_spec p φ 0 hp
  unfold boundaryAtOrAfter; dsimp only
  rw [BitVec.toNat_ofNat]
  split <;> exact Nat.mod_eq_of_lt (by omega)

/-- The boundary at or after a tick lies on the grid (R6). -/
theorem boundaryAtOrAfter_onGrid (p φ : Nat) (t : Tick) (hp : 0 < p) (hb : p ≤ 7200) : onGrid p φ (boundaryAtOrAfter p φ t) = true := by
  unfold onGrid
  rw [boundaryAtOrAfter_toNat p φ t hp hb, decide_eq_true_eq]
  split <;> exact (gridSum_spec _ _ _ hp).2.2

/-- The whole number that gridFloor gives is the last one from n downward that the grid holds (R107). -/
theorem gridFloor_spec (p φ n : Nat) (hp : 0 < p) :
    gridFloor p φ n ≤ n ∧ (n : Int) < gridFloor p φ n + p ∧ (gridFloor p φ n - φ) % p = 0 := by
  have hz : (0 : Int) < p := by exact_mod_cast hp
  have h0 : 0 ≤ ((n : Int) - φ) % p := Int.emod_nonneg _ (by omega)
  have h1 : ((n : Int) - φ) % p < p := Int.emod_lt_of_pos _ hz
  unfold gridFloor
  refine ⟨by omega, by omega, ?_⟩
  have e : (n : Int) - ((n : Int) - φ) % p - φ = ((n : Int) - φ) - ((n : Int) - φ) % p := by ring
  rw [e]
  exact Int.emod_eq_zero_of_dvd Int.dvd_self_sub_emod

/-- The boundary at or before a tick as a whole number: gridFloor's, or the last boundary before the wrap (R5, R107). -/
theorem boundaryAtOrBefore_toNat (p φ : Nat) (t : Tick) (hp : 0 < p) (hb : p ≤ 7200) :
    ((boundaryAtOrBefore p φ t).toNat : Int) =
      if 0 ≤ gridFloor p φ t.toNat then gridFloor p φ t.toNat else gridFloor p φ (2 ^ 48 - 1) := by
  have ht := t.isLt
  have h1 := gridFloor_spec p φ t.toNat hp
  have h2 := gridFloor_spec p φ (2 ^ 48 - 1) hp
  unfold boundaryAtOrBefore; dsimp only
  generalize gridFloor p φ (2 ^ 48 - 1) = y at h2 ⊢
  rw [BitVec.toNat_ofInt]
  split <;> rw [Int.emod_eq_of_lt (by omega) (by push_cast; omega), Int.toNat_of_nonneg (by omega)]

/-- The boundary at or before a tick lies on the grid (R107). -/
theorem boundaryAtOrBefore_onGrid (p φ : Nat) (t : Tick) (hp : 0 < p) (hb : p ≤ 7200) :
    onGrid p φ (boundaryAtOrBefore p φ t) = true := by
  unfold onGrid
  rw [boundaryAtOrBefore_toNat p φ t hp hb, decide_eq_true_eq]
  split <;> exact (gridFloor_spec _ _ _ hp).2.2

/-- The boundary at or after a tick that does not cross the wrap is at most one period less one tick later (R6). -/
theorem boundaryAtOrAfter_bounds (p φ : Nat) (t : Tick) (hp : 0 < p) (hb : p ≤ 7200) (h : t.toNat + p ≤ 2 ^ 48) :
    t.toNat ≤ (boundaryAtOrAfter p φ t).toNat ∧ (boundaryAtOrAfter p φ t).toNat < t.toNat + p := by
  have h1 := gridSum_spec p φ t.toNat hp
  rw [boundaryAtOrAfter_toNat p φ t hp hb, if_pos (by omega)]
  omega

/-- Whole periods after a boundary lead to a boundary (R6). -/
theorem addPeriods_onGrid (p φ : Nat) (t : Tick) (n : Nat) (hp : 0 < p) (hb : p ≤ 7200)
    (ht : onGrid p φ t = true) : onGrid p φ (addPeriods p φ t n) = true := by
  unfold addPeriods; dsimp only; split
  · rename_i hx
    have h : ((t.toNat : Int) - φ) % p = 0 := by simpa [onGrid] using ht
    unfold onGrid
    rw [BitVec.toNat_ofNat, Nat.mod_eq_of_lt hx, decide_eq_true_eq]
    have e : ((t.toNat + n * p : Nat) : Int) - φ = ((t.toNat : Int) - φ) + n * p := by push_cast; ring
    rw [e, Int.add_mul_emod_self_right, h]
  · exact boundaryAtOrAfter_onGrid p φ _ hp hb

/-- The boundary nearest to an anchor is a boundary (R107). -/
theorem alignBoundary_onGrid (p φ : Nat) (S : Tick) (hp : 0 < p) (hb : p ≤ 7200) :
    onGrid p φ (alignBoundary p φ S) = true := by
  unfold alignBoundary; split
  · exact boundaryAtOrBefore_onGrid p φ S hp hb
  · exact boundaryAtOrAfter_onGrid p φ S hp hb

/-- The earliest effect of a lane lies on the lane's grid (R30). -/
theorem earliestEffect_onGrid (L : Lane) (now : Tick) :
    onGrid L.period L.cfg.phase (earliestEffect L now) = true :=
  boundaryAtOrAfter_onGrid _ _ _ (period_pos _) (period_le _)

end Sys2Proof.Machine
end

