-- ==== Sys2Proof/Tests/Slice0.lean ====
section
/-! SUPPORT. Tests: what WellFormed refuses, frames and messages written out from R199 to R201, the manual's worked examples as single
commands, and a witness for every statement that has hypotheses. -/

namespace Sys2Proof.Tests

-- One theorem at a time: each kernel evaluation takes a thread with a large stack.
set_option Elab.async false


open Sys2Proof Sys2Proof.Machine

/-! ## What WellFormed refuses -/

def noLane : RawLane :=
  { lane := 5, enable := 1, feed := 7, zone := 3, cadence := 1, phase := 1234, pathDelay := 0, claimLead := 360000, lateGrace := 45000,
    ceiling := 300, ackGrace := 18000, expected := .absent }

def noSelector : RawSelector := { kind := 0, number := 0 }

def noCell : RawCell :=
  { input0 := noSelector, input1 := noSelector, input2 := noSelector, table := 0, settle := 0, edge := 0, source := 0, feed := 0,
    kind := 0, cls := 0, lead := 0 }

def noPair : RawPair := { pair := 2, mode := 2, even := noCell, odd := noCell, expected := .absent }

def noFilter : RawFilter :=
  { filter := 1, enable := 1, feed := 7, kinds := 7, idValue := 0, idMask := 0, classLow := 0, classHigh := 199, origin := 2, action := 0,
    notify := 1, lanes := 0x610, expected := .absent }

def noWindow : RawWindow :=
  { window := 2, enable := 1, type := 0, days := 31, hour := 9, minute := 255, second := 0, duration := 90, lanes := 0xC0, source := 10,
    expected := .absent }

def noClaim : RawClaim := { handle := { slot := 40, gen := 5 }, rank := 4, source := 6, spot := .absent }

def noStand : RawStand := { lane := 11, rank := 4, source := 2, spot := .absent }

theorem test_wf_frame : (Instr.malformedFrame 0 [7, 1, 5, 243]).wellFormed = false := by decide
theorem test_wf_short_frame : (Instr.malformedFrame 0 []).wellFormed = false := by decide
theorem test_wf_fabric : (Instr.fabricMessageMalformed [2, 12, 40, 202]).wellFormed = false := by decide
theorem test_wf_record : (Instr.recordArrival []).wellFormed = false := by decide
theorem test_wf_lane : (Instr.writeLane 0 { noLane with expected := .undefinedPresence 1 }).wellFormed = false := by decide
theorem test_wf_pair : (Instr.writePair 0 { noPair with expected := .undefinedPresence 0 }).wellFormed = false := by decide
theorem test_wf_enable : (Instr.enablePair 0 { pair := 0, enable := 1, expected := .undefinedPresence 1 }).wellFormed = false := by decide
theorem test_wf_filter : (Instr.writeFilter 0 { noFilter with expected := .undefinedPresence 1 }).wellFormed = false := by decide
theorem test_wf_window : (Instr.writeWindow 0 { noWindow with expected := .undefinedPresence 0 }).wellFormed = false := by decide
theorem test_wf_claim : (Instr.claim 0 { noClaim with spot := .undefinedPresence 1 }).wellFormed = false := by decide
theorem test_wf_stand : (Instr.stand 0 { noStand with spot := .undefinedPresence 1 }).wellFormed = false := by decide
theorem test_wf_kept_presence : (Instr.stand 0 { noStand with spot := .undefinedPresence 2 }).wellFormed = true := by decide

/-! ## Frames and messages, written out from R199, R200 and R201 -/

theorem test_word_read_lane : decodeFrame 2 true [7, 1, 5, 243] = .wellFormed (.readLane 2 5) := by decide
theorem test_word_fetch : decodeFrame 1 false [2, 0, 254] = .wellFormed (.fetch 1 false) := by decide
theorem test_word_fetch_item : decodeFrame 1 true [2, 0, 254, 0, 0, 0, 0, 0, 0] = .wellFormed (.fetch 1 true) ∧
    decodeFrame 1 true [2, 0, 253] = .malformed .check 2 ∧ decodeFrame 1 true [2, 1, 253] = .malformed .length 2 ∧
    decodeFrame 1 true [2, 0, 253, 0] = .malformed .size 2 := by decide
theorem test_word_withdraw : decodeFrame 0 true [29, 2, 12, 3, 210] = .wellFormed (.withdraw 0 { slot := 12, gen := 3 }) := by decide
theorem test_word_set_calendar : decodeFrame 0 true [6, 8, 0x07, 0xE8, 2, 28, 23, 59, 58, 3, 86] =
    .wellFormed (.setCalendar 0 { year := 2024, month := 2, day := 28, hour := 23, minute := 59, second := 58, dow := 3 }) := by decide
theorem test_word_alert_start : decodeFrame 2 true [38, 7, 17, 2, 0, 32, 17, 0, 120, 23] =
    .wellFormed (.alertStart 2 { id := 17, level := 2, zones := 32, source := 17, duration := 120 }) := by decide
theorem test_word_stand : decodeFrame 1 true [30, 4, 11, 4, 2, 0, 205] = .wellFormed (.stand 1 noStand) := by decide
theorem test_word_size : decodeFrame 0 true [7, 1, 5] = .malformed .size 7 := by decide
theorem test_word_check : decodeFrame 0 true [7, 1, 5, 244] = .malformed .check 7 := by decide
theorem test_word_code : decodeFrame 0 true [40, 0, 216] = .malformed .code 40 := by decide
theorem test_word_length : decodeFrame 0 true [7, 0, 249] = .malformed .length 7 := by decide
theorem test_word_done : decodeFabric [2, 12, 40, 202] = .ok (.done 12 40) := by decide
theorem test_word_fault : decodeFabric [3, 12, 39, 1, 201] = .ok (.fault 12 39 .sourceUnavailable) := by decide
theorem test_word_order_from_fabric : decodeFabric [1, 12, 40, 203] = .error .type := by decide
theorem test_word_timeref : decodeRecord [2, 7, 0, 0, 39, 16, 1, 191] = .ok (.timeref 7 10000 true) := by decide
theorem test_word_cue : decodeRecord [1, 7, 0, 0, 0, 0, 9, 30, 0, 0, 0x1E, 0x84, 0x80, 0, 175] =
    .ok (.cue 7 .out 9 30 (.stamped 2000000) none) := by decide
theorem test_word_order : OrderMsg.bytes { lane := 9, seq := 7, target := .ins 2, effect := 2000001000 } =
    [1, 9, 7, 3, 0x77, 0x35, 0x97, 0xE8, 193] := by decide

/-! ## Small states -/

/-- What a command leaves. -/
def after (c : Instr) (s : State) : State :=
  match exec c s with
  | .next t => t
  | .fault _ => s
  | .refused _ => s

/-- The part right after reset, at a tick, with port 0 in a role. -/
def start (tick : Tick) (role : Role) : State := { State.reset with tick := tick }.updPort 0 fun P => { P with role := role }

/-- A lane in RUN. -/
def running (c : Cadence) (phase : Nat) (zone : Fin 16) (seq : Byte) : Lane :=
  { cfg := { enable := true, zone := zone, cadence := c, phase := phase }, state := .run, orderSeq := seq }

/-- A lane's record put in place. -/
def putLane (l : Fin 32) (L : Lane) (s : State) : State := s.updLane l fun _ => L

/-- An avail's record put in place. -/
def putAvail (i : Fin 64) (a : Avail) (s : State) : State := s.updAvail i fun _ => a

/-- The outcome and the body that a command leaves in a port's reply slot. -/
def replyOf (p : Fin 4) (s : State) : Option (ReplyCode × ReplyBody) := (s.port p).reply.map fun r => (r.outcome, r.body)

/-! ## Codes of named values (R198) -/

/-- The final results number from 0 in the order in which R117's table lists them, over all three final states (R198). -/
theorem test_final_result_codes : ([.returned, .released, .unfilled, .preempted, .cue, .request, .laneOff, .late, .alert, .window, .blackout,
    .fault, .laneBusy] : List FinalResult).map finalResultCode = (List.range 13).map (BitVec.ofNat 8) := by decide

/-! ## Worked examples: station time (1.2, 1.4) -/

theorem test_boundary_at_or_after : boundaryAtOrAfter 6006 1234 1000500000 = 1000504738 := by decide +kernel
theorem test_boundary_across_wrap : BitVec.ofNat 48 (gridSum 6006 0 0xFFFFFFFFFFFF) = 272 ∧ boundaryAtOrAfter 6006 0 0xFFFFFFFFFFFF = 0 ∧
    alignBoundary 6006 0 0xFFFFFFFFFFFF = 0 ∧ alignBoundary 6006 100 1 = 100 ∧ alignBoundary 6006 5000 10 = 281474976709922 ∧
    addPeriods 6006 0 281474976704922 1 = 6006 := by
  decide +kernel

theorem test_earliest_effect_across_wrap : earliestEffect (running .c2997 0 3 0) 281474976701655 = 0 := by decide +kernel

theorem test_earliest_effect : earliestEffect (running .c2997 1234 3 0) 1000500000 = 1000510744 := by decide +kernel

def setExample : RawCalendar := { year := 2024, month := 2, day := 28, hour := 23, minute := 59, second := 58, dow := 3 }

theorem test_set_calendar : let t := after (.setCalendar 0 setExample) (start 25063500 .scheduler)
    t.calPhase = 43500 ∧ t.calendar.day = 28 ∧ replyOf 0 t = some (.ok, .calendarSet 25063500 43500) := by decide +kernel

theorem test_set_calendar_range :
    replyOf 0 (after (.setCalendar 0 { setExample with year := 2100, day := 29 }) (start 0 .scheduler)) = some (.range, .none) := by
  decide +kernel

theorem test_second_boundary_leap : (after .secondBoundary { start 25423500 .scheduler with
    boundaryDue := true, calendar := { year := 2024, month := 2, day := 28, hour := 23, minute := 59, second := 59, dow := 3 } }).calendar =
    { year := 2024, month := 2, day := 29, hour := 0, minute := 0, second := 0, dow := 4 } := by decide +kernel

theorem test_calendar_wrap : ({ year := 2199, month := 12, day := 31, hour := 23, minute := 59, second := 59, dow := 2 } : Calendar).advance =
    { year := 2000, month := 1, day := 1, hour := 0, minute := 0, second := 0, dow := 3 } := by decide

theorem test_tick_wraps : (after .stationTick { start 0xFFFFFFFFFFFF .scheduler with calPhase := 5 }).tick = 0 := by decide +kernel

/-! ## Worked examples: lanes and orders (2.6, 2.7, 3.8) -/

/-- Lane 5 under the alert in slot 1 (2.6). -/
def alerted : State :=
  { putLane 5 { cfg := { zone := 3, phase := 1234 } } (start 1000500000 .scheduler) with recency := [1] }.setAlert 1
    (some { id := 9, level := 2, zones := 8, source := .alertA, start := 1000000000, expiry := 1021600000, port := 2 })

theorem test_write_lane_under_alert : let t := after (.writeLane 0 noLane) alerted
    (t.lane 5).state = .run ∧ (t.lane 5).owner = .alert 1 ∧
      (t.lane 5).committed = some { seq := 0, target := .net, effect := 1000510744, commit := 1000500000 } ∧
      (t.lane 5).planned = some { kind := .owner, target := .alertA, effect := 1000516750, avail := none } := by decide +kernel

theorem test_done_commits_planned : let s := ({ after (.writeLane 0 noLane) alerted with tick := 1000511000 } : State)
    let t := after (.done 5 0) (s.setOrder 5 ((s.order 5).map fun o => { o with sent := true }))
    (t.lane 5).committed = some { seq := 1, target := .alertA, effect := 1000522756, commit := 1000511000 } ∧
      (t.lane 5).planned = none ∧ (t.lane 5).confirmed = some .net := by decide +kernel

/-- Lane 9 with avail 3/0 CLOSED (2.7). -/
def oneFrame : State :=
  putAvail 3
    { state := .closed, lane := 9, outTick := 2000001000, inTick := 2000004000, frames := 1, claimClose := 1999641000
      holder := some { port := 1, rank := 0, source := .ins 2, spot := none } } (putLane 9 (running .c60 0 0 7) (start 1999992000 .scheduler))

theorem test_out_commit_point : let t := after (.outCommitPoint 3) oneFrame
    (t.lane 9).owner = .avail { slot := 3, gen := 0 } ∧ (t.avail 3).state = .out ∧
      (t.lane 9).committed = some { seq := 7, target := .ins 2, effect := 2000001000, commit := 1999992000 } ∧
      (t.lane 9).planned = none := by decide +kernel

/-- The same after its out and in commit points, the order being sent. -/
def oneFrameIn : State :=
  let s := after (.inCommitPoint 3) { after (.outCommitPoint 3) oneFrame with tick := 1999995000 }
  s.setOrder 9 ((s.order 9).map fun o => { o with sent := true })

theorem test_in_commit_point_waits : (oneFrameIn.avail 3).state = .returning ∧ (oneFrameIn.lane 9).owner = .network ∧
    (oneFrameIn.lane 9).planned = some { kind := .inStep, target := .net, effect := 2000004000, avail := some { slot := 3, gen := 0 } } := by
  decide +kernel

theorem test_done_commits_in_step : let t := after (.done 9 7) { oneFrameIn with tick := 2000001400 }
    (t.lane 9).committed = some { seq := 8, target := .net, effect := 2000013000, commit := 2000001400 } ∧
      (t.avail 3).inTick = 2000013000 ∧ (t.avail 3).frames = 4 := by decide +kernel

/-- Lane 12 with the OUT order of avail 20/1 sent (3.8). -/
def lateFabric : State :=
  let L : Lane := { running .c25 0 6 40 with lastEffect := some 3599978400 }
  let s := after (.outCommitPoint 20) (putAvail 20
    { gen := 1, state := .closed, lane := 12, outTick := 3600007200, inTick := 3600727200, frames := 100, claimClose := 3599647200
      holder := some { port := 1, rank := 0, source := .ins 5, spot := none } } (putLane 12 L (start 3599998200 .scheduler)))
  { s.setOrder 12 ((s.order 12).map fun o => { o with sent := true }) with lateCount := 3, orderQueue := [] }

theorem test_fault_late : let t := after (.fault 12 39 .tooLate) { lateFabric with tick := 3600001000 }
    t.lateCount = 4 ∧ t.lastLate = some { lane := 12, seq := 39, code := some .tooLate, tick := 3600001000 } ∧
      (t.lane 12).state = .run := by decide +kernel

theorem test_ack_timer_expiry : let t := after (.ackTimerExpiry 12) { lateFabric with tick := 3600025200 }
    (t.lane 12).state = .fault ∧ (t.lane 12).confirmed = none ∧ (t.lane 12).owner = .network ∧ (t.lane 12).committed = none ∧
      (t.lane 12).faultReason = some .timeout ∧ (t.avail 20).state = .missed ∧ t.order 12 = none := by decide +kernel

theorem test_lane_reset : let s := after (.ackTimerExpiry 12) { lateFabric with tick := 3600025200 }
    let t := after (.laneReset 0 12) { s with tick := 3600100000 }
    (t.lane 12).state = .run ∧ ((t.lane 12).committed.map Committed.target) = some .net ∧
      replyOf 0 t = some (.ok, .none) := by decide +kernel

theorem test_order_send : let s := after .orderSendStart { oneFrame with orderQueue := [{ lane := 9, seq := 7, target := .net, effect := 5 }] }
    s.sending = some 1999992000 ∧ (after .orderSendEnd s).sending = s.sending ∧
      (after .orderSendEnd { s with tick := 1999992030 }).orderQueue = [] := by decide +kernel

theorem test_next_send_begins : let m : OrderMsg := { lane := 9, seq := 7, target := .net, effect := 5 }
    let s : State := { oneFrame with orderQueue := [m, m], sending := some 1999991000 }
    (after .orderSendEnd s).orderQueue = [m] ∧ (after .orderSendEnd s).sending = some 1999992000 ∧
      (after .stationTick { s with sending := none }).sending = some 1999992000 := by decide +kernel

/-! ## Worked examples: intake (4.6, 4.7) and splice arithmetic (7.8) -/

theorem test_timeref_taken : let s := after (.recordArrival [2, 7, 0xFF, 0xF1, 0x3D, 0x80, 0, 74]) (start 1000000000 .scheduler)
    (after .intakeTaking { s with tick := 1000000150 }).feedRef 7 = { valid := true, stamp := 4294000000, station := 1000000000 } := by
  decide +kernel

/-- An intake FIFO that holds 16 records. -/
def fullFifo : State := { start 2000006400 .scheduler with fifo := List.replicate 16 { bytes := [9], arrival := 2000000000 } }

theorem test_overrun : let t := after (.recordArrival [1]) fullFifo
    t.fifo = fullFifo.fifo ∧ t.overruns = 1 ∧ t.lastOverrun = some 2000006400 ∧ t.ready = false := by decide +kernel

theorem test_invalid_record : (after .intakeTaking fullFifo).lastIntakeError =
    some { cause := .check, typeCode := 9, feed := none, arrival := 2000000000, tick := 2000006400 } := by decide +kernel

/-- Lane 4 of 7.8, with the reference of feed 7 and the cue A. -/
def spliceState : State :=
  (putLane 4 { running .c2997 1234 0 20 with cfg := { enable := true, feed := 7, phase := 1234, pathDelay := 36000 } }
    (start 1000500000 .scheduler)).setFeedRef 7 { valid := true, stamp := 4294000000, station := 1000000000 }

def cueA : Cue :=
  { feed := 7, kind := .out, eventId := 9, cls := 30, timing := .stamped 2000000, duration := some 5400000, origin := .inband
    arrival := 1000499000 }

theorem test_cue_times : cueTimes spliceState 4 cueA = .ok
    { outTick := 1003003234, inTick := 1008402628, frames := 899, provisional := false, claimClose := 1002643234, due := false } := by
  decide +kernel

theorem test_cue_stale : cueTimes { spliceState with tick := 1005400001 } 4 cueA = .error .noRef ∧
    cueTimes { spliceState with tick := 1005400000 } 4 cueA ≠ .error .noRef := by decide +kernel

/-! ## Worked examples: cue logic (5.9) and filters (6.6) -/

/-- Pair 2 of 5.9 at rest. -/
def toneState : State :=
  let cfg4 : CellConfig :=
    { input0 := .line 4, table := 2, settle := 40, edge := .both, source := .pair, feed := 12, kind := .out, cls := 40, lead := 360000 }
  let cfg5 : CellConfig := { input0 := .line 5, table := 2, settle := 40, edge := .none }
  (((start 3000000000 .scheduler).updCell 4 fun _ => { cfg := cfg4, sequence := 6 }).updCell 5 fun _ => { cfg := cfg5 }).updPair 2
    fun _ => { enable := true, mode := .setReset, revision := 2 }

theorem test_line_change : let t := after (.lineChange 4 true) toneState
    (t.cell 4).raw = true ∧ (t.cell 4).filtered = false ∧ (t.cell 4).timer = some 3000007200 ∧ (t.cell 5).raw = false := by decide +kernel

theorem test_settle_expiry_emits : let t := after (.settleExpiry 4) { after (.lineChange 4 true) toneState with tick := 3000007200 }
    (t.pair 2).output = true ∧ (t.cell 4).sequence = 7 ∧ t.strays.map (fun x => (x.cue.eventId, x.cue.kind)) = [(786439, .out)] := by
  decide +kernel

/-- The pair at the end tone: the element high, line 5 up and its timer due. -/
def endTone : State :=
  { (toneState.updPair 2 fun P => { P with output := true }).updCell 5 fun c => { c with raw := true, timer := some 3054007200 } with
    lines := 32, tick := 3054007200 }

theorem test_settle_expiry_resets : let t := after (.settleExpiry 5) endTone
    (t.pair 2).output = false ∧ (t.pair 2).oddSeen = true ∧ (t.cell 4).sequence = 6 ∧
      t.strays.map (fun x => (x.cue.kind, x.cue.arrival)) = [(.ret, 3054007200)] := by decide +kernel

theorem test_enable_pair_disables : let t := after (.enablePair 0 { pair := 2, enable := 0, expected := .given 2 }) endTone
    (t.pair 2).output = false ∧ (t.cell 5).timer = none ∧ (t.cell 5).raw = false ∧ replyOf 0 t = some (.ok, .revision 3) := by
  decide +kernel

/-- The filters of 6.6, with lanes 4, 9 and 10. -/
def filterState : State :=
  let L := spliceState.lane 4
  let s := (putLane 10 { L with state := .off } (putLane 9 L spliceState)).updFilter 0 fun F =>
    { F with cfg := { enable := true, kinds := 15, classLow := 200, origin := .inband, action := .drop } }
  (s.updFilter 1 fun F => { F with cfg :=
    { enable := true, feed := some 7, kinds := 7, classHigh := 199, action := .arm, notify := true, lanes := 0x610 } }).updFilter 2 fun F =>
      { F with cfg := { enable := true, kinds := 8, action := .forward } }

theorem test_cue_arms : let t := deliverCue cueA filterState
    (t.filter 1).hit.outcome = some (.result .ok) ∧ (t.filter 1).hit.lanesApplied = 0x210 ∧ (t.filter 1).hit.count = 1 ∧
      (t.avail 0).lane = 4 ∧ (t.avail 1).lane = 9 ∧ (t.avail 1).state = .armed ∧ (t.avail 2).state = .empty := by decide +kernel

theorem test_cue_forwarded : let t := deliverCue { cueA with feed := 3, kind := .mark, cls := 210, origin := .cell 4 } filterState
    (t.filter 2).hit.outcome = some .forwarded ∧ (t.filter 0).hit.count = 0 := by decide +kernel

/-- The stray buffer of 6.6 after cues D and E. -/
def strayState : State :=
  let e := { cueA with feed := 3, kind := .cancel, cls := 12 }
  { filterState with strays := [{ cue := { cueA with feed := 5, cls := 12 }, tick := 1006200000 }, { cue := e, tick := 1006300000 }] }

theorem test_stray_replaces : let t := deliverCue { cueA with feed := 9 } strayState
    t.strays.map (fun x => x.cue.feed) = [5, 9] ∧ t.strayOverruns = 1 := by decide +kernel

theorem test_take_stray : let t := after (.takeStray 0) strayState
    t.strays.map (fun x => x.cue.feed) = [3] ∧ (t.port 0).reply.map Reply.outcome = some .ok := by decide +kernel

/-! ## Worked examples: avails (8.10) and claims (9.6) -/

/-- Avail 17/2 of 8.10 in OUT with its FILL step confirmed. -/
def airing : State :=
  putAvail 17
    { gen := 2, state := .out, lane := 4, eventId := 9, cls := 30, outTick := 1003003234, inTick := 1008402628, frames := 899
      claimClose := 1002643234, holder := some { port := 2, rank := 3, source := .ins 3, spot := some 450 }, fillTick := some 1005705934
      fillStep := .confirmed }
    (putLane 4 { spliceState.lane 4 with
      owner := .avail { slot := 17, gen := 2 }, confirmed := some .fill, orderSeq := 22, lastEffect := some 1005705934 } spliceState)

def returnA : Cue :=
  { cueA with kind := .ret, timing := .lead 200000, duration := none, arrival := 1008000000 }

theorem test_return_cue : let t := (cueAction 1 returnA 4 { airing with tick := 1008000050 }).2
    (t.avail 17).inTick = 1008234460 ∧ (t.avail 17).frames = 871 ∧ (t.avail 17).state = .out := by decide +kernel

theorem test_in_commit_point : let s := ({ (cueAction 1 returnA 4 { airing with tick := 1008000050 }).2 with tick := 1008225460 } : State)
    let t := after (.inCommitPoint 17) s
    (t.avail 17).state = .returning ∧ (t.lane 4).owner = .network ∧
      (t.lane 4).committed = some { seq := 22, target := .net, effect := 1008234460, commit := 1008225460 } := by decide +kernel

theorem test_fill_commit_point : let s := airing.updAvail 17 fun a => { a with fillStep := .none }
    let s1 := ({ s with tick := 1005696934 } : State).updLane 4 fun L => { L with lastEffect := some 1003003234, orderSeq := 21 }
    let t := after (.fillCommitPoint 17) s1
    (t.avail 17).fillStep = .committed ∧
      (t.lane 4).committed = some { seq := 21, target := .fill, effect := 1005705934, commit := 1005696934 } := by decide +kernel

/-- Avail 40/5 and the claims of 9.6 just before the claim close. -/
def arbitration : State :=
  let s := putAvail 40
    { gen := 5, state := .armed, lane := 11, outTick := 5000400000, inTick := 5002200000, frames := 300, claimClose := 5000040000
      claims := [{ port := 3, rank := 4, source := .ins 5, spot := none }, { port := 2, rank := 3, source := .ins 2, spot := some 1200 }] }
    (putLane 11 (running .c30 0 0 0) (start 5000040000 .scheduler))
  let s1 := (s.setPlace 11 1 (some { rank := 4, source := .ins 1, spot := none, paused := false })).setPlace 11 3
    (some { rank := 4, source := .ins 6, spot := some 900, paused := false })
  ((s1.updPort 1 fun P => { P with role := .inserter }).updPort 2 fun P => { P with role := .inserter, state := .caution, errors := 96 }).updPort
    3 fun P => { P with role := .inserter }

theorem test_claim_close : let t := after (.claimClose 40) arbitration
    (t.avail 40).state = .closed ∧ (t.avail 40).holder = some { port := 3, rank := 4, source := .ins 5, spot := none } ∧
      (t.avail 40).claims = [] ∧ (t.avail 40).fillTick = none ∧ (t.port 3).queue.length = 1 ∧ (t.port 1).queue.length = 1 ∧
      (t.port 2).queue.length = 1 ∧ (t.port 0).queue = [] := by decide +kernel

theorem test_claim_replaces : let t := after (.claim 2 { noClaim with rank := 1, source := 3 }) { arbitration with tick := 4999900000 }
    (t.avail 40).claims.map Claim.port = [3, 2] ∧
      replyOf 2 t = some (.ok, .claimed { slot := 40, gen := 5 } 5000040000 2 true) := by decide +kernel

theorem test_stand_resume : let s := arbitration.setPlace 11 3 (some { rank := 4, source := .ins 6, spot := some 900, paused := true })
    replyOf 3 (after (.standResume 3 11) s) = some (.ok, .flag true) := by decide +kernel

/-! ## Worked examples: windows (10.7), alerts (11.7), ports (12.4) -/

/-- Window 2 and lanes 6 and 7 of 10.7, one tick before 09:00:00 shows. -/
def morning : State :=
  let s := putLane 7 (running .c30 0 0 3) (putLane 6
    { running .c30 0 0 14 with owner := .avail { slot := 12, gen := 4 }, confirmed := some (.ins 3) }
    { start 6480380000 .scheduler with boundaryDue := true })
  let s1 := putAvail 12
    { gen := 4, state := .out, lane := 6, inTick := 6482000000, holder := some { port := 1, rank := 0, source := .ins 3, spot := none } } s
  { s1.updWindow 2 fun _ =>
      { cfg := { enable := true, type := .insert, days := 31, hour := some 9, minute := none, second := some 0, duration := 90
                 lanes := 0xC0, source := .ins 9 } } with
    calendar := { year := 2024, month := 2, day := 28, hour := 8, minute := 59, second := 59, dow := 3 } }

theorem test_window_opens : let t := after .secondBoundary morning
    (t.window 2).isOpen = true ∧ (t.window 2).remaining = 90 ∧ (t.lane 6).owner = .window 2 ∧ (t.avail 12).state = .ended ∧
      (t.avail 12).result = some .preempted ∧
      (t.lane 6).committed = some { seq := 14, target := .ins 9, effect := 6480390000, commit := 6480380000 } ∧
      (t.lane 7).committed = some { seq := 3, target := .ins 9, effect := 6480390000, commit := 6480380000 } := by decide +kernel

theorem test_window_clipped : let s := morning.updWindow 2 fun W => { W with isOpen := true, remaining := 60 }
    let t := after (.writeWindow 0 { noWindow with duration := 30 }) s
    (t.window 2).remaining = 30 ∧ replyOf 0 t = some (.ok, .windowWritten 1 true 30) := by decide +kernel

/-- Lanes 14 and 17 of 11.7 before the alert. -/
def beforeAlert : State :=
  putAvail 25
    { gen := 3, state := .out, lane := 14, outTick := 8100006000, inTick := 8100600000
      holder := some { port := 1, rank := 0, source := .ins 4, spot := none } }
    (putLane 17 { running .c30 0 5 4 with state := .fault, confirmed := none, faultReason := some .timeout, failedTarget := some .net }
      (putLane 14
        { running .c30 0 5 31 with
          owner := .avail { slot := 25, gen := 3 }
          committed := some { seq := 30, target := .ins 4, effect := 8100006000, commit := 8099997000 }, lastEffect := some 8100006000 }
        (start 8100003000 .alert)))

def alert17 : RawAlert := { id := 17, level := 2, zones := 32, source := 17, duration := 120 }

theorem test_alert_start : let t := after (.alertStart 0 alert17) beforeAlert
    replyOf 0 t = some (.ok, .alertStarted 0 .new 8100003000 8121603000 none) ∧ (t.avail 25).result = some .preempted ∧
      (t.lane 14).planned = some { kind := .owner, target := .alertA, effect := 8100012000, avail := none } ∧
      (t.lane 17).state = .fault ∧
      (t.lane 17).committed = some { seq := 4, target := .alertA, effect := 8100012000, commit := 8100003000 } := by decide +kernel

theorem test_two_alert_changes : let s := after (.alertStart 0 alert17) beforeAlert
    let s1 := s.updLane 14 fun L => { L with committed := none, planned := none, confirmed := some .alertA }
    let s2 := after (.alertExpiry 0) { s1 with tick := 8121603000 }
    let t := after (.alertStart 0 alert17) (s2.updPort 0 fun P => { P with reply := none })
    (t.lane 14).committed = some { seq := 31, target := .net, effect := 8121612000, commit := 8121603000 } ∧
      (t.lane 14).planned = some { kind := .owner, target := .alertA, effect := 8121618000, avail := none } := by decide +kernel

theorem test_alert_expiry : let s := after (.alertStart 0 alert17) beforeAlert
    let t := after (.alertExpiry 0) { s with tick := 8121603000 }
    t.alert 0 = none ∧ t.recency = [] ∧ (t.lane 14).owner = .network ∧ t.alertAny = false := by decide +kernel

/-- Port 1 of the worked example of 12.4, at an error count. -/
def noisy (errors : Nat) (st : PortState) : State :=
  ((start 7000000000 .scheduler).updPort 0 fun P => { P with mask := 1 <<< 17 }).updPort 1 fun P =>
    { P with role := .inserter, errors := errors, state := st }

theorem test_malformed_frame_caution : let t := after (.malformedFrame 1 [7, 1, 5, 244]) (noisy 90 .normal)
    (t.port 1).errors = 98 ∧ (t.port 1).state = .caution ∧ (t.port 1).queue.length = 1 ∧ (t.port 0).queue.length = 1 ∧
      replyOf 1 t = some (.form, .form .check) := by decide +kernel

theorem test_malformed_frame_detaches : let s := (noisy 186 .caution).setPlace 4 1 (some { rank := 0, source := .fill, spot := none, paused := false })
    let t := after (.malformedFrame 1 [7, 1, 5, 244]) s
    (t.port 1).errors = 192 ∧ (t.port 1).state = .detached ∧ (t.port 1).reply = none ∧ (t.port 1).queue = [] ∧
      (t.port 0).queue.length = 1 ∧ t.place 4 1 = none := by decide +kernel

theorem test_quiet_expiry : let s := (noisy 192 .detached).updPort 1 fun P => { P with quiet := some 7000000000 }
    let t := after (.quietExpiry 1) s
    (t.port 1).errors = 0 ∧ (t.port 1).state = .normal ∧ (t.port 1).queue.length = 1 ∧ (t.port 0).queue.length = 1 := by decide +kernel

theorem test_fetch_removes_chosen : let s := (noisy 0 .normal).updPort 1 fun P => { P with queue := [.calendarSet 0 5 {} 5] }
    (after (.fetch 1 true) s).port 1 = { (noisy 0 .normal).port 1 with queue := [] } ∧
      ((after (.fetch 1 false) s).port 1).queue.length = 1 := by decide +kernel

theorem test_preamble : ((after (.chipSelectAssert 1) (noisy 100 .caution)).port 1).preamble = some (64, 0) := by decide +kernel

/-! ## Witnesses: a concrete state and operands that meet each statement's hypotheses -/

theorem exec_after (c : Instr) (s : State) : exec c s = .next (after c s) := by cases c <;> rfl

/-- A command at the front of the queue. -/
def queued (c : Instr) (s : State) : State := { s with pending := [c] }

theorem step_after (c : Instr) (s : State) : step (queued c s) = .next (after c { s with pending := [] }) := exec_after c _

/-- The port 0 of a state in another link state, with an error count. -/
def link (st : PortState) (errors : Nat) (s : State) : State := s.updPort 0 fun P => { P with state := st, errors := errors }

theorem witness_FrameRoundTrip : (Instr.readLane 2 5).wellFormed = true ∧ encodeFrame (.readLane 2 5) = some [7, 1, 5, 243] := by decide

theorem witness_LinkRoundTrips : (∀ n, Timing.lead 1800000 = .lead n → n ≤ 1800000) ∧ ∀ n, Timing.stamped 0 = .lead n → n ≤ 1800000 :=
  ⟨fun _ h => by cases h; decide, fun _ h => nomatch h⟩

theorem witness_TickAdvances : NothingDue State.reset ∧ AvailsSound State.reset ∧ (State.reset.cell 0).cfg.settle ≤ 255 := by
  decide +kernel

theorem witness_TickOnlyByClock : exec (.status 0) State.reset = .next (after (.status 0) State.reset) ∧ Instr.status 0 ≠ .stationTick ∧
    ∀ x y, Instr.status 0 ≠ .powerOnReset x y := ⟨rfl, by decide, fun _ _ h => nomatch h⟩

/-- A state with a calendar. -/
def dated (c : Calendar) : State := { State.reset with calendar := c, boundaryDue := true }

theorem witness_CalendarCarries :
    (∀ c ∈ ([{ second := 58 }, { second := 59, minute := 58 }, { second := 59, minute := 59, hour := 22 },
      { second := 59, minute := 59, hour := 23, day := 30 }, { second := 59, minute := 59, hour := 23, month := 11, day := 30 },
      { second := 59, minute := 59, hour := 23, month := 12, day := 31, year := 2199, dow := 7 }] : List Calendar),
        CalendarSound (dated c)) ∧ 30 < monthLength 2000 1 ∧ 30 = monthLength 2000 11 ∧ 31 = monthLength 2199 12 := by decide +kernel

theorem witness_CalendarCarries_lengths : Accepts 0 .setCalendar (start 0 .scheduler) ∧
    (∀ x ∈ [(2000, 29), (2096, 29), (2099, 28), (2100, 28), (2101, 28), (2104, 29), (2196, 29)], monthLength x.1 2 = x.2) ∧
    monthLength 2100 2 < ({ setExample with year := 2100, day := 29 } : RawCalendar).day.toNat ∧
    CalendarSound (dated { year := 2096, month := 2, day := 29, hour := 23, minute := 59, second := 59 }) ∧
    29 = monthLength 2096 2 := by decide +kernel

theorem witness_SecondBoundary : morning.boundaryDue = true ∧ 1 ≤ morning.calendar.dow ∧ morning.calendar.dow ≤ 7 := by decide +kernel

theorem test_window_matches : let w := (morning.window 2).cfg
    let c : Calendar := { year := 2024, month := 2, day := 28, hour := 9, minute := 17, second := 0, dow := 5 }
    w.matches c = true ∧ w.matches { c with dow := 6 } = false ∧ w.matches { c with hour := 10 } = false ∧
      w.matches { c with second := 1 } = false ∧ ({ w with days := 64 } : WindowConfig).matches { c with dow := 7 } = true := by decide +kernel

theorem witness_SetCalendar : Accepts 0 .setCalendar (start 25063500 .scheduler) ∧ monthLength 2024 2 = 29 ∧ monthLength 2100 2 = 28 := by
  decide +kernel

theorem witness_CalendarSoundKept : CalendarSound (queued .secondBoundary morning) ∧
    ∃ t, step (queued .secondBoundary morning) = .next t := ⟨by decide +kernel, _, step_after _ _⟩

theorem witness_GoodFrameCounts : ∀ x ∈ ([(.normal, 96), (.normal, 0), (.caution, 65), (.caution, 64), (.detached, 192)] :
    List (PortState × Nat)), ((link x.1 x.2 State.reset).port 0).state = x.1 ∧ ((link x.1 x.2 State.reset).port 0).errors ≤ 192 := by
  decide +kernel

theorem witness_GoodFrameCounts_state :
    ((goodFrame 0 (link .caution 64 State.reset)).port 0).state ≠ ((link .caution 64 State.reset).port 0).state ∧
    ((goodFrame 0 (link .caution 65 State.reset)).port 0).state = ((link .caution 65 State.reset).port 0).state := by decide +kernel

theorem witness_NoticeReaches :
    let n : Notice := .calendarSet 0 5 {} 5
    let full := State.reset.updPort 0 fun P => { P with mask := 1 <<< 18, queue := List.replicate 16 n }
    ¬((0 : Fin 4) ∈ [1] ∨ (State.reset.port 0).mask.getLsbD (n.kind - 1) = true) ∧ ((link .detached 192 State.reset).port 0).state = .detached ∧
      (0 : Fin 4) ∈ [0] ∧ (State.reset.port 0).state ≠ .detached ∧ (State.reset.port 0).queue.length < 16 ∧
      (full.port 0).mask.getLsbD (n.kind - 1) = true ∧ (full.port 0).state ≠ .detached ∧ 16 ≤ (full.port 0).queue.length := by decide +kernel

theorem witness_RequestGates : requestOf (.takeStray 0) = some (0, .takeStray) ∧
    ((State.reset.updPort 0 fun P => { P with reply := some { request := 1, outcome := .ok, body := .none } }).port 0).reply.isSome = true ∧
    ((link .detached 192 State.reset).port 0).reply = none ∧ ((link .detached 192 State.reset).port 0).state = .detached ∧
    permitted ((start 0 .observer).port 0).role .takeStray = false ∧ ((start 0 .observer).port 0).reply = none ∧
    ((start 0 .observer).port 0).state ≠ .detached ∧ ((start 0 .observer).port 0).errors ≤ 192 := by decide +kernel

theorem witness_SelectSnapshot : (State.reset.port 0).queue.length ≤ 16 := by decide +kernel

theorem witness_MalformedFrame : decodeFrame 0 true [7, 1, 5, 244] = .malformed .check 7 ∧
    (∀ x ∈ ([(.normal, 87), (.normal, 88), (.caution, 64), (.caution, 183)] : List (PortState × Nat)),
      let P := (link x.1 x.2 State.reset).port 0
      P.state = x.1 ∧ P.state ≠ .detached ∧ P.errors + 8 < 192) ∧ ((link .detached 192 State.reset).port 0).state = .detached := by
  decide +kernel

theorem witness_MalformedFrame_causes :
    let sum := fun bytes : List Byte => bytes.foldl (· + ·) 0
    (∀ x ∈ [[(7 : Byte), 1, 5], [2, 1, 253], [7, 1, 5, 244], [40, 0, 216], [7, 0, 249], [8, 1, 0, 247]], x.take 3 ≠ [2, 0, 254]) ∧
    [(5 : Byte)].length ≠ 1 + 1 ∧ sum [7, 1, 5, 244] ≠ 0 ∧ sum [40, 0, 216] = 0 ∧ 39 < (40 : Byte).toNat ∧ sum [7, 0, 249] = 0 ∧
    sum [2, 1, 253] = 0 ∧ sum [8, 1, 0, 247] = 0 ∧ decodeFrame 0 true [8, 1, 0, 247] = .malformed .length 8 ∧
    ([7, 1, 5] : List Byte).length = 3 := by decide

theorem test_port_state_notice : let t := after (.malformedFrame 1 [7, 1, 5, 244]) (noisy 88 .normal)
    (t.port 1).queue = [.portState 1 .normal .caution 96 .frame 7000000000] ∧ (t.port 0).queue = (t.port 1).queue ∧
      (t.port 2).queue = [] := by decide +kernel

theorem witness_DetachingFrame : decodeFrame 0 true [7, 1, 5, 244] = .malformed .check 7 ∧
    ((link .caution 184 State.reset).port 0).state ≠ .detached ∧ 192 ≤ ((link .caution 184 State.reset).port 0).errors + 8 := by
  decide +kernel

theorem witness_PortRequests : Accepts 0 .status (link .detached 192 State.reset) ∧ Accepts 0 .subscribe State.reset ∧
    (0x7FFFF : BitVec 24).toNat < 2 ^ 19 ∧ 2 ^ 19 ≤ (0x80000 : BitVec 24).toNat ∧ Accepts 0 .rejoin (link .detached 192 State.reset) ∧
    Accepts 0 .rejoin State.reset ∧ (State.reset.port 0).state ≠ .detached ∧
    (let s := (link .detached 192 State.reset).updPort 0 fun P => { P with quiet := some 0 }
     (s.port 0).state = .detached ∧ (s.port 0).quiet = some s.tick) := by decide +kernel

theorem witness_PortsSoundKept : PortsSound (queued (.rejoin 0) (link .detached 192 State.reset)) ∧
    ∃ t, step (queued (.rejoin 0) (link .detached 192 State.reset)) = .next t := ⟨by decide +kernel, _, step_after _ _⟩

theorem witness_DetachedHoldsNothingKept :
    let s := queued (.malformedFrame 0 [7, 1, 5, 244]) (link .caution 184 State.reset)
    (PortsSound s ∧ ClaimsSound s ∧ DetachedHoldsNothing s) ∧ ∃ t, step s = .next t := ⟨by decide +kernel, _, step_after _ _⟩

theorem witness_ReadsWithoutOperand : ∀ r ∈ [Req.readTime, .readOrderLink, .readIntake, .readCueLogic, .readStrays, .readAlerts],
    Accepts 0 r (start 0 .observer) := by decide +kernel

theorem witness_ReadsWithoutOperand_outputs :
    (∀ o, State.reset.output o = .low) ∧ (endTone.setOutput 3 (.pair 2)).output 3 = .pair 2 ∧
    (endTone.setOutput 3 (.pair 2)).outputLevel 3 = true ∧ (endTone.setOutput 3 (.cell 5)).output 3 = .cell 5 ∧
    (5 : Fin 12).val / 2 = (2 : Fin 6).val ∧
    ((endTone.setOutput 3 (.pair 2)).updPair 2 fun P => { P with enable := false }).outputLevel 3 = false := by decide +kernel

theorem witness_ReadsOfOneRecord : (∀ r ∈ [Req.readAvail, .readLane, .readFeed, .readPair, .readFilter, .readLaneAvails, .readStanding,
      .readWindow], Accepts 0 r airing) ∧
    (∀ x ∈ [(31, 32), (5, 6), (47, 48), (15, 16), (63, 64)], (BitVec.ofNat 8 x.1).toNat + 1 = (BitVec.ofNat 8 x.2).toNat) ∧
    (airing.avail 0).state = .empty ∧ (airing.avail 17).gen ≠ 1 ∧ (airing.avail 17).state ≠ .empty ∧ (airing.avail 17).gen = 2 := by
  decide +kernel

theorem witness_EarliestEffect : (airing.lane 4).cfg.phase < (airing.lane 4).period ∧ airing.tick.toNat < 2 ^ 46 ∧
    (airing.lane 4).lastEffect = some 1005705934 ∧ (1005705934 : Tick).toNat < 2 ^ 46 := by
  have h : airing.tick.toNat = 1000500000 := by decide +kernel
  have e : (1005705934 : Tick).toNat = 1005705934 := by decide +kernel
  exact ⟨by decide +kernel, by rw [h]; norm_num, by decide +kernel, by rw [e]; norm_num⟩

theorem witness_EarliestEffect_wrap : (airing.lane 4).cfg.phase < 2 ^ 48 % (airing.lane 4).period ∧
    2 ^ 48 ≤ (281474976704922 : Tick).toNat + 1 * period .c2997 := by decide +kernel

/-- What WRITE LANE asks for in noLane. -/
def lane5Config : LaneConfig := { enable := true, feed := 7, zone := 3, phase := 1234 }

/-- Lane 5 configured so, in a state. -/
def lane5In (st : LaneState) (enable : Bool) : State :=
  putLane 5 { cfg := { lane5Config with enable := enable }, state := st } (start 1000500000 .scheduler)

theorem witness_WriteLaneRefusals : Accepts 0 .writeLane (lane5In .run true) ∧ 32 ≤ (32 : Byte).toNat ∧ cadenceOf 1 = some .c2997 ∧
    [7200, 6006, 6000, 3600, 3003, 3000][(1 : Byte).toNat]? = some 6006 ∧
    period .c2997 ≤ (6006 : BitVec 16).toNat ∧ 1800000 < (1800001 : BitVec 32).toNat ∧ (89999 : BitVec 32).toNat < 90000 ∧
    laneWriteOf { noLane with expected := .given 1 } = some (5, lane5Config, some 1) ∧
    laneWriteOf { noLane with cadence := 0 } = some (5, { lane5Config with cadence := .c25 }, none) ∧
    (((lane5In .run true).lane 5).state ≠ .off ∧ Cadence.c25 ≠ ((lane5In .run true).lane 5).cfg.cadence) ∧
    laneWriteOf noLane = some (5, lane5Config, none) ∧ ((lane5In .stopping false).lane 5).state = .stopping := by decide +kernel

theorem witness_WriteLaneConfig : Accepts 0 .writeLane (lane5In .run true) ∧ laneWriteOf { noLane with zone := 4 } =
    some (5, { lane5Config with zone := 4 }, none) ∧ ((lane5In .run true).lane 5).state ≠ .stopping ∧
    ((lane5In .run true).lane 5).cfg = lane5Config ∧
    laneWriteOf { noLane with enable := 0, feed := 8 } = some (5, { lane5Config with enable := false, feed := 8 }, none) ∧
    ((lane5In .stopping false).lane 5).state = .stopping ∧ ((lane5In .stopping false).lane 5).cfg.enable = false := by decide +kernel

/-- Lanes 14 and 17 of 11.7 with the alert in the table but not yet re-resolved, lane 14 changed. -/
def underAlert (f : Lane → Lane) : State :=
  { (beforeAlert.setAlert 0 (some { id := 17, level := 2, zones := 32, source := .alertA, start := 8100003000, expiry := 8121603000
                                    port := 0 })).updLane 14 f with recency := [0] }

theorem witness_WriteLaneConfig_reresolve :
    let plan := fun k : PlanKind => underAlert fun L => { L with planned := some { kind := k, target := .fill, effect := 5, avail := none } }
    let s := underAlert id
    resolve s 14 none = (.alert 0, .alertA) ∧ (s.lane 14).owner = .avail { slot := 25, gen := 3 } ∧ (s.avail 25).gen = 3 ∧
    (s.avail 25).state = .out ∧ (s.lane 14).state = .run ∧ (s.lane 14).committed.map Committed.target = some (.ins 4) ∧
    (∀ k ∈ [PlanKind.owner, .stop, .fill, .inStep], ((plan k).lane 14).planned.map Planned.kind = some k) ∧
    ((underAlert fun L => { L with committed := none }).lane 14).committed = none ∧
    ((underAlert fun L => { L with committed := none, confirmed := some .alertA }).lane 14).confirmed = some .alertA ∧
    ((underAlert fun L => { L with state := .stopping }).lane 14).state = .stopping ∧
    ((underAlert fun L => { L with owner := .network }).lane 14).owner = .network ∧ resolve s 17 none = (.alert 0, .alertA) ∧
    (s.lane 17).state = .fault ∧ (s.lane 17).committed = none ∧ (s.lane 17).failedTarget = some .net ∧
    ((s.updLane 17 fun L => { L with failedTarget := some .alertA }).lane 17).failedTarget = some .alertA := by decide +kernel

theorem witness_EnableLane : Accepts 0 .writeLane (lane5In .off false) ∧ laneWriteOf noLane = some (5, lane5Config, none) ∧
    ((lane5In .off false).lane 5).state = .off ∧ ((lane5In .off false).lane 5).cfg.enable = false ∧ lane5Config.enable = true := by
  decide +kernel

theorem witness_DisableLane : Accepts 0 .writeLane (lane5In .run true) ∧
    laneWriteOf { noLane with enable := 0 } = some (5, { lane5Config with enable := false }, none) ∧
    ((lane5In .run true).lane 5).state = .run ∧ ((lane5In .fault true).lane 5).state = .fault ∧
    ((lane5In .run true).lane 5).cfg = lane5Config ∧ (airing.avail 17).live = true ∧ (airing.avail 17).lane = 4 := by decide +kernel

theorem witness_LaneReset : Accepts 0 .laneReset (lane5In .fault true) ∧ 32 ≤ (32 : Byte).toNat ∧ (5 : Byte).toNat = (5 : Fin 32).val ∧
    ((lane5In .run true).lane 5).state ≠ .fault ∧ ((lane5In .fault true).lane 5).state = .fault ∧
    ((lane5In .fault true).lane 5).committed = none := by decide +kernel

theorem witness_OwnerPrecedence :
    (1 ∈ alerted.recency ∧ ∀ B ∈ alerted.alert 1, B.zones.getLsbD (alerted.lane 5).cfg.zone.val = true) ∧ (alerted.alert 1).isSome = true ∧
    (let s := morning.updWindow 2 fun W => { W with isOpen := true, remaining := 9 }
     s.recency = [] ∧ (s.window 2).isOpen = true ∧ (s.window 2).cfg.type = .insert ∧ (s.window 2).cfg.lanes.getLsbD 6 = true ∧
       ∀ v, v < 2 → (s.window v).isOpen = false) ∧
    (∀ v, (airing.window v).isOpen = false) ∧ airing.recency = [] ∧ (airing.avail 17).state = .out ∧ (airing.avail 17).lane = 4 ∧
    (∀ j, j < 17 → (airing.avail j).state ≠ .out) ∧ (airing.avail 17).holder.isSome = true ∧ (airing.avail 17).gen = 2 ∧
    resolve airing 4 (some { slot := 17, gen := 2 }) = (.network, .net) ∧ (resolve airing 4 none).2 = .fill ∧
    ∀ i, ¬((State.reset.avail i).state = .out ∧ (State.reset.avail i).lane = 0) := by decide +kernel

/-- An order of lane 5, sent, in a lane state. -/
def sentOrder (st : LaneState) (kind : StepKind) (planned : Option Planned) : State :=
  (putLane 5 { (lane5In st true).lane 5 with
    committed := some { seq := 0, target := .net, effect := 1000510744, commit := 1000500000 }, planned := planned }
    (start 1000511000 .scheduler)).setOrder 5 (some { seq := 0, target := .net, effect := 1000510744, kind := kind, avail := none
                                                      sent := true, ackExpiry := 1000511000 })

theorem witness_DoneMatched :
    let P : Planned := { kind := .owner, target := .net, effect := 1000516750, avail := none }
    (∀ s ∈ [sentOrder .stopping .stop none, sentOrder .run .owner none, sentOrder .run .owner (some P),
      sentOrder .run .owner (some { P with target := .alertA })], ∀ o ∈ s.order 5, o.seq = 0 ∧ o.sent = true) ∧
    (sentOrder .stopping .stop none).order 5 ≠ none ∧ ((sentOrder .stopping .stop none).lane 5).state = .stopping ∧
    ((sentOrder .run .owner none).lane 5).state ≠ .stopping ∧ ((sentOrder .run .owner none).lane 5).planned = none ∧
    ((sentOrder .run .owner (some P)).lane 5).planned = some P := by decide +kernel

theorem witness_DoneMatched_steps :
    let plan := fun (k : PlanKind) (h : Option Handle) =>
      sentOrder .run .owner (some { kind := k, target := .fill, effect := 1000600000, avail := h })
    (∀ k ∈ [PlanKind.stop, .fill, .inStep], ∀ h ∈ [none, some ⟨3, 0⟩], ∀ o ∈ (plan k h).order 5, o.seq = 0 ∧ o.sent = true) ∧
    (∀ k ∈ [PlanKind.stop, .fill, .inStep], ((plan k none).lane 5).planned.map Planned.kind = some k) ∧
    ((oneFrameIn.order 9).map fun o => (o.kind, o.avail, o.seq, o.sent)) = some (.out, some { slot := 3, gen := 0 }, 7, true) ∧
    ((oneFrameIn.lane 9).planned.map fun P => (P.kind, P.avail)) = some (.inStep, some { slot := 3, gen := 0 }) ∧
    (oneFrameIn.avail 3).gen = 0 ∧ (oneFrameIn.avail 3).live = true := by decide +kernel

theorem test_done_stops : let s := sentOrder .stopping .stop none
    let t := after (.done 5 0) ((s.updLane 5 fun L => { L with confirmed := some .fill }).updPort 0 fun P => { P with mask := 1 <<< 16 })
    (t.port 0).queue = [.laneState 5 .source .stopping .network (some .net) none 1000511000,
      .laneState 5 .state .off .network (some .net) none 1000511000] := by decide +kernel

theorem witness_AnswerLate : (∀ o ∈ (sentOrder .run .owner none).order 5, o.seq ≠ 1 ∨ o.sent = false) ∧
    (sentOrder .run .owner none).order 5 ≠ none := by decide +kernel

theorem witness_LaneFault : (∀ st ∈ [LaneState.run, .fault, .stopping], ((sentOrder st .owner none).lane 5).state = st) ∧
    (∀ o ∈ (sentOrder .run .owner none).order 5, o.sent = true ∧ o.ackExpiry = (sentOrder .run .owner none).tick) ∧
    (sentOrder .run .owner none).order 5 ≠ none ∧
    (let s := (sentOrder .stopping .stop none).setOrder 5 (((sentOrder .stopping .stop none).order 5).map fun o => { o with sent := false })
     s.order 5 ≠ none ∧ ∀ o ∈ s.order 5, o.sent = false) := by decide +kernel

theorem witness_LaneFault_cut :
    let m : OrderMsg := { lane := 5, seq := 0, target := .net, effect := 1000510744 }
    let s : State := { sentOrder .run .owner none with orderQueue := [m], sending := some 1000510990 }
    let t : State := { s with orderQueue := [{ m with lane := 6 }, m] }
    (s.sending ≠ none ∧ s.orderQueue = m :: [] ∧ m.lane = 5) ∧ (t.orderQueue.map OrderMsg.lane).head? = some 6 ∧
    (resolve s 5 none).1 = .network ∧ resolve (underAlert id) 17 none = (.alert 0, .alertA) := by decide +kernel

theorem witness_OrderSends :
    let m : OrderMsg := { lane := 5, seq := 0, target := .net, effect := 1000510744 }
    let s : State := { sentOrder .run .owner none with orderQueue := [m] }
    let t : State := { s with sending := some 1000510000 }
    s.orderQueue = [m] ∧ s.sending = none ∧ t.sending = some 1000510000 ∧ 1000510000 ≠ t.tick ∧ t.order m.lane ≠ none := by decide +kernel

theorem witness_FabricMalformed : decodeFabric [1, 12, 40, 203] = .error .type ∧ (2 : Byte) + (12 + (40 + 203)) ≠ 0 ∧
    (2 : Byte) + (32 + (40 + 182)) = 0 ∧ (3 : Byte) + (32 + (40 + (1 + 180))) = 0 ∧ (3 : Byte) + (31 + (40 + (4 + 178))) = 0 ∧
    (3 : Byte) + (31 + (40 + (0 + 182))) = 0 ∧ (3 : Byte) + (31 + (40 + (1 + 182))) ≠ 0 := by decide

theorem witness_FabricMalformed_types : (∀ b ∈ [(0 : Byte), 1, 4, 255], b.toNat ≠ 2 ∧ b.toNat ≠ 3) ∧
    [(12 : Byte), 40, 203].foldl (· + ·) 1 = 0 ∧ [(12 : Byte), 40, 204].foldl (· + ·) 1 ≠ 0 ∧ [(252 : Byte)].foldl (· + ·) 4 = 0 := by decide

theorem witness_OrdersSoundKept : OrdersSound (queued (.done 5 0) (sentOrder .run .owner none)) ∧
    ∃ t, step (queued (.done 5 0) (sentOrder .run .owner none)) = .next t := ⟨by decide +kernel, _, step_after _ _⟩

theorem witness_ConfirmedOnlyByAnswers : exec .intakeTaking State.reset = .next (after .intakeTaking State.reset) ∧
    (∃ o ∈ (sentOrder .run .owner none).order 5, o.seq = 0 ∧ o.sent = true) ∧
    (∀ o ∈ (sentOrder .run .owner none).order 5, o.ackExpiry = (sentOrder .run .owner none).tick) ∧
    OrdersSound (sentOrder .run .owner none) ∧ LanesSound (sentOrder .run .owner none) ∧
    ∀ o ∈ ({ sentOrder .run .owner none with tick := 1000510999 } : State).order 5, o.ackExpiry ≠ 1000510999 := by
  refine ⟨rfl, ⟨_, rfl, ?_⟩, ?_, ?_, ?_, ?_⟩ <;> decide +kernel

theorem witness_LanesAndWindowsSoundKept :
    let s := queued (.writeLane 0 noLane) alerted
    (LanesSound s ∧ WindowsSound s) ∧ ∃ t, step s = .next t := ⟨by decide +kernel, _, step_after _ _⟩

theorem witness_RecordArrival : State.reset.fifo.length < 16 ∧ 16 ≤ fullFifo.fifo.length := by decide +kernel

/-- An intake FIFO with one record. -/
def oneRecord (bytes : List Byte) : State := { State.reset with fifo := [{ bytes := bytes, arrival := 0 }] }

theorem witness_IntakeTaking :
    (∀ x ∈ [[9], [2, 7, 0, 0, 39, 16, 0, 192], [2, 7, 0, 0, 39, 16, 1, 191], [1, 7, 0, 0, 0, 0, 9, 30, 0, 0, 0x1E, 0x84, 0x80, 0, 175]],
      (oneRecord x).fifo = [{ bytes := x, arrival := 0 }]) ∧
    decodeRecord [9] = .error .check ∧ decodeRecord [2, 7, 0, 0, 39, 16, 0, 192] = .ok (.timeref 7 10000 false) ∧
    decodeRecord [2, 7, 0, 0, 39, 16, 1, 191] = .ok (.timeref 7 10000 true) ∧
    decodeRecord [1, 7, 0, 0, 0, 0, 9, 30, 0, 0, 0x1E, 0x84, 0x80, 0, 175] = .ok (.cue 7 .out 9 30 (.stamped 2000000) none) ∧
    (let s := (oneRecord []).updPort 0 fun P => { P with mask := 1 <<< 16 }
     (s.port 0).state ≠ .detached ∧ (s.port 0).mask.getLsbD 16 = true ∧ (s.port 0).queue.length = 0) := by decide +kernel

theorem witness_IntakeTaking_causes :
    let sum := fun bytes : List Byte => bytes.foldl (· + ·) 0
    sum [9] ≠ 0 ∧ (sum [9, 247] = 0 ∧ decodeRecord [9, 247] = .error .type) ∧ (sum [1, 255] = 0 ∧ decodeRecord [1, 255] = .error .length) ∧
    (sum [2, 32, 0, 0, 39, 16, 1, 166] = 0 ∧ decodeRecord [2, 32, 0, 0, 39, 16, 1, 166] = .error .field) ∧
    (let long : List Byte := [1, 7, 0, 0, 0, 0, 9, 30, 1, 0, 0x1B, 0x77, 0x41, 0, 253]
     sum long = 0 ∧ decodeRecord long = .error .field) := by decide

theorem test_discontinuity : let s := (oneRecord [2, 0, 0, 0, 39, 16, 1, 198]).updPort 0 fun P => { P with mask := 1 <<< 16 }
    ((after .intakeTaking s).port 0).queue.length = 16 ∧ ((after .intakeTaking s).port 0).dropped = 16 := by decide +kernel

theorem witness_BuffersSoundKept : BuffersSound (queued (.recordArrival [1]) fullFifo) ∧
    ∃ t, step (queued (.recordArrival [1]) fullFifo) = .next t := ⟨by decide +kernel, _, step_after _ _⟩

theorem witness_CueLogicEvents : toneState.lines.getLsbD 4 = false ∧ toneState.lines.getLsbD 4 ≠ true ∧
    (∀ n, (State.reset.pair n).enable = false) ∧ (endTone.cell 5).timer = some endTone.tick ∧ (endTone.cell 5).cfg.settle ≠ 0 := by
  decide +kernel

theorem witness_Evaluations :
    let lined : State := { toneState with lines := 16 }
    let quick := lined.updCell 4 fun c => { c with cfg := { c.cfg with settle := 0 } }
    (toneState.pair (pairOf 4)).enable = true ∧ rawOutput toneState 4 false = (toneState.cell 4).raw ∧
      rawOutput quick 4 false ≠ (quick.cell 4).raw ∧ (quick.cell 4).cfg.settle = 0 ∧ rawOutput lined 4 false ≠ (lined.cell 4).raw ∧
      (lined.cell 4).cfg.settle ≠ 0 ∧ (∀ m ∈ [ElementMode.off, .follow, .setReset, .capture, .toggle],
        ((toneState.updPair 2 fun P => { P with mode := m }).pair 2).enable = true) := by decide +kernel

theorem witness_Evaluations_emission : (toneState.cell 4).cfg.edge = .both ∧ (toneState.cell 5).cfg.edge = .none ∧
    (State.reset.pair 0).enable = false := by decide +kernel

theorem witness_PairRequests : Accepts 0 .writePair State.reset ∧ (pairWriteOf { noPair with pair := 6 }).isNone = true ∧
    (pairWriteOf noPair).map (fun x => (x.1, x.2.2.2.2)) = some (2, none) ∧
    (pairWriteOf { noPair with expected := .given 1 }).map (fun x => (x.1, x.2.2.2.2)) = some (2, some 1) ∧
    (toneState.pair 2).enable = true ∧ (State.reset.pair 2).enable = false := by decide +kernel

theorem witness_PairRequests_enable_and_output : Accepts 0 .enablePair toneState ∧
    enableWriteOf { pair := 6, enable := 1, expected := .absent } = none ∧
    enableWriteOf { pair := 2, enable := 0, expected := .given 2 } = some (2, false, some 2) ∧
    enableWriteOf { pair := 2, enable := 1, expected := .absent } = some (2, true, none) ∧ Accepts 0 .setCueOutput State.reset ∧
    outputWriteOf { output := 2, selection := { kind := 2, number := 6 } } = none ∧
    outputWriteOf { output := 2, selection := { kind := 2, number := 5 } } = some (2, .pair 5) := by decide +kernel

/-- A cell at the end of every range of R68. -/
def lastCell : RawCell :=
  { input0 := { kind := 1, number := 23 }, input1 := { kind := 4, number := 31 }, input2 := { kind := 5, number := 0 }, table := 255
    settle := 255, edge := 3, source := 1, feed := 31, kind := 3, cls := 255, lead := 1800000 }

theorem test_pair_bounds : (pairWriteOf { pair := 5, mode := 4, even := lastCell, odd := noCell, expected := .given 255 }).isSome = true ∧
    (∀ c ∈ [{ lastCell with input0 := ⟨1, 24⟩ }, { lastCell with input1 := ⟨4, 32⟩ }, { lastCell with input2 := ⟨6, 0⟩ },
      { lastCell with input2 := ⟨5, 1⟩ }, { lastCell with edge := 4 }, { lastCell with source := 2 }, { lastCell with feed := 32 },
      { lastCell with kind := 4 }, { lastCell with lead := 1800001 }],
      (pairWriteOf { noPair with odd := c }).isNone = true) := by decide +kernel

theorem witness_PairsSoundKept : PairsSound (queued (.lineChange 4 true) toneState) ∧
    ∃ t, step (queued (.lineChange 4 true) toneState) = .next t := ⟨by decide +kernel, _, step_after _ _⟩

theorem witness_FilterRequests : Accepts 0 .writeFilter filterState ∧ filterWriteOf { noFilter with filter := 48 } = none ∧
    (filterWriteOf noFilter).map (fun x => (x.1, x.2.2)) = some (1, none) ∧ Accepts 0 .readHit filterState ∧ 48 ≤ (48 : Byte).toNat ∧
    (47 : Byte).toNat = (47 : Fin 48).val ∧ Accepts 0 .takeStray strayState ∧ State.reset.strays = [] ∧ strayState.strays ≠ [] := by
  decide +kernel

theorem test_filter_bounds :
    (filterWriteOf { noFilter with filter := 47, feed := 255, kinds := 15, classLow := 9, classHigh := 9, action := 2 }).isSome = true ∧
    (filterWriteOf { noFilter with feed := 31 }).isSome = true ∧
    ∀ r ∈ [{ noFilter with filter := 48 }, { noFilter with feed := 32 }, { noFilter with kinds := 16 }, { noFilter with classLow := 200 },
      { noFilter with origin := 3 }, { noFilter with action := 3 }, { noFilter with notify := 2 }, { noFilter with enable := 2 }],
      (filterWriteOf r).isNone = true := by decide +kernel

theorem witness_CueDelivery :
    let takes := fun (c : Cue) (i : Fin 48) => (filterState.filter i).cfg.enable = true ∧ (filterState.filter i).cfg.matches c = true
    (∀ i, ¬takes { cueA with feed := 9 } i) ∧ filterState.strays = [] ∧ strayState.strays.length = 2 ∧ takes cueA 1 ∧ ¬takes cueA 0 ∧
      (filterState.filter 1).cfg.action = .arm ∧ cueA.kind ≠ .mark ∧ takes { cueA with cls := 200 } 0 ∧
      (filterState.filter 0).cfg.action = .drop ∧ takes { cueA with kind := .mark } 2 ∧ ¬takes { cueA with kind := .mark } 1 ∧
      (filterState.filter 2).cfg.action = .forward ∧ ({ strayState with strays := strayState.strays.take 1 } : State).strays.length = 1 := by
  decide +kernel

/-- A booking of the break of 7.8. -/
def bookingA : RawBooking := { lane := 4, eventId := 9, cls := 30, outTick := 1003003296, frames := 899 }

/-- The times of that booking. -/
def timesA : Times :=
  { outTick := 1003003234, inTick := 1008402628, frames := 899, provisional := false, claimClose := 1002643234, due := false }

theorem witness_BookAvail : Accepts 0 .bookAvail spliceState ∧ 32 ≤ (32 : Byte).toNat ∧ (spliceState.lane 0).state ≠ .run ∧
    (spliceState.lane 4).state = .run ∧ bookingTimes spliceState 4 bookingA = .ok timesA ∧
    bookingTimes spliceState 4 { bookingA with outTick := 1 } = .error .late ∧ (spliceState.lane 4).cfg.phase < (spliceState.lane 4).period ∧
    (spliceState.avail 0).state = .empty ∧ (∀ i, (spliceState.avail i).live = false) ∧ (airing.avail 17).live = true ∧
    (airing.avail 17).eventId = bookingA.eventId ∧ (airing.avail 17).outTick = timesA.outTick ∧ (∀ j, j < 17 → (airing.avail j).live = false) ∧
    (let s : State := { spliceState with avails := Vector.replicate 64 { state := .armed, eventId := 8 } }
     (∀ i, (s.avail i).live = true) ∧ ∀ i, (s.avail i).eventId ≠ bookingA.eventId) := by decide +kernel

/-- What lane 4 of 7.8 gives for an anchor and a number of frames. -/
def placed (S : Tick) (n : Nat) : Except ReplyCode Times := placeBreak (spliceState.lane 4) 1000500000 S n false

theorem witness_BookAvail_times :
    let p := (spliceState.lane 4).period
    let E := earliestEffect (spliceState.lane 4) 1000500000
    let B := fun S : Tick => alignBoundary p 1234 S
    E = 1000510744 ∧ B (E + 3003) = E + 6006 ∧ B (E + 3002) = E ∧ B (E - 45000) = E - 42042 ∧ B (E - 45046) = E - 48048 ∧
    1073741824 < (B (E + 1073741824) - 1000500000).toInt ∧ (B (E + 1073730000) - 1000500000).toInt ≤ 1073741824 ∧
    0 < (addPeriods p 1234 (B (E - 6006)) 2 - E).toInt ∧ (addPeriods p 1234 (B (E - 6006)) 1 - E).toInt ≤ 0 := by decide +kernel

theorem witness_BookAvail_anchor :
    let s := spliceState
    (s.feedRef 7).valid = true ∧ (s.tick - (s.feedRef 7).station).toInt ≤ 5400000 ∧ (s.feedRef 8).valid = false ∧
    5400000 < (({ s with tick := 1005400001 } : State).tick - (s.feedRef 7).station).toInt ∧
    ((1000000000 : Int) + ((2146516352 : Stamp) - 4294000000).toInt + 36000 < 0) ∧
    ((1000000000 : Int) + ((2000000 : Stamp) - 4294000000).toInt + 36000 ≥ 0) := by decide +kernel

theorem witness_BookAvail_accept :
    let same := fun (s : State) (i : Fin 64) => (s.avail i).live = true ∧ (s.avail i).lane = 4 ∧ (s.avail i).eventId = 9
    let armed := airing.updAvail 17 fun a => { a with state := .armed }
    let filled : State := { spliceState with
      avails := Vector.replicate 64 { state := .ended, eventId := 8, gen := 255, finalTick := some 900 } }
    let older := filled.updAvail 20 fun a => { a with finalTick := some 899 }
    (same airing 17 ∧ (∀ j, j < 17 → ¬same airing j) ∧ (airing.avail 17).state ≠ .armed) ∧
    (same armed 17 ∧ ∀ j, j < 17 → ¬same armed j) ∧
    (airing.avail 17).outTick ≠ 5 ∧ (∀ i, ¬same spliceState i) ∧ (spliceState.avail 0).state = .empty ∧
    (∀ i, ¬same filled i) ∧ (∀ j, (filled.avail j).state ≠ .empty) ∧
    (∀ j, j ≠ 0 → (filled.avail j).final = true ∧ (filled.avail j).finalTick = (filled.avail 0).finalTick ∧ 0 < j) ∧
    (older.avail 20).finalTick = some 899 ∧ (∀ j, j ≠ 20 → (older.avail j).finalTick = some 900) ∧
    (0 : Int) < ((900 : Tick) - 899).toInt := by
  decide +kernel

theorem witness_BookAvail_cue : cueA.kind = .out ∧ cueTimes { spliceState with tick := 1005400001 } 4 cueA = .error .noRef ∧
    cueTimes spliceState 4 cueA = .ok timesA := by decide +kernel

/-- The avail of 8.10 in another state, port 0 being in a role and its holder's port. -/
def availIn (st : AvailState) (role : Role) : State :=
  (airing.updAvail 17 fun a =>
    { a with state := st, holder := some { port := 0, rank := 3, source := .ins 3, spot := none }, fillStep := .none }).updPort 0
    fun P => { P with role := role }

theorem witness_AvailRequests :
    (∀ st ∈ [AvailState.armed, .closed, .out, .returning, .ended], ((availIn st .scheduler).avail 17).state ≠ .empty) ∧
    (2 : Byte) = ((availIn .out .scheduler).avail 17).gen ∧ Accepts 0 .cancelAvail (availIn .closed .scheduler) ∧
    ((availIn .ended .scheduler).avail 17).final = true ∧ Accepts 0 .release (availIn .out .inserter) ∧
    ((availIn .out .inserter).avail 17).holder.map Claim.port = some 0 ∧ (airing.avail 17).holder.map Claim.port ≠ some 0 ∧
    Accepts 0 .claim (availIn .armed .inserter) ∧ claimOf 0 { noClaim with rank := 16 } = none ∧
    claimOf 0 { noClaim with rank := 15 } = some { port := 0, rank := 15, source := .ins 5, spot := none } ∧
    Accepts 0 .withdraw (availIn .armed .inserter) ∧ ((availIn .armed .inserter).avail 17).claims = [] ∧
    (arbitration.avail 40).state = .armed ∧ (∃ c ∈ (arbitration.avail 40).claims, c.port = 3) ∧ Accepts 3 .withdraw arbitration := by
  decide +kernel

theorem witness_AvailRequests_cues :
    let same := fun (i : Fin 64) => (airing.avail i).live = true ∧ (airing.avail i).lane = 4 ∧ (airing.avail i).eventId = 9
    let B := fun x : Cue => match anchor airing (airing.lane 4) x with | .ok S => some (alignBoundary 6006 1234 S) | .error _ => none
    (∀ i, ¬((State.reset.avail i).live = true)) ∧ (same 17 ∧ ∀ j, j < 17 → ¬same j) ∧ returnA.kind = .ret ∧ returnA.eventId = 9 ∧
    (∀ st ∈ [AvailState.armed, .closed, .out, .returning], ((availIn st .scheduler).avail 17).state = st ∧
      ((availIn st .scheduler).avail 17).live = true) ∧
    anchor { airing with tick := 1005400001 } (airing.lane 4) { returnA with timing := .stamped 0 } = .error .noRef ∧
    B returnA = some 1008234460 ∧ (B { returnA with arrival := 3000000000 }).map (fun b => decide (1073741824 < (b - airing.tick).toInt)) =
      some true ∧
    (B { returnA with arrival := 1000000000 }).map (fun b =>
      decide ((maxTick b (earliestEffect (airing.lane 4) airing.tick) - (airing.avail 17).outTick).toInt ≤ 0)) = some false := by
  decide +kernel

theorem witness_AvailRequests_lookup : 64 ≤ (64 : Byte).toNat ∧ (17 : Byte).toNat = (17 : Fin 64).val ∧ (63 : Byte).toNat = (63 : Fin 64).val ∧
    (airing.avail 63).state = .empty ∧ (airing.avail 17).gen ≠ 3 ∧ Accepts 0 .cancelAvail (availIn .out .scheduler) ∧
    (∀ r ∈ [Req.release, .withdraw, .claim], Accepts 0 r (availIn .out .inserter)) := by decide +kernel

theorem witness_AvailRequests_states : (∀ st ∈ [AvailState.armed, .closed, .out, .returning],
      ((availIn st .inserter).avail 17).state = st ∧ ((availIn st .inserter).avail 17).holder.map Claim.port = some 0) ∧
    (∀ st ∈ [AvailState.ended, .cancelled, .missed], ((availIn st .inserter).avail 17).final = true) ∧
    ((availIn .out .inserter).avail 17).fillStep = .none := by decide +kernel

theorem witness_StandingRequests : 32 ≤ (32 : Byte).toNat ∧ (31 : Byte).toNat = (31 : Fin 32).val ∧
    Accepts 3 .stand arbitration ∧ standOf { noStand with lane := 32 } = none ∧
    standOf { noStand with lane := 31 } = some (31, { rank := 4, source := .ins 1, spot := none, paused := false }) ∧
    Accepts 3 .standClear arbitration ∧ Accepts 3 .standPause arbitration ∧ Accepts 3 .standResume arbitration ∧
    arbitration.place 11 3 ≠ none ∧ arbitration.place 12 3 = none := by decide +kernel

theorem test_claim_and_stand_bounds :
    (∀ b ∈ [(1 : Byte), 16, 19], ¬SpotSourceOut b ∧ (standOf { noStand with source := b }).isSome = true) ∧
    (∀ b ∈ [(0 : Byte), 17, 18, 20, 255], SpotSourceOut b ∧ claimOf 0 { noClaim with source := b } = none) ∧
    (∀ x ∈ [OptField.given 1, .given 1048575], (claimOf 0 { noClaim with spot := x }).isSome = true) ∧
    (∀ x ∈ [OptField.given 0, .given 1048576, .undefinedPresence 2], claimOf 0 { noClaim with spot := x } = none ∧
      standOf { noStand with spot := x } = none) ∧
    standOf { noStand with rank := 16 } = none := by decide +kernel

theorem witness_ClaimClose : (arbitration.avail 40).state = .armed ∧ (arbitration.avail 40).claimClose = arbitration.tick ∧
    ClaimsSound arbitration ∧
    (let w : Candidate := { kind := .specific, claim := { port := 3, rank := 4, source := .ins 5, spot := none }, effective := 4 }
     w ∈ candidates arbitration 40 ∧ ∀ c ∈ candidates arbitration 40, c ≠ w → w.precedes c = true) ∧
    candidates (putAvail 40 { state := .armed } State.reset) 40 = [] := by decide +kernel

/-- Lane 9 of 2.7 changed, with its avail as it is. -/
def closedOn (f : Lane → Lane) : State := oneFrame.updLane 9 f

theorem witness_OutCommitPoint :
    (∀ s ∈ [oneFrame, closedOn fun L => { L with state := .fault }, closedOn fun L => { L with state := .off },
        closedOn fun L => { L with owner := .alert 1 }, closedOn fun L => { L with lastEffect := some 2000001000 },
        closedOn fun L => { L with committed := some { seq := 6, target := .net, effect := 1999992000, commit := 1999980000 } }],
      (s.avail 3).state = .closed ∧ (s.avail 3).outTick - BitVec.ofNat 48 9000 = s.tick) ∧
    (oneFrame.lane 9).state = .run ∧ (∀ w, (oneFrame.window w).isOpen = false) ∧ oneFrame.recency = [] ∧ (oneFrame.lane 9).committed = none ∧
    (∀ j, (oneFrame.avail j).airing = false) ∧ coveringAlert oneFrame (oneFrame.lane 9).cfg.zone = none ∧
    atOrAfter 2000001000 (earliestEffect (oneFrame.lane 9) oneFrame.tick) = true ∧
    atOrAfter 2000001000 (earliestEffect { oneFrame.lane 9 with lastEffect := some 2000001000 } oneFrame.tick) = false ∧
    (∀ ty ∈ [WindowType.insert, .blackout],
      let s := oneFrame.updWindow 4 fun W => { W with isOpen := true, remaining := 9, cfg := { W.cfg with type := ty, lanes := 0x200 } }
      (s.window 4).isOpen = true ∧ (s.window 4).cfg.type = ty ∧ (s.window 4).cfg.lanes.getLsbD 9 = true) := by decide +kernel

theorem witness_FillAndInCommitPoints :
    let fillAt : State := { airing.updAvail 17 fun a => { a with fillStep := .none } with tick := 1005696934 }
    let inAt : State := { airing with tick := 1008393628 }
    (fillAt.avail 17).state = .out ∧ (fillAt.lane 4).state = .run ∧ (fillAt.avail 17).fillTick = some 1005705934 ∧
      (fillAt.avail 17).fillStep = .none ∧ atOrAfter fillAt.tick (1005705934 - BitVec.ofNat 48 9000) = true ∧
      (fillAt.lane 4).committed = none ∧
      ((fillAt.updLane 4 fun L => { L with committed := some { seq := 21, target := .net, effect := 5, commit := 4 } }).lane 4).committed ≠ none ∧
      (inAt.avail 17).state = .out ∧ (inAt.avail 17).inTick - BitVec.ofNat 48 9000 = inAt.tick ∧ (inAt.lane 4).state = .run := by
  decide +kernel

/-- Avail 17/2 of 8.10 at its in commit point, its lane's last effect such that the earliest effect lies past the in tick. -/
def lateIn (f : Lane → Lane) : State := ({ airing with tick := 1008393628 } : State).updLane 4 fun L =>
  f { L with lastEffect := some 1008402628 }

theorem witness_FillAndInCommitPoints_in : ((lateIn id).avail 17).state = .out ∧ ((lateIn id).lane 4).state = .run ∧
    ((lateIn id).avail 17).inTick - BitVec.ofNat 48 9000 = (lateIn id).tick ∧ ((lateIn id).lane 4).committed = none ∧
    later (maxTick 1008402628 (earliestEffect ((lateIn id).lane 4) (lateIn id).tick)) 1008402628 = true ∧
    later (maxTick 1008402628 (earliestEffect (airing.lane 4) (lateIn id).tick)) 1008402628 = false ∧
    (((lateIn id).updAvail 17 fun a => { a with fillStep := .none }).avail 17).fillStep ≠ .confirmed ∧
    ((lateIn fun L => { L with committed := some { seq := 21, target := .fill, effect := 1008402628, commit := 5 } }).lane 4).committed ≠
      none := by decide +kernel

theorem test_in_commit_point_moves : let t := after (.inCommitPoint 17) (lateIn id)
    (t.avail 17).inTick = 1008408634 ∧ (t.avail 17).frames = 900 ∧ (t.port 2).queue.map Notice.kind = [2] ∧
      (t.lane 4).committed = some { seq := 22, target := .net, effect := 1008408634, commit := 1008393628 } := by decide +kernel

theorem witness_AvailsSoundKept :
    let s := queued (.inCommitPoint 17) airing
    (AvailsSound s ∧ ClaimsSound s) ∧ ∃ t, step s = .next t := ⟨by decide +kernel, _, step_after _ _⟩

theorem witness_WriteWindow : Accepts 0 .writeWindow morning ∧ windowWriteOf { noWindow with duration := 0 } = none ∧
    windowWriteOf { noWindow with expected := .given 1 } = some (2, (morning.window 2).cfg, some 1) ∧ (morning.window 2).revision = 0 ∧
    windowWriteOf noWindow = some (2, (morning.window 2).cfg, none) ∧ (morning.window 2).isOpen = false ∧
    (windowWriteOf { noWindow with enable := 0 }).isSome = true ∧
    ((morning.updWindow 2 fun W => { W with isOpen := true, remaining := 60 }).window 2).isOpen = true := by decide +kernel

theorem test_window_bounds :
    (windowWriteOf { noWindow with window := 15, days := 127, hour := 23, minute := 59, duration := 86400, source := 19 }).isSome = true ∧
    ∀ r ∈ [{ noWindow with window := 16 }, { noWindow with type := 2 }, { noWindow with days := 128 }, { noWindow with hour := 24 },
      { noWindow with minute := 60 }, { noWindow with second := 60 }, { noWindow with duration := 86401 }, { noWindow with source := 0 },
      { noWindow with source := 17 }], (windowWriteOf r).isNone = true := by decide +kernel

theorem witness_WriteWindow_open :
    let s := morning.updWindow 2 fun W => { W with isOpen := true, remaining := 60 }
    let c := (s.window 2).cfg
    Accepts 0 .writeWindow s ∧ (s.window 2).isOpen = true ∧
    windowWriteOf { noWindow with enable := 0 } = some (2, { c with enable := false }, none) ∧
    windowWriteOf { noWindow with duration := 60 } = some (2, { c with duration := 60 }, none) ∧
    windowWriteOf { noWindow with duration := 59 } = some (2, { c with duration := 59 }, none) ∧ (s.window 2).remaining = 60 ∧
    windowWriteOf { noWindow with lanes := 0xC1 } = some (2, { c with lanes := 0xC1 }, none) ∧ c.lanes ≠ 0xC1 := by decide +kernel

/-- A full alert table. -/
def fourAlerts : State :=
  let A : Alert := { id := 1, level := 2, zones := 1, source := .alertA, start := 0, expiry := 180000, port := 0 }
  { start 0 .alert with
    alerts := #v[some A, some { A with id := 2 }, some { A with id := 3, level := 1 }, some { A with id := 4 }], recency := [0, 1, 2, 3] }

theorem witness_AlertStart : Accepts 0 .alertStart fourAlerts ∧ alertOf { alert17 with level := 4 } = none ∧
    alertOf alert17 = some (2, .alertA, 120) ∧ (∀ a, ∀ B ∈ fourAlerts.alert a, B.id ≠ 17) ∧ (∀ a, fourAlerts.alert a ≠ none) ∧
    (displaceable fourAlerts).map (fun x => (x.1, x.2.level)) = some (2, 1) ∧ (∀ B ∈ fourAlerts.alert 1, B.id = 2) ∧
    beforeAlert.alert 0 = none ∧ Accepts 0 .alertStart beforeAlert ∧
    (displaceable (fourAlerts.setAlert 2 none)).map (fun x => (x.1, x.2.level)) = some (0, 2) := by decide +kernel

theorem test_alert_bounds : alertOf { alert17 with level := 3, source := 18, duration := 7200 } = some (3, .alertB, 7200) ∧
    ∀ r ∈ [{ alert17 with id := 0 }, { alert17 with level := 0 }, { alert17 with zones := 0 }, { alert17 with source := 16 },
      { alert17 with source := 19 }, { alert17 with duration := 0 }, { alert17 with duration := 7201 }], alertOf r = none := by decide +kernel

theorem witness_AlertStart_displaces :
    let levels := fun x : List (Fin 4) => x.map fun a => (fourAlerts.alert a).map Alert.level
    fourAlerts.recency = [0, 1] ++ 2 :: [3] ∧ levels [0, 1] = [some 2, some 2] ∧ levels [2] = [some 1] ∧ levels [3] = [some 2] ∧
    (alertOf { alert17 with level := 1 }).map Prod.fst = some 1 ∧
    (let s := fourAlerts.setAlert 2 (some { id := 3, level := 2, zones := 1, source := .alertA, start := 0, expiry := 180000, port := 0 })
     s.recency = [] ++ 0 :: [1, 2, 3] ∧ ∀ a, (s.alert a).map Alert.level = some 2) ∧
    (fourAlerts.alert 1).map Alert.id = some 2 ∧ (fourAlerts.alert 0).map Alert.id = some 1 ∧
    beforeAlert.alert 0 = none ∧ ∀ a, beforeAlert.alert a = none := by decide +kernel

theorem witness_AlertEnds : Accepts 0 .alertEnd fourAlerts ∧ (∀ a, ∀ B ∈ fourAlerts.alert a, B.id ≠ 255) ∧
    (∀ B ∈ fourAlerts.alert 3, B.id = 4) ∧ fourAlerts.alert 3 ≠ none ∧
    ∀ B ∈ fourAlerts.alert 3, B.expiry = ({ fourAlerts with tick := 180000 } : State).tick := by decide +kernel

theorem witness_AlertsSoundKept : AlertsSound (queued (.alertEnd 0 3) fourAlerts) ∧
    ∃ t, step (queued (.alertEnd 0 3) fourAlerts) = .next t := ⟨by decide +kernel, _, step_after _ _⟩

end Sys2Proof.Tests
end

section
/-! SUPPORT. The Time Base's own fields (Chapter 1): the operations of every other block leave the counter, the calendar, its phase and a
waiting second boundary as they were. -/

namespace Sys2Proof

open Sys2Proof.Machine

/-! ## No field of the Time Base differs -/

/-- The fields of the Time Base (R1, R7, R10). -/
def Machine.State.timeBase (s : State) : Tick × Bool × Calendar × Nat := (s.tick, s.boundaryDue, s.calendar, s.calPhase)

/-- No field of the Time Base differs. -/
def TimeKept (s t : State) : Prop := t.timeBase = s.timeBase

theorem TimeKept.refl (s : State) : TimeKept s s := rfl
theorem TimeKept.trans {s t u : State} (h : TimeKept s t) (g : TimeKept t u) : TimeKept s u := Eq.trans g h

theorem timeKept_iff {s t : State} :
    TimeKept s t ↔ t.tick = s.tick ∧ t.boundaryDue = s.boundaryDue ∧ t.calendar = s.calendar ∧ t.calPhase = s.calPhase := by
  simp [TimeKept, State.timeBase]

theorem TimeKept.tick {s t : State} (h : TimeKept s t) : t.tick = s.tick := (timeKept_iff.mp h).1

theorem TimeKept.calendar {s t : State} (h : TimeKept s t) : t.calendar = s.calendar := by
  obtain ⟨_, _, hc, _⟩ := timeKept_iff.mp h; exact hc

theorem TimeKept.calPhase {s t : State} (h : TimeKept s t) : t.calPhase = s.calPhase := by
  obtain ⟨_, _, _, hp⟩ := timeKept_iff.mp h; exact hp

/-- A calendar in range stays so where no field of the Time Base differs. -/
theorem TimeKept.calendarSound {s t : State} (h : TimeKept s t) (hs : CalendarSound s) : CalendarSound t := by
  unfold CalendarSound; rw [h.calendar, h.calPhase]; exact hs

theorem PortsOnly.timeKept {s t : State} (h : PortsOnly s t) : TimeKept s t := by unfold PortsOnly at h; rw [h]; rfl
theorem AvailsOnly.timeKept {s t : State} (h : AvailsOnly s t) : TimeKept s t := by unfold AvailsOnly at h; rw [h]; rfl
theorem BreakOnly.timeKept {s t : State} (h : BreakOnly s t) : TimeKept s t := by unfold BreakOnly at h; rw [h]; rfl
theorem CueOnly.timeKept {s t : State} (h : CueOnly s t) : TimeKept s t := by unfold CueOnly at h; rw [h]; rfl
theorem ArrayOnly.timeKept {s t : State} (h : ArrayOnly s t) : TimeKept s t := by unfold ArrayOnly at h; rw [h]; rfl

/-- A fold keeps the Time Base where each of its steps does. -/
theorem foldl_timeKept {α : Type} (f : State → α → State) (hf : ∀ s a, TimeKept s (f s a)) (xs : List α) (s : State) :
    TimeKept s (xs.foldl f s) :=
  foldl_keeps TimeKept TimeKept.refl (fun _ _ _ => TimeKept.trans) f hf xs s

end Sys2Proof

namespace Sys2Proof.Machine

/-! ## Frames, requests and port events -/

theorem goodFrame_timeKept (p : Fin 4) (s : State) : TimeKept s (goodFrame p s) := by rw [goodFrame_frame]; rfl

theorem updPort_timeKept (p : Fin 4) (f : Port → Port) (s : State) : TimeKept s (s.updPort p f) := rfl

theorem setPlace_timeKept (l : Fin 32) (p : Fin 4) (x : Option Standing) (s : State) : TimeKept s (s.setPlace l p x) := rfl

theorem setOrder_timeKept (l : Fin 32) (o : Option Outstanding) (s : State) : TimeKept s (s.setOrder l o) := rfl

theorem raise_timeKept (n : Notice) (a : List (Fin 4)) (s : State) : TimeKept s (raise n a s) := rfl

theorem setErrors_timeKept (p : Fin 4) (n : Nat) (s : State) : TimeKept s (setErrors p n s) := by rw [setErrors_frame]; rfl

/-- The taking of a request keeps the Time Base where its block does (R188). -/
theorem takeRequest_timeKept (p : Fin 4) (r : Req) (act : State → Answer) (hact : ∀ x, TimeKept x (act x).state) (s : State) :
    TimeKept s (takeRequest p r act s) := by
  have hg := goodFrame_timeKept p s
  rcases takeRequest_cases p r act s with h | h | h | ⟨_, _, _, h⟩ <;> rw [h]
  · exact hg
  · exact hg
  · exact hg
  · exact hg.trans (hact _)

theorem detachAvail_timeKept (p : Fin 4) (s : State) (i : Fin 64) : TimeKept s (detachAvail p s i) := by
  unfold detachAvail; dsimp only; split
  · rfl
  · split <;> rfl
  all_goals rfl

theorem detachClaims_timeKept (p : Fin 4) (s : State) : TimeKept s (detachClaims p s) :=
  (foldl_timeKept _ (fun s l => setPlace_timeKept l p none s) _ _).trans (foldl_timeKept _ (detachAvail_timeKept p) _ _)

theorem detach_timeKept (p : Fin 4) (s : State) : TimeKept s (detach p s) :=
  ((updPort_timeKept ..).trans (detachClaims_timeKept ..)).trans (raise_timeKept ..)

theorem takeMalformedFrame_timeKept (p : Fin 4) (c : FormCause) (b : Byte) (s : State) : TimeKept s (takeMalformedFrame p c b s) := by
  unfold takeMalformedFrame; dsimp only; split
  · rfl
  · split
    · exact (updPort_timeKept ..).trans (detach_timeKept ..)
    · exact ((updPort_timeKept ..).trans (updPort_timeKept ..)).trans (setErrors_timeKept ..)

theorem takeBytes_timeKept (p : Fin 4) (bytes : List Byte) (s : State) : TimeKept s (takeBytes p bytes s) := by
  unfold takeBytes; split
  · exact takeMalformedFrame_timeKept ..
  · rfl
  · rfl

theorem takeFetch_timeKept (p : Fin 4) (through : Bool) (s : State) : TimeKept s (takeFetch p through s) := by
  unfold takeFetch; dsimp only; split
  · exact (goodFrame_timeKept p s).trans (updPort_timeKept ..)
  · exact goodFrame_timeKept p s

theorem takeQuietExpiry_timeKept (p : Fin 4) (s : State) : TimeKept s (takeQuietExpiry p s) := by
  unfold takeQuietExpiry; split <;> rfl

/-! ## The order link -/

theorem startSend_timeKept (s : State) : TimeKept s (startSend s) := by unfold startSend; split <;> rfl

theorem endSend_timeKept (s : State) : TimeKept s (endSend s) := by
  unfold endSend; split
  · split <;> rfl
  · rfl

theorem takeDone_timeKept (l : Fin 32) (seq : Byte) (s : State) : TimeKept s (takeDone l seq s) := by
  unfold takeDone; split
  · exact (orderDone_break ..).timeKept
  · rfl

theorem takeFault_timeKept (l : Fin 32) (seq : Byte) (c : FabricCode) (s : State) : TimeKept s (takeFault l seq c s) := by
  unfold takeFault; split
  · exact (setOrder_timeKept ..).trans (laneFault_break ..).timeKept
  · rfl

theorem takeMalformed_timeKept (bytes : List Byte) (s : State) : TimeKept s (takeMalformed bytes s) := by
  unfold takeMalformed; split <;> rfl

theorem dropOrder_timeKept (l : Fin 32) (s : State) : TimeKept s (dropOrder l s) := by
  unfold dropOrder; dsimp only; split <;> rfl

theorem takeAckExpiry_timeKept (l : Fin 32) (s : State) : TimeKept s (takeAckExpiry l s) := by
  unfold takeAckExpiry; split
  · split
    · refine TimeKept.trans (TimeKept.trans ?_ (setOrder_timeKept ..)) (laneFault_break ..).timeKept
      split
      · rfl
      · exact dropOrder_timeKept l s
    · rfl
  · rfl

/-! ## Intake and cue logic -/

theorem takeArrival_timeKept (bytes : List Byte) (s : State) : TimeKept s (takeArrival bytes s) := by
  unfold takeArrival; split <;> rfl

theorem setFeedRef_timeKept (f : Fin 32) (r : FeedRef) (s : State) : TimeKept s (s.setFeedRef f r) := rfl

theorem raiseDiscontinuity_ports (f : Fin 32) (s : State) : PortsOnly s (raiseDiscontinuity f s) :=
  foldl_keeps PortsOnly PortsOnly.refl (fun _ _ _ => PortsOnly.trans) _ (fun s l => by
    split
    · exact raiseLaneState_ports ..
    · rfl) _ _

theorem takeTimeref_timeKept (f : Fin 32) (stamp : Stamp) (a : Tick) (d : Bool) (s : State) :
    TimeKept s (takeTimeref f stamp a d s) := by
  unfold takeTimeref; dsimp only; split
  · exact (setFeedRef_timeKept ..).trans (raiseDiscontinuity_ports ..).timeKept
  · rfl

theorem takeIntake_timeKept (s : State) : TimeKept s (takeIntake s) := by
  unfold takeIntake takeRecord; split
  · rfl
  · split
    · rfl
    · refine TimeKept.trans ?_ (deliverCue_cue ..).timeKept; rfl
    · refine TimeKept.trans ?_ (takeTimeref_timeKept ..); rfl

theorem takeLineChange_timeKept (k : Fin 24) (b : Bool) (s : State) : TimeKept s (takeLineChange k b s) := by
  unfold takeLineChange; split
  · rfl
  · refine TimeKept.trans ?_ (runPass_array _).timeKept; rfl

/-- A settle expiry touches what an evaluation pass touches. -/
theorem takeSettle_array (n : Fin 12) (s : State) : ArrayOnly s (takeSettle n s) := by
  unfold takeSettle settle; dsimp only; split
  · refine ArrayOnly.trans ?_ (runPass_array _)
    split
    · rfl
    · refine ArrayOnly.trans ?_ (emitOn_array ..); rfl
  · rfl

/-! ## Commit points -/

theorem takeClaimClose_avails (i : Fin 64) (s : State) : AvailsOnly s (takeClaimClose i s) := by
  unfold takeClaimClose; split
  · exact arbitrate_avails ..
  · rfl

theorem takeOutCommit_break (i : Fin 64) (s : State) : BreakOnly s (takeOutCommit i s) := by
  unfold takeOutCommit; split
  · exact outCommit_break ..
  · rfl

theorem takeFillCommit_break (i : Fin 64) (s : State) : BreakOnly s (takeFillCommit i s) := by
  unfold takeFillCommit; split
  · split
    · exact fillCommit_break ..
    · rfl
  · rfl

theorem takeInCommit_break (i : Fin 64) (s : State) : BreakOnly s (takeInCommit i s) := by
  unfold takeInCommit; split
  · exact inCommit_break ..
  · rfl

theorem takeAlertExpiry_timeKept (a : Fin 4) (s : State) : TimeKept s (takeAlertExpiry a s) := by
  refine TimeKept.trans ?_ (takeAlertExpiry_frame a s).timeKept; rfl

/-! ## What the requests' blocks do -/

theorem subscribeAct_timeKept (p : Fin 4) (m : BitVec 24) (s : State) : TimeKept s (subscribeAct p m s).state := by
  unfold subscribeAct; split <;> rfl

theorem rejoinAct_timeKept (p : Fin 4) (s : State) : TimeKept s (rejoinAct p s).state := by
  unfold rejoinAct; dsimp only; split <;> rfl

theorem readLaneAct_state (b : Byte) (s : State) : (readLaneAct b s).state = s := by unfold readLaneAct; split <;> rfl
theorem readFeedAct_state (b : Byte) (s : State) : (readFeedAct b s).state = s := by unfold readFeedAct; split <;> rfl
theorem readPairAct_state (b : Byte) (s : State) : (readPairAct b s).state = s := by unfold readPairAct; split <;> rfl
theorem readFilterAct_state (b : Byte) (s : State) : (readFilterAct b s).state = s := by unfold readFilterAct; split <;> rfl
theorem readAvailAct_state (h : RawHandle) (s : State) : (readAvailAct h s).state = s := by unfold readAvailAct; split <;> rfl
theorem readLaneAvailsAct_state (b : Byte) (s : State) : (readLaneAvailsAct b s).state = s := by
  unfold readLaneAvailsAct; split <;> rfl
theorem readStandingAct_state (b : Byte) (s : State) : (readStandingAct b s).state = s := by unfold readStandingAct; split <;> rfl
theorem readWindowAct_state (b : Byte) (s : State) : (readWindowAct b s).state = s := by unfold readWindowAct; split <;> rfl

theorem readHitAct_timeKept (b : Byte) (s : State) : TimeKept s (readHitAct b s).state := by unfold readHitAct; split <;> rfl

theorem takeStrayAct_timeKept (s : State) : TimeKept s (takeStrayAct s).state := by unfold takeStrayAct; split <;> rfl

theorem writeLaneAct_break (r : RawLane) (s : State) : BreakOnly s (writeLaneAct r s).state := by
  unfold writeLaneAct; split
  · rfl
  · split
    · rfl
    · rfl
    · exact acceptLane_break ..

theorem laneResetAct_break (b : Byte) (s : State) : BreakOnly s (laneResetAct b s).state := by
  unfold laneResetAct; split
  · rfl
  · split
    · exact resetLane_break ..
    · rfl

theorem writePairAct_timeKept (r : RawPair) (s : State) : TimeKept s (writePairAct r s).state := by
  unfold writePairAct; split
  · rfl
  · dsimp only; split
    · rfl
    · split <;> rfl

theorem updPair_timeKept (k : Fin 6) (f : Pair → Pair) (s : State) : TimeKept s (s.updPair k f) := rfl

theorem primeCell_timeKept (n : Fin 12) (s : State) : TimeKept s (primeCell n s) := rfl

theorem forceCell_timeKept (n : Fin 12) (s : State) : TimeKept s (forceCell n s) := rfl

theorem primePair_timeKept (k : Fin 6) (s : State) : TimeKept s (primePair k s) :=
  (((updPair_timeKept ..).trans (primeCell_timeKept ..)).trans (primeCell_timeKept ..)).trans (updPair_timeKept ..)

theorem forcePair_timeKept (k : Fin 6) (s : State) : TimeKept s (forcePair k s) :=
  ((forceCell_timeKept ..).trans (forceCell_timeKept ..)).trans (updPair_timeKept ..)

theorem enablePairAct_timeKept (r : RawEnable) (s : State) : TimeKept s (enablePairAct r s).state := by
  unfold enablePairAct; split
  · rfl
  · dsimp only; split
    · rfl
    · dsimp only; split
      · exact (updPair_timeKept ..).trans (primePair_timeKept ..)
      · exact (updPair_timeKept ..).trans (forcePair_timeKept ..)
      all_goals rfl

theorem setCueOutputAct_timeKept (r : RawOutput) (s : State) : TimeKept s (setCueOutputAct r s).state := by
  unfold setCueOutputAct; split <;> rfl

theorem writeFilterAct_timeKept (r : RawFilter) (s : State) : TimeKept s (writeFilterAct r s).state := by
  unfold writeFilterAct; split
  · rfl
  · dsimp only; split <;> rfl

theorem bookAct_avails (p : Fin 4) (r : RawBooking) (s : State) : AvailsOnly s (bookAct p r s).state := by
  unfold bookAct; split
  · rfl
  · split
    · rfl
    · dsimp only; split <;> exact acceptBreak_avails ..

theorem cancelAct_avails (h : RawHandle) (s : State) : AvailsOnly s (cancelAct h s).state := by
  unfold cancelAct; split
  · rfl
  · dsimp only; split
    · exact finish_avails ..
    · exact finish_avails ..
    · exact pullIn_avails ..
    all_goals rfl

theorem releaseAvail_avails (i : Fin 64) (s : State) : AvailsOnly s (releaseAvail i s) :=
  (updAvail_avails ..).trans (pullIn_avails ..)

theorem releaseAct_avails (p : Fin 4) (h : RawHandle) (s : State) : AvailsOnly s (releaseAct p h s).state := by
  unfold releaseAct; split
  · rfl
  · split
    · split
      · exact releaseAvail_avails ..
      · rfl
    all_goals rfl

theorem claimAct_avails (p : Fin 4) (r : RawClaim) (s : State) : AvailsOnly s (claimAct p r s).state := by
  unfold claimAct; split
  · rfl
  · split
    · rfl
    · dsimp only; split <;> rfl

theorem withdrawAct_avails (p : Fin 4) (h : RawHandle) (s : State) : AvailsOnly s (withdrawAct p h s).state := by
  unfold withdrawAct; split
  · rfl
  · dsimp only; split
    · split <;> rfl
    · split <;> rfl
    · split
      · exact releaseAvail_avails ..
      · rfl
    · split <;> rfl
    all_goals rfl

theorem standAct_timeKept (p : Fin 4) (r : RawStand) (s : State) : TimeKept s (standAct p r s).state := by
  unfold standAct; split <;> rfl

theorem standClearAct_timeKept (p : Fin 4) (b : Byte) (s : State) : TimeKept s (standClearAct p b s).state := by
  unfold standClearAct; split
  · rfl
  · split <;> rfl

theorem setPaused_timeKept (p : Fin 4) (b : Byte) (x : Bool) (s : State) : TimeKept s (setPaused p b x s).state := by
  unfold setPaused; split
  · rfl
  · split <;> rfl

theorem windowConsequence_break (w : Fin 16) (old : Window) (s : State) : BreakOnly s (windowConsequence w old s) := by
  unfold windowConsequence; dsimp only; split
  · exact (raise_ports ..).break.trans (windowChange_break ..)
  · split
    · exact (raise_ports ..).break.trans (windowChange_break ..)
    · split <;> rfl

theorem writeWindowAct_timeKept (r : RawWindow) (s : State) : TimeKept s (writeWindowAct r s).state := by
  unfold writeWindowAct; split
  · rfl
  · dsimp only; split
    · rfl
    · unfold acceptWindow; dsimp only; split
      · refine TimeKept.trans ?_ (windowConsequence_break ..).timeKept; rfl
      · rfl

theorem beginAlert_timeKept (a : Fin 4) (A : Alert) (c : BeginCause) (s : State) : TimeKept s (beginAlert a A c s) := rfl

theorem endAlert_timeKept (a : Fin 4) (A : Alert) (r : EndReason) (e : Option (Fin 4)) (s : State) : TimeKept s (endAlert a A r e s) := rfl

theorem startAlert_timeKept (A : Alert) (s : State) : TimeKept s (startAlert A s).state := by
  unfold startAlert; split
  · exact (beginAlert_timeKept ..).trans (alertChange_break ..).timeKept
  · split
    · exact (beginAlert_timeKept ..).trans (alertChange_break ..).timeKept
    · split
      · rfl
      · split
        · rfl
        · exact ((endAlert_timeKept ..).trans (beginAlert_timeKept ..)).trans (alertChange_break ..).timeKept

theorem alertStartAct_timeKept (p : Fin 4) (r : RawAlert) (s : State) : TimeKept s (alertStartAct p r s).state := by
  unfold alertStartAct; split
  · rfl
  · exact startAlert_timeKept ..

theorem alertEndAct_timeKept (p : Fin 4) (b : Byte) (s : State) : TimeKept s (alertEndAct p b s).state := by
  unfold alertEndAct; split
  · rfl
  · split
    · rfl
    · split
      · rfl
      · exact (endAlert_timeKept ..).trans (alertChange_break ..).timeKept

/-! ## Every command -/

/-- The commands that write the Time Base: the reset pin, the clock, the second boundary and SET CALENDAR (R1, R9, R13). -/
def setsTime : Instr → Bool
  | .powerOnReset _ _ | .secondBoundary | .setCalendar _ _ | .stationTick => true
  | _ => false

/-- Every other command leaves the Time Base as it was. -/
theorem exec_timeKept (c : Instr) (s t : State) (hc : setsTime c = false) (h : exec c s = .next t) : TimeKept s t := by
  cases c <;> (have ht := Host.Outcome.next.inj h; subst ht)
  case powerOnReset => cases hc
  case secondBoundary => cases hc
  case setCalendar => cases hc
  case stationTick => cases hc
  case chipSelectAssert => rfl
  case fetchCheckByte => rfl
  case malformedFrame => exact takeBytes_timeKept ..
  case fetch => exact takeFetch_timeKept ..
  case quietExpiry => exact takeQuietExpiry_timeKept ..
  case orderSendStart => exact startSend_timeKept ..
  case orderSendEnd => exact endSend_timeKept ..
  case done => exact takeDone_timeKept ..
  case fault => exact takeFault_timeKept ..
  case fabricMessageMalformed => exact takeMalformed_timeKept ..
  case ackTimerExpiry => exact takeAckExpiry_timeKept ..
  case recordArrival => exact takeArrival_timeKept ..
  case intakeTaking => exact takeIntake_timeKept ..
  case lineChange => exact takeLineChange_timeKept ..
  case settleExpiry => exact (takeSettle_array ..).timeKept
  case claimClose => exact (takeClaimClose_avails ..).timeKept
  case outCommitPoint => exact (takeOutCommit_break ..).timeKept
  case fillCommitPoint => exact (takeFillCommit_break ..).timeKept
  case inCommitPoint => exact (takeInCommit_break ..).timeKept
  case alertExpiry => exact takeAlertExpiry_timeKept ..
  all_goals apply takeRequest_timeKept; intro x
  case status => exact updPort_timeKept ..
  case subscribe => exact subscribeAct_timeKept ..
  case rejoin => exact rejoinAct_timeKept ..
  case readTime => rfl
  case readLane => rw [readLaneAct_state]; rfl
  case writeLane => exact (writeLaneAct_break ..).timeKept
  case laneReset => exact (laneResetAct_break ..).timeKept
  case readOrderLink => rfl
  case readIntake => rfl
  case readFeed => rw [readFeedAct_state]; rfl
  case readCueLogic => rfl
  case readPair => rw [readPairAct_state]; rfl
  case writePair => exact writePairAct_timeKept ..
  case enablePair => exact enablePairAct_timeKept ..
  case setCueOutput => exact setCueOutputAct_timeKept ..
  case readFilter => rw [readFilterAct_state]; rfl
  case writeFilter => exact writeFilterAct_timeKept ..
  case readHit => exact readHitAct_timeKept ..
  case readStrays => rfl
  case takeStray => exact takeStrayAct_timeKept ..
  case readAvail => rw [readAvailAct_state]; rfl
  case readLaneAvails => rw [readLaneAvailsAct_state]; rfl
  case bookAvail => exact (bookAct_avails ..).timeKept
  case cancelAvail => exact (cancelAct_avails ..).timeKept
  case release => exact (releaseAct_avails ..).timeKept
  case claim => exact (claimAct_avails ..).timeKept
  case withdraw => exact (withdrawAct_avails ..).timeKept
  case stand => exact standAct_timeKept ..
  case standClear => exact standClearAct_timeKept ..
  case standPause => exact setPaused_timeKept ..
  case standResume => exact setPaused_timeKept ..
  case readStanding => rw [readStandingAct_state]; rfl
  case readWindow => rw [readWindowAct_state]; rfl
  case writeWindow => exact writeWindowAct_timeKept ..
  case readAlerts => rfl
  case alertStart => exact alertStartAct_timeKept ..
  case alertEnd => exact alertEndAct_timeKept ..

end Sys2Proof.Machine
end

section
/-! SUPPORT. What the commands that write the Time Base leave in it: STATION_TICK's sweep, the second boundary and SET CALENDAR. -/

namespace Sys2Proof.Machine

/-! ## The calendar -/

/-- The calendar lies within R7's ranges. -/
abbrev Calendar.InRange (c : Calendar) : Prop :=
  2000 ≤ c.year ∧ c.year ≤ 2199 ∧ 1 ≤ c.month ∧ c.month ≤ 12 ∧ 1 ≤ c.day ∧ c.day ≤ monthLength c.year c.month ∧ c.hour ≤ 23 ∧
    c.minute ≤ 59 ∧ c.second ≤ 59 ∧ 1 ≤ c.dow ∧ c.dow ≤ 7

theorem calendarSound_iff (s : State) : CalendarSound s ↔ s.calendar.InRange ∧ s.calPhase < 180000 := by
  simp only [CalendarSound, Calendar.InRange, and_assoc]

theorem timeBase_tick {s : State} {T : Tick} {b : Bool} {c : Calendar} {φ : Nat} (h : s.timeBase = (T, b, c, φ)) : s.tick = T :=
  congrArg Prod.fst h

theorem timeBase_calendar {s : State} {T : Tick} {b : Bool} {c : Calendar} {φ : Nat} (h : s.timeBase = (T, b, c, φ)) : s.calendar = c :=
  congrArg (fun x => x.2.2.1) h

theorem calendarSound_of_timeBase {s : State} {T : Tick} {b : Bool} {c : Calendar} {φ : Nat} (h : s.timeBase = (T, b, c, φ))
    (hc : c.InRange) (hφ : φ < 180000) : CalendarSound s := by
  simp only [State.timeBase, Prod.mk.injEq] at h
  obtain ⟨-, -, rfl, rfl⟩ := h
  exact (calendarSound_iff s).mpr ⟨hc, hφ⟩

/-- No month is empty (R8). -/
theorem monthLength_pos (y m : Nat) : 1 ≤ monthLength y m := by
  unfold monthLength; repeat' split
  all_goals omega

/-- A day later the calendar is still in range (R9). -/
theorem Calendar.nextDay_inRange {c : Calendar} (h : c.InRange) : c.nextDay.InRange := by
  obtain ⟨hy, hy', hm, hm', hd, hd', hh, hmi, hs, hw, hw'⟩ := h
  have dow : 1 ≤ (if c.dow + 1 = 8 then 1 else c.dow + 1) ∧ (if c.dow + 1 = 8 then 1 else c.dow + 1) ≤ 7 := by split <;> omega
  unfold Calendar.nextDay; dsimp only; split
  · exact ⟨hy, hy', hm, hm', by simp, ‹_›, hh, hmi, hs, dow⟩
  · split
    · exact ⟨hy, hy', by simp, ‹_›, by simp, monthLength_pos _ _, hh, hmi, hs, dow⟩
    · exact ⟨by dsimp only; split <;> omega, by dsimp only; split <;> omega, by simp, by simp, by simp, monthLength_pos _ _,
        hh, hmi, hs, dow⟩

/-- A second later the calendar is still in range (R9). -/
theorem Calendar.advance_inRange {c : Calendar} (h : c.InRange) : c.advance.InRange := by
  obtain ⟨ny, ny', nm, nm', nd, nd', _, _, _, nw, nw'⟩ := Calendar.nextDay_inRange h
  obtain ⟨hy, hy', hm, hm', hd, hd', hh, hmi, hs, hw, hw'⟩ := h
  unfold Calendar.advance; split
  · exact ⟨hy, hy', hm, hm', hd, hd', hh, hmi, by dsimp only; omega, hw, hw'⟩
  · split
    · exact ⟨hy, hy', hm, hm', hd, hd', hh, by dsimp only; omega, by simp, hw, hw'⟩
    · split
      · exact ⟨hy, hy', hm, hm', hd, hd', by dsimp only; omega, by simp, by simp, hw, hw'⟩
      · exact ⟨ny, ny', nm, nm', nd, nd', by simp, by simp, by simp, nw, nw'⟩

/-! ## The second boundary -/

theorem windowBoundary_timeKept (s : State) : TimeKept s (windowBoundary s) := by
  refine TimeKept.trans ?_ (windowBoundary_frame s).timeKept; rfl

/-- What a second boundary leaves in the Time Base, due or not (R9, R10). -/
theorem takeBoundary_timeBase (s : State) :
    (takeBoundary s).timeBase = (s.tick, false, if s.boundaryDue then s.calendar.advance else s.calendar, s.calPhase) := by
  unfold takeBoundary; split
  · exact windowBoundary_timeKept _
  · rename_i h; simp [State.timeBase, h]

/-! ## SET CALENDAR -/

theorem within_eq_some_iff (lo hi n m : Nat) : within lo hi n = some m ↔ (lo ≤ n ∧ n ≤ hi) ∧ n = m := by
  unfold within; split <;> simp_all

/-- The calendar that a SET CALENDAR's bytes spell, in range or not (R12). -/
def spelledCalendar (r : RawCalendar) : Calendar :=
  { year := r.year.toNat, month := r.month.toNat, day := r.day.toNat, hour := r.hour.toNat, minute := r.minute.toNat,
    second := r.second.toNat, dow := r.dow.toNat }

/-- SET CALENDAR takes the calendar that its bytes spell, where that is in range (R12). -/
theorem calendarOf_eq_some_iff (r : RawCalendar) (c : Calendar) : calendarOf r = some c ↔
    (spelledCalendar r).InRange ∧ spelledCalendar r = c := by
  simp only [calendarOf, Option.bind_eq_bind, Option.bind_eq_some_iff, within_eq_some_iff, Option.pure_def, Option.some.injEq]
  unfold spelledCalendar Calendar.InRange
  constructor
  · rintro ⟨_, ⟨⟨hy, hy'⟩, rfl⟩, _, ⟨⟨hm, hm'⟩, rfl⟩, _, ⟨⟨hd, hd'⟩, rfl⟩, _, ⟨⟨_, hh⟩, rfl⟩, _, ⟨⟨_, hmi⟩, rfl⟩, _, ⟨⟨_, hs⟩, rfl⟩, _,
      ⟨⟨hw, hw'⟩, rfl⟩, rfl⟩
    exact ⟨⟨hy, hy', hm, hm', hd, hd', hh, hmi, hs, hw, hw'⟩, rfl⟩
  · rintro ⟨⟨hy, hy', hm, hm', hd, hd', hh, hmi, hs, hw, hw'⟩, rfl⟩
    exact ⟨_, ⟨⟨hy, hy'⟩, rfl⟩, _, ⟨⟨hm, hm'⟩, rfl⟩, _, ⟨⟨hd, hd'⟩, rfl⟩, _, ⟨⟨Nat.zero_le _, hh⟩, rfl⟩, _, ⟨⟨Nat.zero_le _, hmi⟩, rfl⟩, _,
      ⟨⟨Nat.zero_le _, hs⟩, rfl⟩, _, ⟨⟨hw, hw'⟩, rfl⟩, rfl⟩

theorem calendarOf_inRange (r : RawCalendar) (h : (spelledCalendar r).InRange) : calendarOf r = some (spelledCalendar r) :=
  (calendarOf_eq_some_iff r _).mpr ⟨h, rfl⟩

theorem calendarOf_outOfRange (r : RawCalendar) (h : ¬(spelledCalendar r).InRange) : calendarOf r = none :=
  Option.eq_none_iff_forall_ne_some.mpr fun c hc => h ((calendarOf_eq_some_iff r c).mp hc).1

/-- What SET CALENDAR's block does to the Time Base (R12, R13). -/
theorem setCalendarAct_cases (p : Fin 4) (r : RawCalendar) (s : State) :
    ((spelledCalendar r).InRange ∧
        setCalendarAct p r s = ⟨.ok, .calendarSet s.tick (phaseAt s.tick), setCalendar p (spelledCalendar r) s⟩) ∨
      (¬(spelledCalendar r).InRange ∧ setCalendarAct p r s = refuse .range s) := by
  unfold setCalendarAct
  by_cases h : (spelledCalendar r).InRange
  · rw [calendarOf_inRange r h]; exact .inl ⟨h, rfl⟩
  · rw [calendarOf_outOfRange r h]; exact .inr ⟨h, rfl⟩

theorem setCalendar_timeBase (p : Fin 4) (c : Calendar) (s : State) :
    (setCalendar p c s).timeBase = (s.tick, false, c, phaseAt s.tick) := rfl

theorem phaseAt_lt (t : Tick) : phaseAt t < 180000 := Nat.mod_lt _ (by decide)

/-! ## The sweep and the clock -/

/-- A sweep keeps what each of its members' events keeps. -/
theorem sweep_keeps {n : Nat} (R : State → State → Prop) (hr : ∀ s, R s s) (ht : ∀ s t u, R s t → R t u → R s u)
    (take : Fin n → State → State) (h : ∀ i s, R s (take i s)) (s : State) : R s (sweep take s) :=
  foldl_keeps R hr ht _ (fun s i => h i s) _ s

theorem sweep_timeKept {n : Nat} (take : Fin n → State → State) (h : ∀ i s, TimeKept s (take i s)) (s : State) :
    TimeKept s (sweep take s) := sweep_keeps TimeKept TimeKept.refl (fun _ _ _ => TimeKept.trans) take h s

/-- Only the second boundary of a sweep writes the Time Base. -/
theorem settleTick_timeKept (s : State) : TimeKept (takeBoundary s) (settleTick s) := by
  unfold settleTick
  refine TimeKept.trans ?_ (startSend_timeKept _)
  refine TimeKept.trans ?_ (sweep_timeKept _ (fun i s => (takeInCommit_break i s).timeKept) _)
  refine TimeKept.trans ?_ (sweep_timeKept _ (fun i s => (takeFillCommit_break i s).timeKept) _)
  refine TimeKept.trans ?_ (sweep_timeKept _ (fun i s => (takeOutCommit_break i s).timeKept) _)
  refine TimeKept.trans ?_ (sweep_timeKept _ (fun i s => (takeClaimClose_avails i s).timeKept) _)
  refine TimeKept.trans ?_ (sweep_timeKept _ takeAckExpiry_timeKept _)
  refine TimeKept.trans ?_ (sweep_timeKept _ takeQuietExpiry_timeKept _)
  refine TimeKept.trans ?_ (sweep_timeKept _ takeAlertExpiry_timeKept _)
  exact sweep_timeKept _ (fun n s => (takeSettle_array n s).timeKept) _

/-- What a sweep leaves in the Time Base (R2, R9, R10). -/
theorem settleTick_timeBase (s : State) :
    (settleTick s).timeBase = (s.tick, false, if s.boundaryDue then s.calendar.advance else s.calendar, s.calPhase) :=
  Eq.trans (settleTick_timeKept s) (takeBoundary_timeBase s)

/-- What STATION_TICK leaves in the Time Base (R1, R9, R10). -/
theorem advanceTick_settleTick_timeBase (s : State) :
    (advanceTick (settleTick s)).timeBase =
      (s.tick + 1, onCalendarPhase (s.tick + 1) s.calPhase, if s.boundaryDue then s.calendar.advance else s.calendar, s.calPhase) := by
  have h := settleTick_timeBase s
  simp only [State.timeBase, Prod.mk.injEq] at h
  obtain ⟨ht, -, hc, hp⟩ := h
  simp only [State.timeBase, advanceTick, ht, hc, hp]

/-- A request that reaches its block (R188). -/
theorem takeRequest_of_accepts {p : Fin 4} {r : Req} {s : State} (h : Accepts p r s) (act : State → Answer) :
    takeRequest p r act s = answer p r (act (goodFrame p s)).code (act (goodFrame p s)).body (act (goodFrame p s)).state := by
  obtain ⟨hr, hd, hp, he⟩ := h
  exact takeRequest_accepted p r act s hr hd hp he

theorem answer_timeBase (p : Fin 4) (r : Req) (c : ReplyCode) (b : ReplyBody) (s : State) :
    (answer p r c b s).timeBase = s.timeBase := rfl

/-- SET CALENDAR leaves the Time Base as it was, or sets it to a calendar in range (R12, R13). -/
theorem takeRequest_setCalendar_timeBase (p : Fin 4) (r : RawCalendar) (s : State) :
    (takeRequest p .setCalendar (setCalendarAct p r) s).timeBase = s.timeBase ∨
      ((spelledCalendar r).InRange ∧
        (takeRequest p .setCalendar (setCalendarAct p r) s).timeBase = (s.tick, false, (spelledCalendar r), phaseAt s.tick)) := by
  have hg : (goodFrame p s).timeBase = s.timeBase := goodFrame_timeKept p s
  rcases takeRequest_cases p .setCalendar (setCalendarAct p r) s with h | h | h | ⟨_, _, _, h⟩ <;> rw [h]
  · exact .inl hg
  · exact .inl hg
  · exact .inl hg
  · rcases setCalendarAct_cases p r (goodFrame p s) with ⟨hr, e⟩ | ⟨-, e⟩ <;> rw [e]
    · refine .inr ⟨hr, ?_⟩
      rw [answer_timeBase, setCalendar_timeBase, goodFrame_tick]
    · exact .inl hg

/-! ## What every command can do to the Time Base -/

/-- Everything that a command can do to the Time Base (R1, R9, R10, R13): nothing, the reset, a second boundary, an accepted SET CALENDAR, or
the clock. -/
theorem exec_timeBase_cases (c : Instr) (s t : State) (h : exec c s = .next t) :
    TimeKept s t ∨ (∃ x y, c = .powerOnReset x y ∧ t.timeBase = (0, false, {}, 0)) ∨
      (c = .secondBoundary ∧ t.timeBase = (s.tick, false, if s.boundaryDue then s.calendar.advance else s.calendar, s.calPhase)) ∨
      (∃ p r, c = .setCalendar p r ∧ (spelledCalendar r).InRange ∧ t.timeBase = (s.tick, false, spelledCalendar r, phaseAt s.tick)) ∨
      (c = .stationTick ∧ t.timeBase = (s.tick + 1, onCalendarPhase (s.tick + 1) s.calPhase,
        if s.boundaryDue then s.calendar.advance else s.calendar, s.calPhase)) := by
  cases hc : setsTime c
  · exact .inl (exec_timeKept c s t hc h)
  · cases c <;> first | (cases hc; done) | (have ht := Host.Outcome.next.inj h; subst ht)
    case powerOnReset x y => exact .inr (.inl ⟨x, y, rfl, rfl⟩)
    case secondBoundary => exact .inr (.inr (.inl ⟨rfl, takeBoundary_timeBase s⟩))
    case setCalendar p r =>
      rcases takeRequest_setCalendar_timeBase p r s with e | ⟨hr, e⟩
      · exact .inl e
      · exact .inr (.inr (.inr (.inl ⟨p, r, rfl, hr, e⟩)))
    case stationTick => exact .inr (.inr (.inr (.inr ⟨rfl, advanceTick_settleTick_timeBase s⟩)))

end Sys2Proof.Machine
end

section
/-! Station time and the calendar: the statements of Chapter 1. -/

namespace Sys2Proof.Certificates

open Sys2Proof.Machine

/-- Settles O8, from what every command can do to the Time Base. -/
theorem tickOnlyByClock : Obligations.TickOnlyByClock := by
  refine ⟨fun c s t h hclock hreset => ?_, fun s => ⟨_, rfl, ?_⟩⟩
  · rcases exec_timeBase_cases c s t h with k | ⟨x, y, rfl, -⟩ | ⟨-, e⟩ | ⟨p, r, -, -, e⟩ | ⟨rfl, -⟩
    · exact k.tick
    · exact absurd rfl (hreset x y)
    · exact timeBase_tick e
    · exact timeBase_tick e
    · exact absurd rfl hclock
  · exact timeBase_tick (advanceTick_settleTick_timeBase s)

/-- Settles O12, from what every command can do to the Time Base: the calendars that come into it are in range. -/
theorem calendarSoundKept : Obligations.CalendarSoundKept := by
  intro s t hs hstep
  have hadv : (if s.boundaryDue then s.calendar.advance else s.calendar).InRange := by
    obtain ⟨hr, -⟩ := (calendarSound_iff s).mp hs
    split
    · exact Calendar.advance_inRange hr
    · exact hr
  obtain ⟨-, hphase⟩ := (calendarSound_iff s).mp hs
  unfold step at hstep
  split at hstep
  · cases hstep; exact hs
  · rcases exec_timeBase_cases _ _ _ hstep with k | ⟨x, y, -, e⟩ | ⟨-, e⟩ | ⟨p, r, -, hr, e⟩ | ⟨-, e⟩
    · exact k.calendarSound hs
    · exact calendarSound_of_timeBase e (by decide) (by decide)
    · exact calendarSound_of_timeBase e hadv hphase
    · exact calendarSound_of_timeBase e hr (phaseAt_lt _)
    · exact calendarSound_of_timeBase e hadv hphase

end Sys2Proof.Certificates
end

section
/-! SUPPORT. The state at the release of reset, table by table (R1). -/

namespace Sys2Proof.Machine

/-- The state at the release of reset, with the commands that wait outside the part (R1; log entry 2). -/
def State.released (roles : Vector Role 4) (lines : BitVec 24) (q : List Instr) : State :=
  { State.initial roles lines with pending := q }

theorem exec_powerOnReset (straps : BitVec 8) (lines : BitVec 24) (s : State) :
    exec (.powerOnReset straps lines) s = .next (State.released (rolesOfStraps straps) lines s.pending) := rfl

theorem reset_eq_released : State.reset = State.released (Vector.replicate 4 .scheduler) 0 [] := rfl

variable (roles : Vector Role 4) (lines : BitVec 24) (q : List Instr)

@[simp] theorem released_lane (l : Fin 32) : (State.released roles lines q).lane l = {} := by
  simp [State.lane, State.released, State.initial]
@[simp] theorem released_order (l : Fin 32) : (State.released roles lines q).order l = none := by
  simp [State.order, State.released, State.initial]
@[simp] theorem released_feedRef (f : Fin 32) : (State.released roles lines q).feedRef f = {} := by
  simp [State.feedRef, State.released, State.initial]
@[simp] theorem released_cell (n : Fin 12) : (State.released roles lines q).cell n = {} := by
  simp [State.cell, State.released, State.initial]
@[simp] theorem released_pair (k : Fin 6) : (State.released roles lines q).pair k = {} := by
  simp [State.pair, State.released, State.initial]
@[simp] theorem released_output (o : Fin 8) : (State.released roles lines q).output o = .low := by
  simp [State.output, State.released, State.initial]
@[simp] theorem released_filter (i : Fin 48) : (State.released roles lines q).filter i = {} := by
  simp [State.filter, State.released, State.initial]
@[simp] theorem released_avail (i : Fin 64) : (State.released roles lines q).avail i = {} := by
  simp [State.avail, State.released, State.initial]
@[simp] theorem released_place (l : Fin 32) (p : Fin 4) : (State.released roles lines q).place l p = none := by
  simp [State.place, State.released, State.initial]
@[simp] theorem released_window (w : Fin 16) : (State.released roles lines q).window w = {} := by
  simp [State.window, State.released, State.initial]
@[simp] theorem released_alert (a : Fin 4) : (State.released roles lines q).alert a = none := by
  simp [State.alert, State.released, State.initial]
@[simp] theorem released_port (p : Fin 4) : (State.released roles lines q).port p = { role := roles[p.val] } := by
  fin_cases p <;> rfl
@[simp] theorem released_orderQueue : (State.released roles lines q).orderQueue = [] := rfl
@[simp] theorem released_sending : (State.released roles lines q).sending = none := rfl
@[simp] theorem released_recency : (State.released roles lines q).recency = [] := rfl

/-- Every cue output is low at reset (R83). -/
theorem released_outputLevel (o : Fin 8) : (State.released roles lines q).outputLevel o = false := by
  unfold State.outputLevel; rw [released_output]

/-- No port asks for attention at reset (R193). -/
theorem released_attention (p : Fin 4) : (State.released roles lines q).attention p = false := by
  unfold State.attention; rw [released_port]; rfl

/-- The role that a port's two strap pins give (R184). -/
theorem rolesOfStraps_getElem (straps : BitVec 8) (p : Fin 4) :
    (rolesOfStraps straps)[p.val] = roleOfStraps (straps.getLsbD (2 * p.val + 1)) (straps.getLsbD (2 * p.val)) := by
  fin_cases p <;> rfl

/-- The reset state meets every invariant on orders (R38, R39). -/
theorem released_ordersSound : OrdersSound (State.released roles lines q) := by
  refine ⟨fun l => ?_, ?_, fun l o ho => ?_, ?_, ?_⟩
  · rw [released_lane, released_order]; exact ⟨rfl, fun _ => ⟨rfl, rfl⟩⟩
  · simp
  · simp at ho
  · simp
  · simp

/-- The buffers are empty and the counts zero at reset. -/
theorem released_buffersSound : BuffersSound (State.released roles lines q) := by
  have zero {n : Nat} : 0 ≤ n := Nat.zero_le n
  refine ⟨zero, zero, zero, zero, zero, zero, zero, fun f => ?_, fun i => ?_⟩
  · rw [released_filter]; exact zero
  · rw [released_avail]; exact ⟨zero, zero⟩

theorem released_portsSound : PortsSound (State.released roles lines q) := fun p => by rw [released_port]; simp [PortSound]

end Sys2Proof.Machine
end

section
/-! SUPPORT. Reads: a request whose block leaves the state it found. -/

namespace Sys2Proof.Machine

/-- A request whose block changes nothing and reads nothing of the port records answers as from the state before the frame (R188). -/
theorem exec_read {p : Fin 4} {r : Req} {s : State} (h : Accepts p r s) (act : State → Answer)
    (hact : ∀ (x : State) (P : Vector Port 4), (act { x with ports := P }).code = (act x).code ∧
      (act { x with ports := P }).body = (act x).body) (hstate : ∀ x, (act x).state = x) :
    takeRequest p r act s = answer p r (act s).code (act s).body (goodFrame p s) := by
  obtain ⟨hc, hb⟩ := hact s (goodFrame p s).ports
  rw [← goodFrame_frame p s] at hc hb
  rw [takeRequest_of_accepts h, hstate, hc, hb]

end Sys2Proof.Machine
end

section
/-! The queue, reset and the reads without operands: the statements of tier 1. -/

namespace Sys2Proof.Certificates

open Sys2Proof.Machine

/-- Settles O1: a step's own definition. -/
theorem stepTakesFront : Obligations.StepTakesFront := fun _ _ _ => rfl

/-- Settles O5, table by table. -/
theorem resetValues : Obligations.ResetValues := by
  intro straps lines s
  refine ⟨_, exec_powerOnReset straps lines s, rfl, rfl, rfl, rfl, rfl, rfl, rfl, rfl, rfl, rfl, rfl, rfl, rfl, rfl, rfl, rfl, rfl,
    fun l => ?_, fun f => ?_, fun n => ?_, fun k => ?_, released_outputLevel _ _ _, fun i => ?_, fun i => ?_, fun l p => ?_, fun w => ?_,
    fun a => ?_, fun p => ?_⟩
  · rw [released_lane, released_order]; repeat' constructor
  · rw [released_feedRef]
  · rw [released_cell]; repeat' constructor
  · rw [released_pair]; repeat' constructor
  · rw [released_filter]; repeat' constructor
  · rw [released_avail]; repeat' constructor
  · rw [released_place]
  · rw [released_window]; repeat' constructor
  · rw [released_alert]
  · rw [released_port]
    exact ⟨rfl, rfl, rfl, rfl, rfl, rfl, rfl, released_attention _ _ _ p, rolesOfStraps_getElem straps p⟩

/-- Settles O6: at reset every table holds its initial records. -/
theorem resetMeetsInvariants : Obligations.ResetMeetsInvariants := by
  unfold Obligations.ResetMeetsInvariants
  rw [reset_eq_released]
  refine ⟨released_portsSound _ _ _, fun p hp => ?_, by decide, fun l => ?_, released_ordersSound _ _ _, released_buffersSound _ _ _,
    fun k _ => ?_, fun w => ?_, ?_, ?_, fun i => ?_⟩
  · rw [released_port] at hp; cases hp
  · rw [released_lane]; decide
  · simp [released_cell, released_pair]
  · rw [released_window]; simp [WindowSound]
  · simp [AlertsSound]
  · simp [AvailsSound, Avail.live, Avail.airing]
  · rw [released_avail]; simp

/-- Settles O23: each block reads nothing of the port records, so that it answers as from the state before the frame. -/
theorem readsWithoutOperand : Obligations.ReadsWithoutOperand := by
  refine ⟨fun s o => ⟨fun h => ?_, fun n k h hk => ?_, fun k h => ?_⟩, fun p s => ⟨?_, ?_, ?_, ?_, ?_, ?_⟩⟩
  · unfold State.outputLevel; rw [h]
  · have hpair : pairOf n = k := Fin.ext hk
    unfold State.outputLevel State.filteredOut; rw [h, ← hpair]
  · unfold State.outputLevel; rw [h]; rfl
  · exact fun h => congrArg _ (exec_read h readTimeAct (fun _ _ => ⟨rfl, rfl⟩) fun _ => rfl)
  · exact fun h => congrArg _ (exec_read h readOrderLinkAct (fun _ _ => ⟨rfl, rfl⟩) fun _ => rfl)
  · exact fun h => congrArg _ (exec_read h readIntakeAct (fun _ _ => ⟨rfl, rfl⟩) fun _ => rfl)
  · exact fun h => congrArg _ (exec_read h readCueLogicAct (fun _ _ => ⟨rfl, rfl⟩) fun _ => rfl)
  · exact fun h => congrArg _ (exec_read h readStraysAct (fun _ _ => ⟨rfl, rfl⟩) fun _ => rfl)
  · exact fun h => congrArg _ (exec_read h readAlertsAct (fun _ _ => ⟨rfl, rfl⟩) fun _ => rfl)

end Sys2Proof.Certificates
end

section
/-! SUPPORT. The carries of the calendar (R9), and ticks on the frame grid across the wrap of the counter (R5, R6). -/

namespace Sys2Proof.Machine

/-! ## The carries of the calendar -/

theorem Calendar.advance_second {c : Calendar} (h : c.second < 59) : c.advance = { c with second := c.second + 1 } :=
  if_pos (by omega)

theorem Calendar.advance_minute {c : Calendar} (hs : c.second = 59) (h : c.minute < 59) :
    c.advance = { c with second := 0, minute := c.minute + 1 } := by
  unfold Calendar.advance; rw [if_neg (by omega), if_pos (by omega)]

theorem Calendar.advance_hour {c : Calendar} (hs : c.second = 59) (hm : c.minute = 59) (h : c.hour < 23) :
    c.advance = { c with second := 0, minute := 0, hour := c.hour + 1 } := by
  unfold Calendar.advance; rw [if_neg (by omega), if_neg (by omega), if_pos (by omega)]

theorem Calendar.advance_midnight {c : Calendar} (hs : c.second = 59) (hm : c.minute = 59) (hh : c.hour = 23) :
    c.advance = { c.nextDay with second := 0, minute := 0, hour := 0 } := by
  unfold Calendar.advance; rw [if_neg (by omega), if_neg (by omega), if_neg (by omega)]

theorem Calendar.nextDay_dow (c : Calendar) : c.nextDay.dow = if c.dow = 7 then 1 else c.dow + 1 := by
  have h : (if c.dow + 1 = 8 then 1 else c.dow + 1) = if c.dow = 7 then 1 else c.dow + 1 := if_congr (by omega) rfl rfl
  rw [← h]; unfold Calendar.nextDay; dsimp only; repeat' split
  all_goals rfl

theorem Calendar.nextDay_day {c : Calendar} (h : c.day < monthLength c.year c.month) :
    c.nextDay.day = c.day + 1 ∧ c.nextDay.month = c.month ∧ c.nextDay.year = c.year := by
  unfold Calendar.nextDay; dsimp only; rw [if_pos (by omega)]; exact ⟨rfl, rfl, rfl⟩

theorem Calendar.nextDay_month {c : Calendar} (h : c.day = monthLength c.year c.month) (hm : c.month < 12) :
    c.nextDay.day = 1 ∧ c.nextDay.month = c.month + 1 ∧ c.nextDay.year = c.year := by
  unfold Calendar.nextDay; dsimp only; rw [if_neg (by omega), if_pos (by omega)]; exact ⟨rfl, rfl, rfl⟩

theorem Calendar.nextDay_year {c : Calendar} (h : c.day = monthLength c.year c.month) (hm : c.month = 12) :
    c.nextDay.day = 1 ∧ c.nextDay.month = 1 ∧ c.nextDay.year = if c.year = 2199 then 2000 else c.year + 1 := by
  unfold Calendar.nextDay; dsimp only; rw [if_neg (by omega), if_neg (by omega)]
  exact ⟨rfl, rfl, if_congr (by omega) rfl rfl⟩

/-- A SET CALENDAR out of R12's bounds is refused and changes nothing (R13). -/
theorem exec_setCalendar_range {p : Fin 4} {r : RawCalendar} {s : State} (h : Accepts p .setCalendar s)
    (hr : ¬(spelledCalendar r).InRange) :
    exec (.setCalendar p r) s = .next (answer p .setCalendar .range .none (goodFrame p s)) := by
  refine congrArg Host.Outcome.next ?_
  rw [takeRequest_of_accepts h]
  rcases setCalendarAct_cases p r (goodFrame p s) with ⟨hi, -⟩ | ⟨-, e⟩
  · exact absurd hi hr
  · rw [e]; rfl

/-- An accepted SET CALENDAR, with its tick named (R13, R14). -/
theorem setCalendar_eq (p : Fin 4) (c : Calendar) {s : State} {T : Tick} (h : s.tick = T) :
    setCalendar p c s =
      raise (.calendarSet p T c (phaseAt T)) [] { s with calendar := c, calPhase := phaseAt T, boundaryDue := false } := by
  subst h; rfl

/-- A SET CALENDAR within R12's bounds is taken (R13, R14). -/
theorem exec_setCalendar_ok {p : Fin 4} {r : RawCalendar} {s : State} (h : Accepts p .setCalendar s)
    (hr : (spelledCalendar r).InRange) :
    exec (.setCalendar p r) s = .next (answer p .setCalendar .ok (.calendarSet s.tick (phaseAt s.tick))
      (setCalendar p (spelledCalendar r) (goodFrame p s))) := by
  refine congrArg Host.Outcome.next ?_
  rw [takeRequest_of_accepts h]
  rcases setCalendarAct_cases p r (goodFrame p s) with ⟨-, e⟩ | ⟨hn, -⟩
  · rw [e, goodFrame_tick]
  · exact absurd hr hn

/-! ## Signed differences -/

/-- A signed difference below half the counter's range is the difference of the numbers, reduced modulo 2^48 (R3). -/
theorem sub_toInt_of_lt (a b : Tick) (h : (2 ^ 48 - b.toNat + a.toNat) % 2 ^ 48 < 2 ^ 47) :
    (a - b).toInt = ((2 ^ 48 - b.toNat + a.toNat) % 2 ^ 48 : Nat) := by
  rw [BitVec.toInt_eq_toNat_of_lt (by rw [BitVec.toNat_sub]; omega), BitVec.toNat_sub]

/-- Where neither tick is near the counter's wrap, later is the order of numbers (R3). -/
theorem sub_toInt_pos_iff (a b : Tick) (ha : a.toNat < 2 ^ 47) (hb : b.toNat < 2 ^ 47) :
    0 < (a - b).toInt ↔ b.toNat < a.toNat := by
  rw [BitVec.toInt_eq_toNat_cond, BitVec.toNat_sub]
  split <;> omega

theorem maxTick_eq (a b : Tick) : maxTick a b = if 0 < (a - b).toInt then a else b := if_congr decide_eq_true_iff rfl rfl

theorem minTick_eq (a b : Tick) : minTick a b = if 0 < (a - b).toInt then b else a := if_congr decide_eq_true_iff rfl rfl

theorem maxTick_toNat (a b : Tick) (ha : a.toNat < 2 ^ 47) (hb : b.toNat < 2 ^ 47) :
    (maxTick a b).toNat = max a.toNat b.toNat := by
  rw [maxTick_eq]
  simp only [sub_toInt_pos_iff a b ha hb]
  split <;> omega

theorem addTicks_toNat (t : Tick) (n : Nat) (h : t.toNat + n < 2 ^ 48) : (addTicks t n).toNat = t.toNat + n := by
  unfold addTicks; rw [BitVec.toNat_add, BitVec.toNat_ofNat]; omega

/-! ## Boundaries across the wrap -/

/-- The first boundary of the grid is its phase (R5). -/
theorem gridSum_zero (p φ : Nat) (h : φ < p) : gridSum p φ 0 = φ := by
  unfold gridSum
  rw [Nat.zero_add, Nat.cast_zero, Int.sub_zero, Int.emod_eq_of_lt (by omega) (by omega), Int.toNat_natCast]

/-- A boundary from 2^48 upward lies at least as far behind the last boundary before the wrap as that is long (R5). -/
theorem lastBoundary_le (p φ x : Nat) (hx : 2 ^ 48 ≤ x) (hφ : φ < 2 ^ 48 % p) (hg : ((x : Int) - φ) % p = 0) :
    φ + p * (2 ^ 48 / p) + p ≤ x := by
  have hdiv : p * (2 ^ 48 / p) + 2 ^ 48 % p = 2 ^ 48 := Nat.div_add_mod _ _
  obtain ⟨k, hk⟩ := Int.dvd_of_emod_eq_zero hg
  have hlt : ((2 ^ 48 / p : Nat) : Int) < k := by
    by_contra hle
    have : (p : Int) * k ≤ p * ((2 ^ 48 / p : Nat) : Int) := Int.mul_le_mul_of_nonneg_left (by omega) (by omega)
    have : ((p * (2 ^ 48 / p) : Nat) : Int) = p * ((2 ^ 48 / p : Nat) : Int) := by push_cast; ring
    omega
  have hmul : (p : Int) * (((2 ^ 48 / p : Nat) : Int) + 1) ≤ p * k := Int.mul_le_mul_of_nonneg_left (by omega) (by omega)
  have : (p : Int) * (((2 ^ 48 / p : Nat) : Int) + 1) = ((p * (2 ^ 48 / p) : Nat) : Int) + p := by push_cast; ring
  omega

/-- The boundary at or after a tick is less than one period later by R3's signed difference, across the wrap too, where the last boundary
before the wrap and the first one after it are less than one period apart (R5, R6). -/
theorem boundaryAtOrAfter_sub (p φ : Nat) (t : Tick) (hp : 0 < p) (hb : p ≤ 7200) (hφ : φ < 2 ^ 48 % p) :
    0 ≤ (boundaryAtOrAfter p φ t - t).toInt ∧ (boundaryAtOrAfter p φ t - t).toInt < p := by
  have ht := t.isLt
  obtain ⟨hlo, hhi, hgrid⟩ := gridSum_spec p φ t.toNat hp
  have hlt : (2 ^ 48 - t.toNat + (boundaryAtOrAfter p φ t).toNat) % 2 ^ 48 < p := by
    rw [boundaryAtOrAfter_toNat p φ t hp hb]
    split
    · omega
    · have hmod : 2 ^ 48 % p < p := Nat.mod_lt _ hp
      have hdiv : p * (2 ^ 48 / p) + 2 ^ 48 % p = 2 ^ 48 := Nat.div_add_mod _ _
      have hlast := lastBoundary_le p φ _ (by omega) hφ hgrid
      rw [gridSum_zero p φ (by omega)]
      omega
  rw [sub_toInt_of_lt _ _ (by omega)]
  omega

/-! ## The earliest effect -/

/-- The least tick of a lane's earliest effect (R30): now + 9,000, or one period after the last effect tick where that is later. -/
def leastEffect (L : Lane) (now : Tick) : Tick :=
  match L.lastEffect with
  | none => addTicks now Config.orderLead
  | some e => maxTick (addTicks now Config.orderLead) (addTicks e L.period)

theorem leastEffect_none {L : Lane} (now : Tick) (h : L.lastEffect = none) : leastEffect L now = addTicks now Config.orderLead := by
  unfold leastEffect; rw [h]

theorem leastEffect_some {L : Lane} (now : Tick) {e : Tick} (h : L.lastEffect = some e) :
    leastEffect L now = maxTick (addTicks now Config.orderLead) (addTicks e L.period) := by
  unfold leastEffect; rw [h]

/-- Away from the wrap, the lead of an order is a sum of numbers. -/
theorem orderLead_toNat (now : Tick) (h : now.toNat < 2 ^ 46) : (addTicks now Config.orderLead).toNat = now.toNat + 9000 :=
  addTicks_toNat now 9000 (by omega)

/-- Away from the wrap, the least tick after an order is a maximum of numbers. -/
theorem leastEffect_toNat {L : Lane} {now e : Tick} (h : L.lastEffect = some e) (hn : now.toNat < 2 ^ 46) (he : e.toNat < 2 ^ 46) :
    (leastEffect L now).toNat = max (now.toNat + 9000) (e.toNat + L.period) := by
  have hp : L.period ≤ 7200 := period_le _
  have hlead := orderLead_toNat now hn
  have hnext : (addTicks e L.period).toNat = e.toNat + L.period := addTicks_toNat e L.period (by omega)
  rw [leastEffect_some now h, maxTick_toNat _ _ (by omega) (by omega), hlead, hnext]

/-- The earliest effect is less than one period after the least tick, where nothing is near the wrap (R30). -/
theorem earliestEffect_bounds {L : Lane} {now : Tick} {n : Nat} (hn : (leastEffect L now).toNat = n) (hlt : n + L.period ≤ 2 ^ 48) :
    n ≤ (earliestEffect L now).toNat ∧ (earliestEffect L now).toNat < n + L.period := by
  subst hn
  exact boundaryAtOrAfter_bounds _ _ _ (period_pos _) (period_le _) hlt

/-- The earliest effect is less than one period after the least tick by R3's signed difference (R30). -/
theorem earliestEffect_sub {L : Lane} {now least : Tick} (h : leastEffect L now = least) (hφ : L.cfg.phase < 2 ^ 48 % L.period) :
    0 ≤ (earliestEffect L now - least).toInt ∧ (earliestEffect L now - least).toInt < L.period := by
  subst h
  exact boundaryAtOrAfter_sub _ _ _ (period_pos _) (period_le _) hφ

end Sys2Proof.Machine
end

section
/-! Station time and the calendar: the carries, SET CALENDAR and the earliest effect. -/

namespace Sys2Proof.Certificates

open Sys2Proof.Machine

/-- Settles O9, by the branches of the calendar's count. -/
theorem calendarCarries : Obligations.CalendarCarries := by
  refine ⟨fun y m _ _ => ⟨fun h => ?_, fun h => ?_, fun h => ?_⟩, fun p r s h _ _ _ _ hday => ?_, fun s _ => ?_⟩
  · fin_cases h <;> rfl
  · fin_cases h <;> rfl
  · subst h; simp [monthLength, leapYear]
  · refine exec_setCalendar_range h fun hr => ?_
    obtain ⟨-, -, -, -, -, hd, -⟩ := hr
    exact absurd hday (Nat.not_lt.mpr hd)
  · refine ⟨fun hdue => ⟨_, rfl, ?_⟩, Calendar.advance_second, Calendar.advance_minute, Calendar.advance_hour, fun hs hm hh => ?_⟩
    · have h := takeBoundary_timeBase s
      rw [if_pos hdue] at h
      exact timeBase_calendar h
    · rw [Calendar.advance_midnight hs hm hh]
      exact ⟨rfl, rfl, rfl, s.calendar.nextDay_dow, Calendar.nextDay_day, Calendar.nextDay_month, Calendar.nextDay_year⟩

/-- Settles O11, by the two outcomes of the block. -/
protected theorem setCalendar : Obligations.SetCalendar := by
  intro p r s h
  refine ⟨fun ok => ?_, fun hn => exec_setCalendar_range h hn⟩
  rw [exec_setCalendar_ok h ok, setCalendar_eq p _ (goodFrame_tick p s)]
  rfl

/-- Settles O25: R6's sum gives the boundary, and the least tick is R30's bound. -/
protected theorem earliestEffect : Obligations.EarliestEffect := by
  refine ⟨fun a b => ⟨decide_eq_true_iff, decide_eq_true_iff, maxTick_eq a b, minTick_eq a b⟩, fun L => ?_,
    fun p φ t => decide_eq_true_iff, fun L now _ => ?_⟩
  · unfold Lane.period; cases L.cfg.cadence <;> decide
  · have hp : L.period ≤ 7200 := period_le _
    refine ⟨earliestEffect_onGrid L now, fun hn he => ?_, fun hφ => ?_⟩
    · cases hl : L.lastEffect with
      | none =>
        have hleast : (leastEffect L now).toNat = now.toNat + 9000 := by rw [leastEffect_none now hl, orderLead_toNat now hn]
        have hlt : now.toNat + 9000 + L.period ≤ 2 ^ 48 := by omega
        exact earliestEffect_bounds hleast hlt
      | some e =>
        have he' : e.toNat < 2 ^ 46 := he e hl
        have hleast := leastEffect_toNat hl hn he'
        have hlt : max (now.toNat + 9000) (e.toNat + L.period) + L.period ≤ 2 ^ 48 := by omega
        exact earliestEffect_bounds hleast hlt
    · cases hl : L.lastEffect with
      | none => exact earliestEffect_sub (leastEffect_none now hl) hφ
      | some e => exact earliestEffect_sub ((leastEffect_some now hl).trans (maxTick_eq _ _)) hφ

end Sys2Proof.Certificates
end

section
/-! SUPPORT. The windows at a second boundary (R159, R160, R169): the treatment of all windows is the new records and then the notices. -/

namespace Sys2Proof.Machine

/-! ## One window -/

/-- A window after step 1 of its treatment (R160). -/
def Window.counted (W : Window) : Window :=
  if W.isOpen = false then W
  else if W.remaining ≤ 1 then { W with isOpen := false, remaining := 0 }
  else { W with remaining := W.remaining - 1 }

/-- A window after its treatment at a boundary to a calendar (R160). -/
def Window.treated (W : Window) (c : Calendar) : Window :=
  if W.cfg.enable = false then W
  else if W.cfg.matches c then { W.counted with isOpen := true, remaining := W.cfg.duration }
  else W.counted

@[simp] theorem Window.counted_cfg (W : Window) : W.counted.cfg = W.cfg := by
  unfold Window.counted; repeat' split
  all_goals rfl

@[simp] theorem Window.treated_cfg (W : Window) (c : Calendar) : (W.treated c).cfg = W.cfg := by
  unfold Window.treated; split
  · rfl
  · split <;> simp

/-- The notice of a window of a configuration at a calendar and a tick (R169). -/
def boundaryNotice (w : Fin 16) (C : WindowConfig) (c : Calendar) (T : Tick) (cause : WindowCause) (remaining : Nat) : WindowNotice :=
  { window := w, cause, type := C.type, lanes := C.lanes, source := if C.type = .insert then some C.source else none
    duration := C.duration, remaining, calendar := c, tick := T }

/-- The notices of one window's treatment (R169). -/
def boundaryNotices (W : Window) (c : Calendar) (T : Tick) (w : Fin 16) : List Notice :=
  (if W.cfg.enable = true ∧ W.isOpen = true ∧ W.remaining ≤ 1 then
    [Notice.windowClose (boundaryNotice w W.cfg c T .expired 0)] else []) ++
  if W.cfg.enable = true ∧ W.cfg.matches c = true then
    [Notice.windowOpen (boundaryNotice w W.cfg c T (if W.counted.isOpen then .retrigger else .start) W.cfg.duration)]
  else []

/-- Raise notices in turn, addressed to no port. -/
def raiseAll (ns : List Notice) (s : State) : State := ns.foldl (fun x n => raise n [] x) s

theorem raiseAll_append (ms ns : List Notice) (s : State) : raiseAll (ms ++ ns) s = raiseAll ns (raiseAll ms s) := List.foldl_append

/-- Notices and a window's record do not meet. -/
theorem updWindow_raiseAll (w : Fin 16) (f : Window → Window) (ns : List Notice) (s : State) :
    (raiseAll ns s).updWindow w f = raiseAll ns (s.updWindow w f) := by
  induction ns generalizing s with
  | nil => rfl
  | cons n ns ih => exact ih (raise n [] s)

/-- Notices change port records only. -/
theorem raiseAll_ports (ns : List Notice) (s : State) : PortsOnly s (raiseAll ns s) :=
  foldl_keeps PortsOnly PortsOnly.refl (fun _ _ _ => PortsOnly.trans) _ (fun s n => raise_ports n [] s) ns s

@[simp] theorem raiseAll_window (ns : List Notice) (s : State) (w : Fin 16) : (raiseAll ns s).window w = s.window w := by
  rw [raiseAll_ports ns s]; rfl

@[simp] theorem raiseAll_calendar (ns : List Notice) (s : State) : (raiseAll ns s).calendar = s.calendar :=
  (raiseAll_ports ns s).timeKept.calendar

@[simp] theorem raiseAll_tick (ns : List Notice) (s : State) : (raiseAll ns s).tick = s.tick := (raiseAll_ports ns s).timeKept.tick

/-- An update of a window is its new record. -/
theorem updWindow_congr {w : Fin 16} {f g : Window → Window} {s : State} (h : f (s.window w) = g (s.window w)) :
    s.updWindow w f = s.updWindow w g := by
  unfold State.updWindow; rw [h]

theorem updWindow_id {w : Fin 16} {f : Window → Window} {s : State} (h : f (s.window w) = s.window w) : s.updWindow w f = s := by
  unfold State.updWindow; rw [h]; simp [State.window]

theorem updWindow_updWindow (w : Fin 16) (f g : Window → Window) (s : State) :
    (s.updWindow w f).updWindow w g = s.updWindow w fun W => g (f W) := by
  simp [State.updWindow, State.window]

theorem windowNotice_eq (w : Fin 16) (cause : WindowCause) (s : State) :
    windowNotice w cause s = boundaryNotice w (s.window w).cfg s.calendar s.tick cause (s.window w).remaining := by
  unfold windowNotice boundaryNotice; dsimp only
  cases (s.window w).cfg.type <;> rfl

/-- A WINDOW_CLOSE of a window whose record is being replaced (R169). -/
theorem raiseClose_updWindow (w : Fin 16) (cause : WindowCause) (f : Window → Window) (s : State)
    (hcfg : (f (s.window w)).cfg = (s.window w).cfg) :
    raiseClose w cause (s.updWindow w f) =
      raiseAll [.windowClose (boundaryNotice w (s.window w).cfg s.calendar s.tick cause (f (s.window w)).remaining)] (s.updWindow w f) := by
  unfold raiseClose
  rw [windowNotice_eq, State.updWindow_window_self, hcfg]
  rfl

/-- A WINDOW_OPEN of a window whose record is being replaced (R169). -/
theorem raiseOpen_updWindow (w : Fin 16) (cause : WindowCause) (f : Window → Window) (s : State)
    (hcfg : (f (s.window w)).cfg = (s.window w).cfg) :
    raiseOpen w cause (s.updWindow w f) =
      raiseAll [.windowOpen (boundaryNotice w (s.window w).cfg s.calendar s.tick cause (f (s.window w)).remaining)] (s.updWindow w f) := by
  unfold raiseOpen
  rw [windowNotice_eq, State.updWindow_window_self, hcfg]
  rfl

/-- Step 1 of a window's treatment: its record, then its notice (R160, R169). -/
theorem countDown_eq (w : Fin 16) (s : State) :
    countDown w s =
      raiseAll (if (s.window w).isOpen = true ∧ (s.window w).remaining ≤ 1 then
        [Notice.windowClose (boundaryNotice w (s.window w).cfg s.calendar s.tick .expired 0)] else [])
        (s.updWindow w Window.counted) := by
  unfold countDown; dsimp only; split
  · rename_i hshut
    rw [updWindow_id (f := Window.counted) (if_pos hshut), if_neg (by simp [hshut])]; rfl
  · rename_i hopen
    split
    · rename_i hlast
      rw [raiseClose_updWindow w _ _ s rfl, if_pos ⟨by simpa using hopen, hlast⟩]
      congr 1
      exact updWindow_congr (by simp [Window.counted, hopen, hlast])
    · rename_i hmore
      rw [if_neg (fun h => hmore h.2)]
      exact updWindow_congr (by simp [Window.counted, hopen, hmore])

/-- Step 2 of a window's treatment: its record, then its notice (R160, R169). -/
theorem matchStart_eq (w : Fin 16) (s : State) :
    matchStart w s =
      raiseAll (if (s.window w).cfg.matches s.calendar = true then
        [Notice.windowOpen (boundaryNotice w (s.window w).cfg s.calendar s.tick
          (if (s.window w).isOpen then .retrigger else .start) (s.window w).cfg.duration)] else [])
        (s.updWindow w fun W => if W.cfg.matches s.calendar then { W with isOpen := true, remaining := W.cfg.duration } else W) := by
  unfold matchStart; dsimp only; split
  · rename_i hm
    rw [raiseOpen_updWindow w _ _ s rfl]
    congr 1
    exact updWindow_congr (if_pos hm).symm
  · rename_i hm
    have hsame := updWindow_id (f := fun W => if W.cfg.matches s.calendar then { W with isOpen := true, remaining := W.cfg.duration } else W)
      (if_neg hm)
    rw [hsame]; rfl

/-- A window's treatment: its record, then its notices (R160, R169). -/
theorem treatWindow_eq (s : State) (w : Fin 16) :
    treatWindow s w = raiseAll (boundaryNotices (s.window w) s.calendar s.tick w) (s.updWindow w fun W => W.treated s.calendar) := by
  unfold treatWindow; split
  · rename_i hon
    rw [matchStart_eq, countDown_eq]
    simp only [updWindow_raiseAll, updWindow_updWindow, ← raiseAll_append, raiseAll_window, raiseAll_calendar, raiseAll_tick,
      State.updWindow_window_self, State.updWindow_calendar, State.updWindow_tick, Window.counted_cfg]
    congr 1
    · simp [boundaryNotices, hon]
    · exact updWindow_congr (by simp [Window.treated, hon])
  · rename_i hoff
    rw [updWindow_id (by simp [Window.treated, hoff])]
    simp [boundaryNotices, hoff, raiseAll]

/-! ## All windows -/

/-- The windows of a list after their treatment. -/
def treatRecords (c : Calendar) (ws : List (Fin 16)) (s : State) : State :=
  ws.foldl (fun x w => x.updWindow w fun W => W.treated c) s

theorem treatRecords_raiseAll (c : Calendar) (ws : List (Fin 16)) (ns : List Notice) (s : State) :
    treatRecords c ws (raiseAll ns s) = raiseAll ns (treatRecords c ws s) := by
  induction ws generalizing s with
  | nil => rfl
  | cons w ws ih =>
    show treatRecords c ws ((raiseAll ns s).updWindow w _) = _
    rw [updWindow_raiseAll]
    exact ih _

/-- The records of a list of windows, each once. -/
theorem treatRecords_window (c : Calendar) (ws : List (Fin 16)) (hws : ws.Nodup) (s : State) (w : Fin 16) :
    (treatRecords c ws s).window w = if w ∈ ws then (s.window w).treated c else s.window w := by
  induction ws generalizing s with
  | nil => rfl
  | cons v ws ih =>
    obtain ⟨hv, hn⟩ := List.nodup_cons.mp hws
    show (treatRecords c ws (s.updWindow v _)).window w = _
    rw [ih hn, State.updWindow_window]
    by_cases h : w = v
    · subst h; simp [hv]
    · simp [h]

theorem treatRecords_windows (c : Calendar) (ws : List (Fin 16)) (s : State) :
    treatRecords c ws s = { s with windows := (treatRecords c ws s).windows } :=
  foldl_keeps (fun a b : State => b = { a with windows := b.windows }) (fun _ => rfl)
    (fun a b d h g => by rw [h] at g; exact g) _ (fun _ _ => rfl) ws s

/-- The treatment of a list of windows, each once: their records, then their notices in the order of the list (R160, R169). -/
theorem foldl_treatWindow_eq (ws : List (Fin 16)) (hws : ws.Nodup) (s : State) :
    ws.foldl treatWindow s =
      raiseAll (ws.flatMap fun w => boundaryNotices (s.window w) s.calendar s.tick w) (treatRecords s.calendar ws s) := by
  induction ws generalizing s with
  | nil => rfl
  | cons v ws ih =>
    obtain ⟨hv, hn⟩ := List.nodup_cons.mp hws
    have hsame : ∀ w ∈ ws, (treatWindow s v).window w = s.window w := fun w hw => by
      have hne : w ≠ v := fun h => hv (h ▸ hw)
      rw [treatWindow_eq, raiseAll_window, State.updWindow_window, if_neg hne]
    have hnotices : (ws.flatMap fun w => boundaryNotices ((treatWindow s v).window w) (treatWindow s v).calendar (treatWindow s v).tick w) =
        ws.flatMap fun w => boundaryNotices (s.window w) s.calendar s.tick w := by
      refine List.flatMap_congr fun w hw => ?_
      rw [hsame w hw, treatWindow_eq, raiseAll_calendar, raiseAll_tick]
      rfl
    have hcal : (treatWindow s v).calendar = s.calendar := by rw [treatWindow_eq, raiseAll_calendar]; rfl
    rw [List.foldl_cons, ih hn, hnotices, hcal, treatWindow_eq, treatRecords_raiseAll, ← raiseAll_append]
    rfl

/-- The treatment of every window: the records, then the notices in ascending index (R160, R169; log entry 14). -/
theorem treatWindows_eq (s : State) :
    treatWindows s =
      raiseAll ((List.finRange 16).flatMap fun w => boundaryNotices (s.window w) s.calendar s.tick w)
        (treatRecords s.calendar (List.finRange 16) s) :=
  foldl_treatWindow_eq _ (List.nodup_finRange 16) s

theorem treatWindows_window (s : State) (w : Fin 16) : (treatWindows s).window w = (s.window w).treated s.calendar := by
  rw [treatWindows_eq, raiseAll_window, treatRecords_window _ _ (List.nodup_finRange 16), if_pos (List.mem_finRange w)]

theorem treatWindows_windows (s : State) : (treatWindows s).windows = (treatRecords s.calendar (List.finRange 16) s).windows := by
  rw [treatWindows_eq, raiseAll_ports]

/-! ## The window changes -/

theorem windowBoundary_windows (s : State) : (windowBoundary s).windows = (treatWindows s).windows := by
  have h : BreakOnly (treatWindows s) (windowBoundary s) :=
    foldl_keeps BreakOnly BreakOnly.refl (fun _ _ _ => BreakOnly.trans) _ (fun s w => windowChange_break ..) _ _
  rw [h]

theorem window_eq_of_windows {s t : State} (h : t.windows = s.windows) (w : Fin 16) : t.window w = s.window w := by
  unfold State.window; rw [h]

/-- Window changes read lane sets that no window change writes. -/
theorem foldl_windowChange_congr (lanes : Fin 16 → LaneSet) (ws : List (Fin 16)) (s : State)
    (h : ∀ w, (s.window w).cfg.lanes = lanes w) :
    ws.foldl (fun x w => windowChange (x.window w).cfg.lanes x) s = ws.foldl (fun x w => windowChange (lanes w) x) s := by
  induction ws generalizing s with
  | nil => rfl
  | cons v ws ih =>
    rw [List.foldl_cons, List.foldl_cons, h v]
    refine ih _ fun w => ?_
    rw [window_eq_of_windows (s := s) (by rw [windowChange_break]), h w]

/-- A second boundary at the windows: the new records, the notices, and one window change for each that opened or closed (R160, R161). -/
theorem windowBoundary_eq (s : State) :
    windowBoundary s =
      ((List.finRange 16).filter fun w => decide ((s.window w).isOpen ≠ ((windowBoundary s).window w).isOpen)).foldl
        (fun x w => windowChange (s.window w).cfg.lanes x)
        (raiseAll ((List.finRange 16).flatMap fun w => boundaryNotices (s.window w) s.calendar s.tick w)
          { s with windows := (windowBoundary s).windows }) := by
  have hrec : treatRecords s.calendar (List.finRange 16) s = { s with windows := (windowBoundary s).windows } := by
    rw [windowBoundary_windows, treatWindows_windows]; exact treatRecords_windows ..
  have hopen : ∀ w, (windowBoundary s).window w = (treatWindows s).window w := window_eq_of_windows (windowBoundary_windows s)
  simp only [hopen]
  rw [← hrec, ← treatWindows_eq]
  exact foldl_windowChange_congr (fun w => (s.window w).cfg.lanes) _ _ fun w => by rw [treatWindows_window, Window.treated_cfg]

/-- A start pattern matches (R159). -/
theorem WindowConfig.matches_iff (W : WindowConfig) (c : Calendar) :
    W.matches c = true ↔ W.days.getLsbD (c.dow - 1) = true ∧ (∀ h ∈ W.hour, h = c.hour) ∧ (∀ m ∈ W.minute, m = c.minute) ∧
      ∀ x ∈ W.second, x = c.second := by
  have takes (o : Option Nat) (v : Nat) : startTakes o v = true ↔ ∀ n ∈ o, n = v := by cases o <;> simp [startTakes]
  simp only [WindowConfig.matches, Bool.and_eq_true, takes, and_assoc]

end Sys2Proof.Machine
end

section
/-! Station time and the calendar: the second boundary. -/

namespace Sys2Proof.Certificates

open Sys2Proof.Machine

/-- Settles O10, from the closed form of the windows' treatment. -/
theorem secondBoundary : Obligations.SecondBoundary := by
  refine ⟨fun W c _ _ => WindowConfig.matches_iff W c, fun _ _ => rfl, fun s hdue => ⟨_, rfl, ?_⟩⟩
  have hboundary : takeBoundary s = windowBoundary { s with boundaryDue := false, calendar := s.calendar.advance } := if_pos hdue
  rw [hboundary]
  refine ⟨windowBoundary_frame _, fun w => ?_, windowBoundary_eq _⟩
  rw [window_eq_of_windows (windowBoundary_windows _), treatWindows_window]
  rfl

end Sys2Proof.Certificates
end

section
/-! SUPPORT. What a re-resolution and a lane fault can do to the port records, the avails and the lanes: ports receive notices, avails end,
lanes keep what only a request, an answer of the fabric or a fault may write. -/

namespace Sys2Proof

open Sys2Proof.Machine

/-! ## Ports that receive notices -/

/-- A port record after some notices were raised (R192). -/
def Machine.Port.Hears : Port → Port → Prop := Relation.ReflTransGen fun P Q => ∃ n a, Q = P.receive n a

/-- What a port keeps through any number of notices. -/
theorem Machine.Port.Hears.keeps {P Q : Port} (h : P.Hears Q) :
    Q.role = P.role ∧ Q.state = P.state ∧ Q.errors = P.errors ∧ Q.reply = P.reply ∧ Q.mask = P.mask ∧ Q.quiet = P.quiet := by
  induction h with
  | refl => exact ⟨rfl, rfl, rfl, rfl, rfl, rfl⟩
  | tail _ hstep ih => obtain ⟨n, a, rfl⟩ := hstep; simpa using ih

/-- Every port has received some notices, and no port record differs otherwise. -/
def PortsHear (s t : State) : Prop := ∀ p, (s.port p).Hears (t.port p)

theorem PortsHear.refl (s : State) : PortsHear s s := fun _ => .refl
theorem PortsHear.trans {s t u : State} (h : PortsHear s t) (g : PortsHear t u) : PortsHear s u := fun p => (h p).trans (g p)

theorem PortsHear.of_ports {s t : State} (h : t.ports = s.ports) : PortsHear s t := fun p => by
  unfold State.port; rw [h]; exact .refl

/-! ## Avails that end -/

theorem PortsOnly.avail {s t : State} (h : PortsOnly s t) (i : Fin 64) : t.avail i = s.avail i := by
  unfold PortsOnly at h; rw [h]; rfl

theorem BreakOnly.cell {s t : State} (h : BreakOnly s t) (n : Fin 12) : t.cell n = s.cell n := by
  unfold BreakOnly at h; rw [h]; rfl

theorem BreakOnly.alert {s t : State} (h : BreakOnly s t) (a : Fin 4) : t.alert a = s.alert a := by
  unfold BreakOnly at h; rw [h]; rfl

/-- The avail b is a made final (R117). -/
def Machine.Avail.EndsAs (a b : Avail) : Prop :=
  b.final = true ∧ b = { a with state := b.state, result := b.result, finalTick := b.finalTick, claims := [] }

/-- Every avail is as it was or was made final. -/
def AvailsEnd (s t : State) : Prop := ∀ i, t.avail i = s.avail i ∨ (s.avail i).EndsAs (t.avail i)

theorem AvailsEnd.refl (s : State) : AvailsEnd s s := fun _ => .inl rfl

theorem AvailsEnd.trans {s t u : State} (h : AvailsEnd s t) (g : AvailsEnd t u) : AvailsEnd s u := fun i => by
  rcases g i with e | ⟨hf, e⟩
  · rw [e]; exact h i
  · rcases h i with e' | ⟨-, e'⟩
    · rw [← e']; exact .inr ⟨hf, e⟩
    · refine .inr ⟨hf, ?_⟩
      rw [e'] at e; exact e

theorem AvailsEnd.of_avails {s t : State} (h : t.avails = s.avails) : AvailsEnd s t := fun i => .inl (by unfold State.avail; rw [h])

theorem Machine.Avail.live_of_final {a : Avail} (h : a.final = true) : a.live = false := by
  cases hst : a.state <;> simp_all [Avail.final, Avail.live]

/-! ## Lanes -/

/-- What a lane's record holds besides its owner and its transitions. -/
def Machine.Lane.held (L : Lane) : LaneConfig × Byte × LaneState × Option Source × Option FaultReason × Option Source :=
  (L.cfg, L.revision, L.state, L.confirmed, L.faultReason, L.failedTarget)

/-- No lane differs but in its owner and its transitions. -/
def LanesHold (s t : State) : Prop := ∀ l, (t.lane l).held = (s.lane l).held

theorem LanesHold.refl (s : State) : LanesHold s s := fun _ => rfl
theorem LanesHold.trans {s t u : State} (h : LanesHold s t) (g : LanesHold t u) : LanesHold s u := fun l => (g l).trans (h l)

theorem LanesHold.state {s t : State} (h : LanesHold s t) (l : Fin 32) : (t.lane l).state = (s.lane l).state :=
  congrArg (fun x => x.2.2.1) (h l)

/-! ## Resolutions -/

/-- What a re-resolution, and every operation that it is made of, can do: ports hear, avails end, lanes change owner and transitions. -/
structure Resolves (s t : State) : Prop where
  hears : PortsHear s t
  avails : AvailsEnd s t
  lanes : LanesHold s t

theorem Resolves.refl (s : State) : Resolves s s := ⟨.refl s, .refl s, .refl s⟩

theorem Resolves.trans {s t u : State} (h : Resolves s t) (g : Resolves t u) : Resolves s u :=
  ⟨h.hears.trans g.hears, h.avails.trans g.avails, h.lanes.trans g.lanes⟩

theorem Resolves.of_eq {s t : State} (hp : t.ports = s.ports) (ha : t.avails = s.avails) (hl : t.lanes = s.lanes) : Resolves s t :=
  ⟨.of_ports hp, .of_avails ha, fun l => by unfold State.lane; rw [hl]⟩

theorem Resolves.ite {s t u : State} {c : Prop} [Decidable c] (h : Resolves s t) (g : Resolves s u) : Resolves s (if c then t else u) := by
  split
  · exact h
  · exact g

theorem foldl_resolves {α : Type} (f : State → α → State) (hf : ∀ s a, Resolves s (f s a)) (xs : List α) (s : State) :
    Resolves s (xs.foldl f s) := foldl_keeps Resolves Resolves.refl (fun _ _ _ => Resolves.trans) f hf xs s

end Sys2Proof

namespace Sys2Proof.Machine

theorem raise_resolves (n : Notice) (a : List (Fin 4)) (s : State) : Resolves s (raise n a s) where
  hears p := .single ⟨n, a.contains p, raise_port n a s p⟩
  avails := .of_avails rfl
  lanes := .refl _

theorem updLane_resolves (l : Fin 32) (f : Lane → Lane) (s : State) (hf : (f (s.lane l)).held = (s.lane l).held) :
    Resolves s (s.updLane l f) where
  hears := .of_ports rfl
  avails := .of_avails rfl
  lanes j := by
    rw [State.updLane_lane]; split
    · rename_i h; rw [hf, h]
    · rfl

theorem setOrder_resolves (l : Fin 32) (o : Option Outstanding) (s : State) : Resolves s (s.setOrder l o) := .of_eq rfl rfl rfl

theorem commit_resolves (l : Fin 32) (k : StepKind) (x : Source) (e : Tick) (a : Option Handle) (s : State) :
    Resolves s (commit l k x e a s) := by
  rw [commit_eq]
  have hlane : Resolves s (s.updLane l fun L =>
      { L with committed := some ⟨L.orderSeq, x, e, s.tick⟩, orderSeq := L.orderSeq + 1, lastEffect := some e, planned := none }) :=
    updLane_resolves l _ s rfl
  exact hlane.trans (.of_eq rfl rfl rfl)

theorem raiseFinal_resolves (i : Fin 64) (left : AvailState) (r : FinalResult) (s : State) : Resolves s (raiseFinal i left r s) := by
  unfold raiseFinal; dsimp only; split
  · exact raise_resolves ..
  · exact raise_resolves ..
  · exact raise_resolves ..
  all_goals exact .refl _

theorem finish_resolves (i : Fin 64) (st : AvailState) (r : FinalResult) (s : State) (hst : ({ state := st } : Avail).final = true) :
    Resolves s (finish i st r s) := by
  have hupd : Resolves s (s.updAvail i fun a => { a with state := st, result := some r, finalTick := some s.tick, claims := [] }) :=
    ⟨.of_ports rfl, fun j => by
      rw [State.updAvail_avail]; split
      · rename_i h; subst h; exact .inr ⟨hst, rfl⟩
      · exact .inl rfl, .refl _⟩
  exact hupd.trans (raiseFinal_resolves ..)

theorem finish_avail (i : Fin 64) (st : AvailState) (r : FinalResult) (s : State) (j : Fin 64) :
    (finish i st r s).avail j =
      if j = i then { s.avail i with state := st, result := some r, finalTick := some s.tick, claims := [] } else s.avail j := by
  unfold finish
  rw [(raiseFinal_ports i (s.avail i).state r _).avail, State.updAvail_avail]

theorem preempt_resolves (h : Handle) (s : State) : Resolves s (preempt h s) := by
  unfold preempt; split
  · exact finish_resolves _ _ _ _ rfl
  · exact .refl s

theorem finishLane_resolves (l : Fin 32) (st : AvailState) (r : FinalResult) (s : State) (hst : ({ state := st } : Avail).final = true) :
    Resolves s (finishLane l st r s) :=
  foldl_resolves _ (fun s i => by
    split
    · exact finish_resolves _ _ _ _ hst
    · exact .refl s) _ s

theorem planOwner_resolves (l : Fin 32) (c : Committed) (x : Source) (s : State) : Resolves s (planOwner l c x s) :=
  updLane_resolves _ _ _ rfl

theorem dropOwner_resolves (l : Fin 32) (s : State) : Resolves s (dropOwner l s) := by
  unfold dropOwner; split
  · exact updLane_resolves _ _ _ rfl
  · exact .refl s

theorem setOwner_resolves (l : Fin 32) (x : Source) (b : Bool) (s : State) : Resolves s (setOwner l x b s) := by
  unfold setOwner; dsimp only; split
  · exact commit_resolves ..
  · split
    · exact planOwner_resolves ..
    · exact planOwner_resolves ..
    · split
      · exact planOwner_resolves ..
      · exact .refl s
    all_goals exact .refl s

theorem noOwner_resolves (l : Fin 32) (x : Source) (b : Bool) (s : State) : Resolves s (noOwner l x b s) := by
  unfold noOwner; split
  · exact planOwner_resolves ..
  · exact dropOwner_resolves ..

theorem raiseLaneState_resolves (l : Fin 32) (c : LaneCause) (s : State) : Resolves s (raiseLaneState l c s) := raise_resolves ..

theorem setOwnerField_resolves (l : Fin 32) (o : Owner) (s : State) : Resolves s (setOwnerField l o s) := by
  unfold setOwnerField; dsimp only; split
  · exact .refl s
  · have h : Resolves s (raiseLaneState l .owner (s.updLane l fun L => { L with owner := o })) :=
      (updLane_resolves l _ s rfl).trans (raiseLaneState_resolves ..)
    split
    · exact h.trans (preempt_resolves ..)
    · exact h.trans (preempt_resolves ..)
    · exact h

theorem setTransition_resolves (l : Fin 32) (c : ResolveCause) (o : Owner) (x : Source) (b : Bool) (s : State) :
    Resolves s (setTransition l c o x b s) := by
  unfold setTransition
  exact .ite (dropOwner_resolves ..) (.ite (noOwner_resolves ..) (.ite (.refl s) (setOwner_resolves ..)))

/-- Everything that a re-resolution can do to ports, avails and lanes (R27 to R29). -/
theorem reresolve_resolves (c : ResolveCause) (l : Fin 32) (s : State) : Resolves s (reresolve c l s) :=
  (setOwnerField_resolves ..).trans (setTransition_resolves ..)

theorem reresolveLanes_resolves (c : ResolveCause) (f : Fin 32 → Bool) (s : State) : Resolves s (reresolveLanes c f s) :=
  foldl_resolves _ (fun s l => by
    split
    · exact reresolve_resolves ..
    · exact .refl s) _ s

theorem windowChange_resolves (m : LaneSet) (s : State) : Resolves s (windowChange m s) := reresolveLanes_resolves ..

theorem alertChange_resolves (z : ZoneSet) (s : State) : Resolves s (alertChange z s) := reresolveLanes_resolves ..

theorem requestStep_resolves (l : Fin 32) (b : Bool) (h : Handle) (T : Tick) (s : State) : Resolves s (requestStep l b h T s).2 := by
  unfold requestStep; dsimp only; split
  · split
    · exact commit_resolves ..
    · dsimp only
      exact updLane_resolves _ _ _ rfl
  · exact .refl s

/-- A step request on a lane in RUN is not refused (R35). -/
theorem requestStep_not_busy (l : Fin 32) (b : Bool) (h : Handle) (T : Tick) (s : State) (hrun : (s.lane l).state = .run) :
    (requestStep l b h T s).1 ≠ .busy := by
  unfold requestStep; dsimp only; rw [if_pos hrun]; split <;> simp

/-- A step request writes no avail. -/
theorem requestStep_avail (l : Fin 32) (b : Bool) (h : Handle) (T : Tick) (s : State) (i : Fin 64) :
    (requestStep l b h T s).2.avail i = s.avail i := by
  unfold requestStep; dsimp only; split
  · split <;> rfl
  · rfl

end Sys2Proof.Machine
end

section
/-! SUPPORT. Every operation of a tick lets ports do nothing but hear notices, and leaves every avail that is not final on a lane in RUN. -/

namespace Sys2Proof

open Sys2Proof.Machine

/-- Every avail that is not final stands on a lane in RUN: the first part of AvailsSound (R22, R49, R92, R120). -/
def LiveInRun (s : State) : Prop := ∀ i, (s.avail i).live = true → (s.lane (s.avail i).lane).state = .run

/-- Ports hear, and an avail that is not final still stands on a lane in RUN. -/
structure RunKept (s t : State) : Prop where
  hears : PortsHear s t
  run : LiveInRun s → LiveInRun t

theorem RunKept.refl (s : State) : RunKept s s := ⟨.refl s, id⟩

theorem RunKept.trans {s t u : State} (h : RunKept s t) (g : RunKept t u) : RunKept s u :=
  ⟨h.hears.trans g.hears, g.run ∘ h.run⟩

/-- Where every live avail was live on the same lane, and lane states stay, avails still stand on lanes in RUN. -/
theorem LiveInRun.of_live {s t : State} (hs : LiveInRun s)
    (ha : ∀ i, (t.avail i).live = true → (s.avail i).live = true ∧ (t.avail i).lane = (s.avail i).lane)
    (hl : ∀ i, (t.avail i).live = true → (t.lane (s.avail i).lane).state = (s.lane (s.avail i).lane).state) :
    LiveInRun t := fun i hi => by
  obtain ⟨hlive, hlane⟩ := ha i hi
  rw [hlane, hl i hi]
  exact hs i hlive

/-- An avail that is live was so before, and is as it was, where avails only end. -/
theorem AvailsEnd.live {s t : State} (h : AvailsEnd s t) {i : Fin 64} (hi : (t.avail i).live = true) : t.avail i = s.avail i := by
  rcases h i with e | ⟨hf, -⟩
  · exact e
  · rw [Avail.live_of_final hf] at hi; cases hi

theorem Resolves.runKept {s t : State} (h : Resolves s t) : RunKept s t :=
  ⟨h.hears, fun hs => hs.of_live (fun i hi => by rw [← h.avails.live hi]; exact ⟨hi, rfl⟩) fun i _ => h.lanes.state _⟩

theorem RunKept.of_eq {s t : State} (hp : t.ports = s.ports) (ha : t.avails = s.avails) (hl : t.lanes = s.lanes) : RunKept s t :=
  (Resolves.of_eq hp ha hl).runKept

theorem RunKept.ite {s t u : State} {c : Prop} [Decidable c] (h : RunKept s t) (g : RunKept s u) : RunKept s (if c then t else u) := by
  split
  · exact h
  · exact g

theorem foldl_runKept {α : Type} (f : State → α → State) (hf : ∀ s a, RunKept s (f s a)) (xs : List α) (s : State) :
    RunKept s (xs.foldl f s) := foldl_keeps RunKept RunKept.refl (fun _ _ _ => RunKept.trans) f hf xs s

end Sys2Proof

namespace Sys2Proof.Machine

/-! ## Avail records -/

theorem updAvail_hears (i : Fin 64) (f : Avail → Avail) (s : State) : PortsHear s (s.updAvail i f) := .of_ports rfl

/-- A change of an avail record that makes no avail live and moves none to another lane. -/
theorem updAvail_runKept (i : Fin 64) (f : Avail → Avail) (s : State)
    (hf : (f (s.avail i)).live = true → (s.avail i).live = true ∧ (f (s.avail i)).lane = (s.avail i).lane) :
    RunKept s (s.updAvail i f) := by
  refine ⟨.of_ports rfl, fun hs => hs.of_live (fun j => ?_) fun _ _ => rfl⟩
  rw [State.updAvail_avail]; split
  · rename_i h; subst h; exact hf
  · exact fun hj => ⟨hj, rfl⟩

/-- An avail less what a re-timing of its in tick writes (R130). -/
def Avail.untimed (a : Avail) : Avail := { a with inTick := 0, frames := 0, provisional := false, fillTick := none, fillStep := .none }

theorem Avail.moved_untimed (a : Avail) (L : Lane) (T : Tick) (c : Bool) : (a.moved L T c).untimed = a.untimed := by
  unfold Avail.moved; dsimp only; split <;> rfl

theorem Avail.state_of_untimed {a b : Avail} (h : b.untimed = a.untimed) : b.state = a.state :=
  show b.untimed.state = a.untimed.state from congrArg Avail.state h

theorem Avail.lane_of_untimed {a b : Avail} (h : b.untimed = a.untimed) : b.lane = a.lane :=
  show b.untimed.lane = a.untimed.lane from congrArg Avail.lane h

theorem Avail.live_of_untimed {a b : Avail} (h : b.untimed = a.untimed) (hb : b.live = true) : a.live = true ∧ b.lane = a.lane := by
  unfold Avail.live at *
  rw [← Avail.state_of_untimed h]
  exact ⟨hb, Avail.lane_of_untimed h⟩

/-- One avail is re-timed, and the others stay. -/
def OnlyRetimes (i : Fin 64) (s t : State) : Prop :=
  (∀ j, j ≠ i → t.avail j = s.avail j) ∧ (t.avail i).untimed = (s.avail i).untimed

theorem OnlyRetimes.refl (i : Fin 64) (s : State) : OnlyRetimes i s s := ⟨fun _ _ => rfl, rfl⟩

theorem OnlyRetimes.trans {i : Fin 64} {s t u : State} (h : OnlyRetimes i s t) (g : OnlyRetimes i t u) : OnlyRetimes i s u :=
  ⟨fun j hj => (g.1 j hj).trans (h.1 j hj), g.2.trans h.2⟩

theorem OnlyRetimes.of_ports {i : Fin 64} {s t : State} (h : PortsOnly s t) : OnlyRetimes i s t :=
  ⟨fun j _ => h.avail j, congrArg Avail.untimed (h.avail i)⟩

theorem OnlyRetimes.untimed {i : Fin 64} {s t : State} (h : OnlyRetimes i s t) (j : Fin 64) :
    (t.avail j).untimed = (s.avail j).untimed := by
  by_cases hj : j = i
  · subst hj; exact h.2
  · rw [h.1 j hj]

theorem updAvail_onlyRetimes (i : Fin 64) (f : Avail → Avail) (s : State) (hf : (f (s.avail i)).untimed = (s.avail i).untimed) :
    OnlyRetimes i s (s.updAvail i f) :=
  ⟨fun j hj => by rw [State.updAvail_avail, if_neg hj], by rw [State.updAvail_avail_self, hf]⟩

theorem raiseRetimed_resolves (i : Fin 64) (c : RetimeCause) (s : State) : Resolves s (raiseRetimed i c s) := raise_resolves ..

theorem moveIn_runKept (i : Fin 64) (T : Tick) (c : RetimeCause) (b : Bool) (s : State) : RunKept s (moveIn i T c b s) := by
  unfold moveIn
  have hupd : RunKept s (s.updAvail i fun _ => (s.avail i).moved (s.lane (s.avail i).lane) T b) :=
    updAvail_runKept _ _ _ (Avail.live_of_untimed (Avail.moved_untimed ..))
  exact .ite hupd (hupd.trans (raiseRetimed_resolves ..).runKept)

/-- What moving an in tick does to the avails (R130). -/
theorem moveIn_onlyRetimes (i : Fin 64) (T : Tick) (c : RetimeCause) (b : Bool) (s : State) : OnlyRetimes i s (moveIn i T c b s) := by
  have hupd : OnlyRetimes i s (s.updAvail i fun _ => (s.avail i).moved (s.lane (s.avail i).lane) T b) :=
    updAvail_onlyRetimes _ _ _ (Avail.moved_untimed ..)
  unfold moveIn; dsimp only; split
  · exact hupd
  · exact hupd.trans (.of_ports (raiseRetimed_ports ..))

theorem pullIn_runKept (i : Fin 64) (c : RetimeCause) (s : State) : RunKept s (pullIn i c s) := moveIn_runKept ..

/-- What a report of a committed step does to the avails (R126, R127, R129). -/
theorem reportCommitted_onlyRetimes (fill : Bool) (h : Handle) (e : Tick) (s : State) :
    OnlyRetimes h.slot s (reportCommitted fill h e s) := by
  have hupd (x : State) (f : Avail → Avail) (hf : ∀ a, (f a).untimed = a.untimed) : OnlyRetimes h.slot x (x.updAvail h.slot f) :=
    updAvail_onlyRetimes _ _ _ (hf _)
  unfold reportCommitted; dsimp only; split
  · exact .refl ..
  · split
    · split
      · split
        · refine ((hupd _ _ ?_).trans (hupd _ _ ?_)).trans (.of_ports (raiseRetimed_ports ..)) <;> exact fun _ => rfl
        · exact hupd _ _ fun _ => rfl
      · exact hupd _ _ fun _ => rfl
    · split
      · exact moveIn_onlyRetimes ..
      · exact .refl ..

/-- A report of a committed FILL step of a live avail is held in its record (R126). -/
theorem reportCommitted_fillStep (h : Handle) (e : Tick) (s : State) (hgen : (s.avail h.slot).gen = h.gen)
    (hlive : (s.avail h.slot).live = true) : ((reportCommitted true h e s).avail h.slot).fillStep = .committed := by
  unfold reportCommitted; dsimp only
  rw [if_neg (by simp [hgen, hlive]), if_pos rfl]
  split
  · split
    · rw [(raiseRetimed_ports ..).avail]; simp
    · simp
  · simp

theorem reportCommitted_runKept (fill : Bool) (h : Handle) (e : Tick) (s : State) : RunKept s (reportCommitted fill h e s) := by
  have hlanes : ∀ l, (reportCommitted fill h e s).lane l = s.lane l := fun l => by rw [reportCommitted_avails]; rfl
  refine ⟨?_, fun hs => hs.of_live (fun i => Avail.live_of_untimed ((reportCommitted_onlyRetimes fill h e s).untimed i))
    fun i _ => by rw [hlanes]⟩
  unfold reportCommitted; dsimp only; split
  · exact .refl s
  · split
    · split
      · split
        · exact ((updAvail_hears _ _ _).trans (updAvail_hears _ _ _)).trans (raiseRetimed_resolves ..).hears
        · exact updAvail_hears _ _ _
      · exact updAvail_hears _ _ _
    · split
      · exact (moveIn_runKept ..).hears
      · exact .refl s

/-! ## Arbitration -/

theorem raiseLost_resolves (i : Fin 64) (w : Candidate) (cs : List Candidate) (s : State) (p : Fin 4) :
    Resolves s (raiseLost i w cs s p) := by
  unfold raiseLost; dsimp only; split
  · exact .refl s
  · split
    · exact .refl s
    · exact raise_resolves ..

theorem raiseClaims_resolves (i : Fin 64) (w : Candidate) (cs : List Candidate) (s : State) : Resolves s (raiseClaims i w cs s) :=
  (raise_resolves ..).trans (foldl_resolves _ (raiseLost_resolves i w cs) _ _)

/-- What closing an avail does to the avails (R123, R153). -/
theorem closeAvail_avail (i : Fin 64) (h : Option Claim) (s : State) (j : Fin 64) :
    (j ≠ i → (closeAvail i h s).avail j = s.avail j) ∧ ((closeAvail i h s).avail i).state = .closed ∧
      ((closeAvail i h s).avail i).lane = (s.avail i).lane := by
  unfold closeAvail
  refine ⟨fun hj => ?_, ?_, ?_⟩
  · rw [State.updAvail_avail, if_neg hj]
  · simp
  · simp

/-- What an arbitration does to the avails: one is closed, the others stay (R123). -/
theorem arbitrate_avail (i : Fin 64) (s : State) (j : Fin 64) :
    (j ≠ i → (arbitrate i s).avail j = s.avail j) ∧ ((arbitrate i s).avail i).state = .closed := by
  unfold arbitrate; dsimp only; split
  · exact ⟨(closeAvail_avail i none s j).1, (closeAvail_avail i none s i).2.1⟩
  · rename_i w _
    obtain ⟨hother, hself, -⟩ := closeAvail_avail i (some w.claim) s j
    rw [(raiseClaims_ports ..).avail, (raiseClaims_ports ..).avail]
    exact ⟨hother, hself⟩

theorem closeAvail_runKept (i : Fin 64) (h : Option Claim) (s : State) (hlive : (s.avail i).live = true) :
    RunKept s (closeAvail i h s) := updAvail_runKept _ _ _ fun _ => ⟨hlive, rfl⟩

theorem arbitrate_runKept (i : Fin 64) (s : State) (hlive : (s.avail i).live = true) : RunKept s (arbitrate i s) := by
  unfold arbitrate; dsimp only; split
  · exact closeAvail_runKept i _ s hlive
  · exact (closeAvail_runKept i _ s hlive).trans (raiseClaims_resolves ..).runKept

theorem arbitrateIf_runKept (b : Bool) (i : Fin 64) (s : State) (hlive : (s.avail i).live = true) : RunKept s (arbitrateIf b i s) :=
  .ite (arbitrate_runKept i s hlive) (.refl s)

theorem Avail.live_of_armed {a : Avail} (h : a.state = .armed) : a.live = true := by unfold Avail.live; rw [h]

theorem Avail.live_of_closed {a : Avail} (h : a.state = .closed) : a.live = true := by unfold Avail.live; rw [h]

theorem Avail.live_of_out {a : Avail} (h : a.state = .out) : a.live = true := by unfold Avail.live; rw [h]

theorem takeClaimClose_runKept (i : Fin 64) (s : State) : RunKept s (takeClaimClose i s) := by
  unfold takeClaimClose; split
  · rename_i hdue
    have harmed : (s.avail i).state = .armed := by simp only [claimCloseDue, Bool.and_eq_true, decide_eq_true_eq] at hdue; exact hdue.1
    exact arbitrate_runKept i s (Avail.live_of_armed harmed)
  · exact .refl s

/-! ## Breaks -/

/-- A new avail stands on a lane in RUN (R92, R119, R120). -/
theorem createAvail_runKept (i : Fin 64) (l : Fin 32) (id : BitVec 32) (c : Byte) (o : AvailOrigin) (t : Times) (s : State)
    (hrun : (s.lane l).state = .run) : RunKept s (createAvail i l id c o t s) := by
  unfold createAvail
  generalize hf : (fun a : Avail =>
    ({ gen := a.nextGen, state := .armed, lane := l, eventId := id, cls := c, origin := some o, outTick := t.outTick, inTick := t.inTick,
       frames := t.frames, provisional := t.provisional, claimClose := t.claimClose } : Avail)) = f
  have hnew : RunKept s (s.updAvail i f) := ⟨.of_ports rfl, fun hs j => by
    rw [State.updAvail_avail]; split
    · subst hf; exact fun _ => hrun
    · exact hs j⟩
  have harmed : ((raiseNew i (s.updAvail i f)).avail i).state = .armed := by
    show ((s.updAvail i f).avail i).state = .armed
    rw [State.updAvail_avail_self]; subst hf; rfl
  exact (hnew.trans (raise_resolves ..).runKept).trans (arbitrateIf_runKept _ _ _ (Avail.live_of_armed harmed))

theorem countConflict_runKept (i : Fin 64) (s : State) : RunKept s (countConflict i s) := updAvail_runKept _ _ _ fun h => ⟨h, rfl⟩

theorem repeatAvail_runKept (i : Fin 64) (t : Times) (s : State) : RunKept s (repeatAvail i t s).state := by
  unfold repeatAvail; dsimp only; split
  · dsimp only; exact updAvail_runKept _ _ _ fun h => ⟨h, rfl⟩
  · split
    · rename_i harmed
      dsimp only
      refine .trans (.trans ?_ (raiseRetimed_resolves ..).runKept) (arbitrateIf_runKept _ _ _ ?_)
      · exact updAvail_runKept _ _ _ fun h => ⟨h, rfl⟩
      · rw [(raiseRetimed_ports ..).avail, State.updAvail_avail_self]
        exact Avail.live_of_armed harmed
    · dsimp only; exact updAvail_runKept _ _ _ fun h => ⟨h, rfl⟩

theorem acceptBreak_runKept (l : Fin 32) (id : BitVec 32) (c : Byte) (o : AvailOrigin) (t : Except ReplyCode Times) (s : State)
    (hrun : (s.lane l).state = .run) : RunKept s (acceptBreak l id c o t s).state := by
  unfold acceptBreak; split
  · exact .refl s
  · split
    · exact repeatAvail_runKept ..
    · split
      · exact .refl s
      · exact createAvail_runKept _ _ _ _ _ _ _ hrun

theorem returnCue_runKept (l : Fin 32) (c : Cue) (s : State) : RunKept s (returnCue l c s).2 := by
  unfold returnCue; split
  · exact .refl s
  · dsimp only; split
    · exact countConflict_runKept ..
    · split
      · exact .refl s
      · split
        · exact (finish_resolves _ _ _ _ rfl).runKept
        · exact moveIn_runKept ..

theorem cancelCue_runKept (l : Fin 32) (c : Cue) (s : State) : RunKept s (cancelCue l c s).2 := by
  unfold cancelCue; split
  · exact .refl s
  · split
    · exact pullIn_runKept ..
    · exact countConflict_runKept ..
    all_goals exact (finish_resolves _ _ _ _ rfl).runKept

theorem cueAction_runKept (f : Fin 48) (c : Cue) (l : Fin 32) (s : State) (hrun : (s.lane l).state = .run) :
    RunKept s (cueAction f c l s).2 := by
  unfold cueAction; split
  · exact acceptBreak_runKept _ _ _ _ _ _ hrun
  · exact returnCue_runKept ..
  · exact cancelCue_runKept ..
  · exact .refl s

/-! ## Cues -/

theorem armLanes_runKept (f : Fin 48) (c : Cue) (ls : List (Fin 32)) (s : State) (hrun : ∀ l ∈ ls, (s.lane l).state = .run) :
    RunKept s (armLanes f c ls s).2 := by
  induction ls generalizing s with
  | nil => exact .refl s
  | cons l ls ih =>
    have hhead := cueAction_runKept f c l s (hrun l (by simp))
    have hlanes : ∀ m, (cueAction f c l s).2.lane m = s.lane m := fun m => by rw [cueAction_avails]; rfl
    have htail := ih (cueAction f c l s).2 fun m hm => by rw [hlanes]; exact hrun m (by simp [hm])
    unfold armLanes; dsimp only; split <;> exact hhead.trans htail

theorem filterAct_runKept (i : Fin 48) (c : Cue) (s : State) : RunKept s (filterAct i c s).state := by
  have hqual : ∀ l ∈ qualifying s (s.filter i).cfg c, (s.lane l).state = .run := fun l hl => by
    simp only [qualifying, List.mem_filter, Bool.and_eq_true, decide_eq_true_eq] at hl
    exact hl.2.1.2
  unfold filterAct; dsimp only; split
  · exact .refl s
  · exact .refl s
  · split
    · exact .refl s
    · split
      · exact .refl s
      · split <;> exact armLanes_runKept _ _ _ _ hqual

/-- A delivered cue makes avails on lanes in RUN only (R92). -/
theorem deliverCue_runKept (c : Cue) (s : State) : RunKept s (deliverCue c s) := by
  unfold deliverCue; split
  · rename_i i _
    have h : RunKept s ((filterAct i c s).state.updFilter i fun F =>
        { F with hit := F.hit.hit c s.tick (filterAct i c s).outcome (filterAct i c s).lane (filterAct i c s).applied }) :=
      (filterAct_runKept i c s).trans (.of_eq rfl rfl rfl)
    exact .ite (h.trans (raise_resolves ..).runKept) h
  · unfold takeStrayCue; dsimp only
    refine .trans ?_ (raise_resolves ..).runKept
    exact .of_eq rfl rfl rfl

/-! ## Evaluation passes -/

end Sys2Proof.Machine
end

section
/-! SUPPORT. The events of a tick, one by one (R2): what each leaves, and that none of them is still due after it was taken. -/

namespace Sys2Proof

open Sys2Proof.Machine

/-- A cell keeps its configuration, and its settle timer stays or is set from the present tick (R71). -/
def Machine.Cell.Evaluates (T : Tick) (c d : Cell) : Prop :=
  d.cfg = c.cfg ∧
    (d.timer = c.timer ∨ (c.cfg.settle ≠ 0 ∧ d.timer = some (addTicks T (c.cfg.settle * Config.ticksPerMillisecond))))

/-- What a part of an evaluation pass can do: only cells and pair elements differ, and cells are evaluated. -/
structure PassOnly (s t : State) : Prop where
  frame : t = { s with cells := t.cells, pairs := t.pairs }
  cells : ∀ n, Cell.Evaluates s.tick (s.cell n) (t.cell n)

theorem PassOnly.tick {s t : State} (h : PassOnly s t) : t.tick = s.tick := by rw [h.frame]

theorem PassOnly.refl (s : State) : PassOnly s s := ⟨rfl, fun _ => ⟨rfl, .inl rfl⟩⟩

theorem PassOnly.trans {s t u : State} (h : PassOnly s t) (g : PassOnly t u) : PassOnly s u := by
  refine ⟨?_, fun n => ?_⟩
  · have e := g.frame
    rw [h.frame] at e; exact e
  · obtain ⟨hcfg, hset⟩ := h.cells n
    obtain ⟨gcfg, gset⟩ := g.cells n
    rw [h.tick, hcfg] at gset
    refine ⟨gcfg.trans hcfg, ?_⟩
    rcases gset with e | e
    · rw [e]; exact hset
    · exact .inr e

theorem CueOnly.cell {s t : State} (h : CueOnly s t) (n : Fin 12) : t.cell n = s.cell n := by
  unfold CueOnly at h; rw [h]; rfl

theorem ArrayOnly.alert {s t : State} (h : ArrayOnly s t) (a : Fin 4) : t.alert a = s.alert a := by
  unfold ArrayOnly at h; rw [h]; rfl

theorem PassOnly.runKept {s t : State} (h : PassOnly s t) : RunKept s t := by
  have hp : t.ports = s.ports := by rw [h.frame]
  have ha : t.avails = s.avails := by rw [h.frame]
  have hl : t.lanes = s.lanes := by rw [h.frame]
  exact .of_eq hp ha hl

end Sys2Proof

namespace Sys2Proof.Machine

/-! ## The evaluation pass (R69 to R78) -/

theorem updCell_pass (n : Fin 12) (f : Cell → Cell) (s : State) (hf : Cell.Evaluates s.tick (s.cell n) (f (s.cell n))) :
    PassOnly s (s.updCell n f) := by
  refine ⟨rfl, fun m => ?_⟩
  rw [State.updCell_cell]; split
  · rename_i h; subst h; exact hf
  · exact ⟨rfl, .inl rfl⟩

theorem updPair_pass (k : Fin 6) (f : Pair → Pair) (s : State) : PassOnly s (s.updPair k f) := ⟨rfl, fun _ => ⟨rfl, .inl rfl⟩⟩

theorem emit_pass (n : Fin 12) (b : Bool) (x : Pass) : PassOnly x.1 (emit n b x).1 := by
  unfold emit; dsimp only; split
  · exact .refl _
  · dsimp only
    exact updCell_pass _ _ _ ⟨rfl, .inl rfl⟩

theorem emitOn_pass (src : EmitSource) (n : Fin 12) (b : Bool) (x : Pass) : PassOnly x.1 (emitOn src n b x).1 := by
  unfold emitOn; split
  · exact emit_pass ..
  · exact .refl _

theorem evalCell_pass (n : Fin 12) (x : Pass) : PassOnly x.1 (evalCell n x).1 := by
  unfold evalCell; dsimp only; split
  · exact .refl _
  · split
    · exact .refl _
    · split
      · have hset (r : Bool) : PassOnly x.1 (x.1.updCell n fun c => { c with raw := r, filtered := r }) :=
          updCell_pass _ _ _ ⟨rfl, .inl rfl⟩
        split
        · exact hset _
        · refine .trans ?_ (emitOn_pass ..); exact hset _
      · rename_i hsettle
        dsimp only
        exact updCell_pass _ _ _ ⟨rfl, .inr ⟨hsettle, rfl⟩⟩

theorem evalElement_pass (k : Fin 6) (x : Pass) : PassOnly x.1 (evalElement k x).1 := by
  have hset (out seen : Bool) : PassOnly x.1 (x.1.updPair k fun P => { P with output := out, oddSeen := seen }) := updPair_pass ..
  unfold evalElement; dsimp only; split
  · exact .refl _
  · split
    · exact hset _ _
    · refine .trans (.trans ?_ (emitOn_pass ..)) (emitOn_pass ..)
      exact hset _ _

theorem evalPass_pass (x : Pass) : PassOnly x.1 (evalPass x).1 :=
  foldl_keeps (fun a b : Pass => PassOnly a.1 b.1) (fun _ => .refl _) (fun _ _ _ => PassOnly.trans) evalPair
    (fun _ _ => ((evalCell_pass ..).trans (evalCell_pass ..)).trans (evalElement_pass ..)) _ x

/-! ## Settle timers (R71, R72) -/

theorem runPass_runKept (x : Pass) : RunKept x.1 (runPass x) :=
  (evalPass_pass x).runKept.trans (foldl_runKept _ (fun s c => deliverCue_runKept c s) _ _)

theorem deliverCues_cue (cs : List Cue) (s : State) : CueOnly s (cs.foldl (fun s c => deliverCue c s) s) :=
  foldl_keeps CueOnly CueOnly.refl (fun _ _ _ => CueOnly.trans) _ (fun s c => deliverCue_cue c s) _ _

/-- The cues of a pass leave the cells. -/
theorem runPass_cell (x : Pass) (n : Fin 12) : (runPass x).cell n = (evalPass x).1.cell n := by
  unfold runPass
  exact (deliverCues_cue ..).cell n

/-- A cell whose settle timer does not expire at a tick, where its settle time is one that a byte can give (R68). -/
def Cell.IdleAt (T : Tick) (c : Cell) : Prop := c.cfg.settle ≤ 255 → c.timer ≠ some T

/-- A tick that is at least one and less than 2^48 ticks later is another one (R3). -/
theorem addTicks_ne (T : Tick) {n : Nat} (hpos : 0 < n) (hlt : n < 2 ^ 48) : addTicks T n ≠ T := by
  intro h
  have hzero : BitVec.ofNat 48 n = 0 := by simpa [addTicks] using h
  have hnat := congrArg BitVec.toNat hzero
  rw [BitVec.toNat_ofNat, Nat.mod_eq_of_lt hlt] at hnat
  simp at hnat; omega

/-- A settle timer that is set at a tick does not expire at it. -/
theorem Cell.Evaluates.idleAt {T : Tick} {c d : Cell} (h : c.Evaluates T d) (hc : c.IdleAt T) : d.IdleAt T := by
  obtain ⟨hcfg, hset⟩ := h
  intro hd
  rw [hcfg] at hd
  rcases hset with e | ⟨hne, e⟩ <;> rw [e]
  · exact hc hd
  · intro heq
    exact addTicks_ne T (by simp [Config.ticksPerMillisecond]; omega) (by simp [Config.ticksPerMillisecond]; omega) (Option.some.inj heq)

/-- What a settle expiry begins with: its timer is stopped and its filtered output follows (R72). -/
def settledCell (n : Fin 12) (s : State) : State := s.updCell n fun c => { c with timer := none, filtered := c.raw }

/-- After the stopping of its timer, a settle expiry is an evaluation pass and its cues. -/
theorem settle_cell (n : Fin 12) (s : State) (m : Fin 12) :
    Cell.Evaluates s.tick ((settledCell n s).cell m) ((settle n s).cell m) := by
  unfold settle; dsimp only
  rw [runPass_cell]
  have hpass : ∀ x : Pass, PassOnly (settledCell n s) x.1 →
      Cell.Evaluates s.tick ((settledCell n s).cell m) ((evalPass x).1.cell m) :=
    fun x hx => (hx.trans (evalPass_pass x)).cells m
  split
  · exact hpass _ (.refl _)
  · exact hpass _ (emitOn_pass _ _ _ (settledCell n s, []))

theorem settle_runKept (n : Fin 12) (s : State) : RunKept s (settle n s) := by
  have hstop : RunKept s (settledCell n s) := .of_eq rfl rfl rfl
  unfold settle; dsimp only; split
  · exact hstop.trans (runPass_runKept (settledCell n s, []))
  · exact (hstop.trans (emitOn_pass _ _ _ (settledCell n s, [])).runKept).trans (runPass_runKept _)

theorem takeSettle_runKept (n : Fin 12) (s : State) : RunKept s (takeSettle n s) := .ite (settle_runKept n s) (.refl s)

/-- A taken settle expiry keeps every cell's configuration, leaves its own cell idle and makes no other cell due. -/
theorem takeSettle_cell (n m : Fin 12) (s : State) :
    ((takeSettle n s).cell m).cfg = (s.cell m).cfg ∧ ((s.cell m).IdleAt s.tick ∨ m = n → ((takeSettle n s).cell m).IdleAt s.tick) := by
  unfold takeSettle; split
  · have heval := settle_cell n s m
    have hstart : ((settledCell n s).cell m).cfg = (s.cell m).cfg := by
      unfold settledCell; rw [State.updCell_cell]; split
      · rename_i h; rw [h]
      · rfl
    refine ⟨heval.1.trans hstart, fun hm => heval.idleAt ?_⟩
    unfold settledCell; rw [State.updCell_cell]; split
    · intro _ h; cases h
    · rename_i hne
      exact hm.resolve_right hne
  · rename_i hdue
    refine ⟨rfl, fun hm => ?_⟩
    rcases hm with h | h
    · exact h
    · subst h
      intro _ heq
      exact hdue (decide_eq_true heq)

/-! ## Windows and alerts -/

theorem raiseAll_resolves (ns : List Notice) (s : State) : Resolves s (raiseAll ns s) :=
  foldl_resolves _ (fun s n => raise_resolves n [] s) ns s

theorem windowBoundary_resolves (s : State) : Resolves s (windowBoundary s) := by
  have hrecords : Resolves s { s with windows := (windowBoundary s).windows } := .of_eq rfl rfl rfl
  rw [windowBoundary_eq]
  exact (hrecords.trans (raiseAll_resolves ..)).trans (foldl_resolves _ (fun _ _ => windowChange_resolves ..) _ _)

/-- A second boundary's part in the ports, the avails and the lanes (R160, R161). -/
theorem takeBoundary_resolves (s : State) : Resolves s (takeBoundary s) := by
  have hcalendar : Resolves s { s with boundaryDue := false, calendar := s.calendar.advance } := .of_eq rfl rfl rfl
  exact .ite (hcalendar.trans (windowBoundary_resolves _)) (.refl s)

theorem endAlert_resolves (a : Fin 4) (A : Alert) (r : EndReason) (e : Option (Fin 4)) (s : State) : Resolves s (endAlert a A r e s) :=
  .trans (t := emptyAlert a s) (.of_eq rfl rfl rfl) (raise_resolves ..)

theorem takeAlertExpiry_resolves (a : Fin 4) (s : State) : Resolves s (takeAlertExpiry a s) := by
  unfold takeAlertExpiry; split
  · exact .ite ((endAlert_resolves ..).trans (alertChange_resolves ..)) (.refl s)
  · exact .refl s

/-- What an alert's slot holds after the expiries of a tick (R178). -/
def unexpired (T : Tick) (x : Option Alert) : Option Alert := x.filter fun A => decide (A.expiry ≠ T)

/-- An alert expiry empties its own slot where it is due, and no other (R178). -/
theorem takeAlertExpiry_alert (a b : Fin 4) (s : State) :
    (takeAlertExpiry a s).alert b = if b = a then unexpired s.tick (s.alert a) else s.alert b := by
  unfold takeAlertExpiry; split
  · rename_i A hA
    split
    · rename_i hdue
      have hslot : (alertChange A.zones (endAlert a A .expired none s)).alert b = (s.setAlert a none).alert b :=
        (alertChange_break ..).alert b
      rw [hslot, State.setAlert_alert, hA]
      simp [unexpired, Option.filter, hdue]
    · rename_i hnot
      rw [hA]
      by_cases h : b = a
      · subst h; simp [unexpired, Option.filter, hnot, hA]
      · simp [h]
  · rename_i hA
    by_cases h : b = a
    · subst h; simp [unexpired, hA]
    · simp [h]

/-! ## Quiet intervals -/

theorem takeQuietExpiry_runKeeps (p : Fin 4) (s : State) : LiveInRun s → LiveInRun (takeQuietExpiry p s) := by
  unfold takeQuietExpiry; split
  · exact fun hs => hs
  · exact id

theorem takeQuietExpiry_alert (p : Fin 4) (a : Fin 4) (s : State) : (takeQuietExpiry p s).alert a = s.alert a := by
  unfold takeQuietExpiry; split <;> rfl

theorem takeQuietExpiry_cell (p : Fin 4) (n : Fin 12) (s : State) : (takeQuietExpiry p s).cell n = s.cell n := by
  unfold takeQuietExpiry; split <;> rfl

/-- What a port shows of its link: its state, its error count and its quiet interval. -/
def Port.link (P : Port) : PortState × Nat × Option Tick := (P.state, P.errors, P.quiet)

theorem Port.Hears.link {P Q : Port} (h : P.Hears Q) : Q.link = P.link := by
  obtain ⟨-, hstate, herrors, -, -, hquiet⟩ := h.keeps
  unfold Port.link; rw [hstate, herrors, hquiet]

/-- A port's link after the expiries of a tick (R195). -/
def rejoinedLink (T : Tick) (x : PortState × Nat × Option Tick) : PortState × Nat × Option Tick :=
  if x.1 = .detached ∧ x.2.2 = some T then (.normal, 0, none) else x

/-- A quiet expiry completes the rejoin of its own port where it is due, and of no other (R195). -/
theorem takeQuietExpiry_link (p q : Fin 4) (s : State) :
    ((takeQuietExpiry p s).port q).link = if q = p then rejoinedLink s.tick (s.port p).link else (s.port q).link := by
  have hlink : ∀ (P : Port) n b, (P.receive n b).link = P.link := fun P n b => Port.Hears.link (.single ⟨n, b, rfl⟩)
  unfold takeQuietExpiry; split
  · rename_i hdue
    have hd : (s.port p).link.1 = .detached ∧ (s.port p).link.2.2 = some s.tick := by
      simpa [quietDue, Port.link] using hdue
    unfold completeRejoin
    rw [raise_port, hlink, State.updPort_port]
    split
    · rw [rejoinedLink, if_pos hd]; rfl
    · rfl
  · rename_i hdue
    have hd : ¬((s.port p).link.1 = .detached ∧ (s.port p).link.2.2 = some s.tick) := by
      simpa [quietDue, Port.link] using hdue
    split
    · rename_i h; subst h; rw [rejoinedLink, if_neg hd]
    · rfl

end Sys2Proof.Machine
end

section
/-! SUPPORT. Sweeps over a table, lane faults and commit points: what stands after each event of a tick was taken (R2). -/

namespace Sys2Proof.Machine

/-! ## Sweeps -/

/-- What each member's event brings about and no other undoes stands for every member after a fold over all of them. -/
theorem foldl_finRange_takes {σ : Type} {n : Nat} (f : σ → Fin n → σ) (Inv : σ → Prop) (P : Fin n → σ → Prop)
    (hinv : ∀ s i, Inv s → Inv (f s i)) (hself : ∀ s i, Inv s → P i (f s i)) (hkeep : ∀ s i j, Inv s → P j s → P j (f s i))
    (s : σ) (hs : Inv s) (i : Fin n) : P i ((List.finRange n).foldl f s) := by
  suffices h : ∀ (xs : List (Fin n)) (s : σ), Inv s → i ∈ xs ∨ P i s → P i (xs.foldl f s) from h _ s hs (.inl (List.mem_finRange i))
  intro xs
  induction xs with
  | nil => intro s _ h; exact h.resolve_left (by simp)
  | cons x xs ih =>
    intro s hs h
    refine ih (f s x) (hinv s x hs) ?_
    rcases h with h | h
    · rcases List.mem_cons.mp h with rfl | h
      · exact .inr (hself s i hs)
      · exact .inl h
    · exact .inr (hkeep s x i hs h)

theorem sweep_takes {n : Nat} (take : Fin n → State → State) (Inv : State → Prop) (P : Fin n → State → Prop)
    (hinv : ∀ i s, Inv s → Inv (take i s)) (hself : ∀ i s, Inv s → P i (take i s)) (hkeep : ∀ i j s, Inv s → P j s → P j (take i s))
    (s : State) (hs : Inv s) (i : Fin n) : P i (sweep take s) :=
  foldl_finRange_takes (fun s i => take i s) Inv P (fun s i => hinv i s) (fun s i => hself i s) (fun s i j => hkeep i j s) s hs i

/-- Where each event changes what is observed of its own member alone, a sweep changes it once for each member. -/
theorem sweep_each {n : Nat} {α : Type} (take : Fin n → State → State) (Inv : State → Prop) (obs : Fin n → State → α) (g : α → α)
    (hinv : ∀ i s, Inv s → Inv (take i s)) (hobs : ∀ i j s, Inv s → obs j (take i s) = if j = i then g (obs i s) else obs j s)
    (s : State) (hs : Inv s) (i : Fin n) : obs i (sweep take s) = g (obs i s) := by
  suffices h : ∀ (xs : List (Fin n)) (s : State), xs.Nodup → Inv s →
      obs i (xs.foldl (fun s i => take i s) s) = if i ∈ xs then g (obs i s) else obs i s by
    have := h _ s (List.nodup_finRange n) hs
    rwa [if_pos (List.mem_finRange i)] at this
  intro xs
  induction xs with
  | nil => intro s _ _; rfl
  | cons x xs ih =>
    intro s hn hs
    obtain ⟨hx, hxs⟩ := List.nodup_cons.mp hn
    rw [List.foldl_cons, ih _ hxs (hinv x s hs), hobs x i s hs]
    by_cases h : i = x
    · subst h; simp [hx]
    · simp [h]

/-! ## Lane faults -/

/-- Ports hear, and of the lanes only lane l's record differs; no avail differs. -/
structure OnlyLane (l : Fin 32) (s t : State) : Prop where
  hears : PortsHear s t
  avails : t.avails = s.avails
  lanes : ∀ m, m ≠ l → t.lane m = s.lane m

theorem OnlyLane.refl (l : Fin 32) (s : State) : OnlyLane l s s := ⟨.refl s, rfl, fun _ _ => rfl⟩

theorem OnlyLane.trans {l : Fin 32} {s t u : State} (h : OnlyLane l s t) (g : OnlyLane l t u) : OnlyLane l s u :=
  ⟨h.hears.trans g.hears, g.avails.trans h.avails, fun m hm => (g.lanes m hm).trans (h.lanes m hm)⟩

theorem OnlyLane.ite {l : Fin 32} {s t u : State} {c : Prop} [Decidable c] (h : OnlyLane l s t) (g : OnlyLane l s u) :
    OnlyLane l s (if c then t else u) := by
  split
  · exact h
  · exact g

theorem raise_onlyLane (l : Fin 32) (n : Notice) (a : List (Fin 4)) (s : State) : OnlyLane l s (raise n a s) :=
  ⟨(raise_resolves n a s).hears, rfl, fun _ _ => rfl⟩

theorem updLane_onlyLane (l : Fin 32) (f : Lane → Lane) (s : State) : OnlyLane l s (s.updLane l f) :=
  ⟨.of_ports rfl, rfl, fun m hm => by rw [State.updLane_lane, if_neg hm]⟩

theorem setConfirmed_onlyLane (l : Fin 32) (x : Option Source) (s : State) : OnlyLane l s (setConfirmed l x s) :=
  .ite (.refl l s) ((updLane_onlyLane ..).trans (raise_onlyLane ..))

theorem setLaneState_onlyLane (l : Fin 32) (x : LaneState) (s : State) : OnlyLane l s (setLaneState l x s) :=
  (updLane_onlyLane ..).trans (raise_onlyLane ..)

/-- No avail of a lane is live after all of them were made final (R136, R137). -/
theorem finishLane_done (l : Fin 32) (st : AvailState) (r : FinalResult) (s : State) (hst : ({ state := st } : Avail).final = true)
    (i : Fin 64) : ((finishLane l st r s).avail i).live = true → ((finishLane l st r s).avail i).lane ≠ l := by
  have hfinal : ∀ (t : State) (j : Fin 64), ((finish j st r t).avail j).live = false := fun t j => by
    rw [finish_avail, if_pos rfl]; exact Avail.live_of_final hst
  refine foldl_finRange_takes _ (fun _ => True) (fun i t => (t.avail i).live = true → (t.avail i).lane ≠ l) (fun _ _ _ => trivial)
    (fun t j _ => ?_) (fun t j k _ hk => ?_) s trivial i
  · split
    · intro h; rw [hfinal] at h; cases h
    · rename_i hnot; exact fun hlive hlane => hnot ⟨hlive, hlane⟩
  · split
    · by_cases hjk : k = j
      · subst hjk; intro h; rw [hfinal] at h; cases h
      · rw [finish_avail, if_neg hjk]; exact hk
    · exact hk

/-- Where a lane leaves RUN and its avails are made final, every live avail still stands on a lane in RUN (R22, R49). -/
theorem OnlyLane.finishLane_runKept {l : Fin 32} {s t : State} (h : OnlyLane l s t) (st : AvailState) (r : FinalResult)
    (hst : ({ state := st } : Avail).final = true) : RunKept s (finishLane l st r t) := by
  have hres := finishLane_resolves l st r t hst
  have havail : ∀ i, t.avail i = s.avail i := fun i => by unfold State.avail; rw [h.avails]
  refine ⟨h.hears.trans hres.hears, fun hs => hs.of_live (fun i hi => ?_) fun i hi => ?_⟩
  · have hsame := (hres.avails.live hi).trans (havail i)
    rw [hsame] at hi ⊢; exact ⟨hi, rfl⟩
  · have hlane := finishLane_done l st r t hst i hi
    rw [hres.avails.live hi, havail] at hlane
    rw [hres.lanes.state, h.lanes _ hlane]

theorem laneFault_runKept (l : Fin 32) (o : Outstanding) (r : FaultReason) (c : Option FabricCode) (s : State) :
    RunKept s (laneFault l o r c s) := by
  have hupd := (setConfirmed_onlyLane l none s).trans (updLane_onlyLane l (fun L =>
    { L with committed := none, planned := none, faultReason := some r, failedTarget := some o.target }) _)
  have hend (x : State) (n : Notice) (h : OnlyLane l s x) : RunKept s (finishLane l .missed .fault (raise n [] x)) :=
    (h.trans (raise_onlyLane ..)).finishLane_runKept _ _ rfl
  unfold laneFault
  exact .ite ((hend _ _ (.ite hupd (hupd.trans (setLaneState_onlyLane ..)))).trans (reresolve_resolves ..).runKept)
    (hend _ _ (.ite hupd (hupd.trans (setLaneState_onlyLane ..))))

theorem dropOrder_resolves (l : Fin 32) (s : State) : Resolves s (dropOrder l s) := .ite (.of_eq rfl rfl rfl) (.of_eq rfl rfl rfl)

/-! ## The out commit point (R124) -/

/-- What an out commit point comes to: the avail is made final, or its OUT order is committed and the lane is resolved again. -/
theorem outCommit_cases (i : Fin 64) (s : State) :
    (∃ st r, ({ state := st } : Avail).final = true ∧ outCommit i s = finish i st r s) ∨
      ∃ l x e a, outCommit i s = reresolve .ordinary l ((commit l .out x e a s).updAvail i fun a => { a with state := .out }) := by
  unfold outCommit; dsimp only; split
  · exact .inl ⟨_, _, rfl, rfl⟩
  · split
    · exact .inl ⟨_, _, rfl, rfl⟩
    · split
      · exact .inl ⟨_, _, rfl, rfl⟩
      · split
        · exact .inl ⟨_, _, rfl, rfl⟩
        · split
          · exact .inl ⟨_, _, rfl, rfl⟩
          · split
            · exact .inl ⟨_, _, rfl, rfl⟩
            · split
              · exact .inl ⟨_, _, rfl, rfl⟩
              · split
                · exact .inl ⟨_, _, rfl, rfl⟩
                · exact .inr ⟨_, _, _, _, rfl⟩

theorem outCommit_runKept (i : Fin 64) (s : State) (hlive : (s.avail i).live = true) : RunKept s (outCommit i s) := by
  rcases outCommit_cases i s with ⟨st, r, hst, e⟩ | ⟨l, x, T, a, e⟩ <;> rw [e]
  · exact (finish_resolves i st r s hst).runKept
  · have hout : RunKept (commit l .out x T a s) ((commit l .out x T a s).updAvail i fun a => { a with state := .out }) :=
      updAvail_runKept _ _ _ fun _ => ⟨hlive, rfl⟩
    exact ((commit_resolves ..).runKept.trans hout).trans (reresolve_resolves ..).runKept

/-- After an out commit point its avail is in OUT or final, and every other one is as it was or final. -/
theorem outCommit_avail (i j : Fin 64) (s : State) :
    (j ≠ i → (outCommit i s).avail j = s.avail j ∨ ((outCommit i s).avail j).final = true) ∧
      (((outCommit i s).avail i).state = .out ∨ ((outCommit i s).avail i).final = true) := by
  rcases outCommit_cases i s with ⟨st, r, hst, e⟩ | ⟨l, x, T, a, e⟩ <;> rw [e]
  · refine ⟨fun hj => .inl ?_, .inr ?_⟩
    · rw [finish_avail, if_neg hj]
    · rw [finish_avail, if_pos rfl]; exact hst
  · have hend := (reresolve_resolves .ordinary l ((commit l .out x T a s).updAvail i fun a => { a with state := .out })).avails
    refine ⟨fun hj => ?_, ?_⟩
    · rcases hend j with h | ⟨h, -⟩
      · rw [State.updAvail_avail, if_neg hj] at h
        exact .inl h
      · exact .inr h
    · rcases hend i with h | ⟨h, -⟩
      · rw [State.updAvail_avail_self] at h
        rw [h]; exact .inl rfl
      · exact .inr h

/-! ## The fill commit point (R126) -/

theorem requestStep_onlyRetimes (i : Fin 64) (l : Fin 32) (b : Bool) (h : Handle) (T : Tick) (s : State) :
    OnlyRetimes i s (requestStep l b h T s).2 :=
  ⟨fun j _ => requestStep_avail l b h T s j, congrArg Avail.untimed (requestStep_avail l b h T s i)⟩

theorem fillCommit_onlyRetimes (i : Fin 64) (f : Tick) (s : State) : OnlyRetimes i s (fillCommit i f s) := by
  unfold fillCommit; dsimp only; split
  · exact (requestStep_onlyRetimes i ..).trans (reportCommitted_onlyRetimes true (s.handleOf i) _ _)
  · exact (requestStep_onlyRetimes i ..).trans (updAvail_onlyRetimes _ _ _ rfl)
  · exact requestStep_onlyRetimes i ..

theorem fillCommit_runKept (i : Fin 64) (f : Tick) (s : State) : RunKept s (fillCommit i f s) := by
  unfold fillCommit; dsimp only; split
  · exact (requestStep_resolves ..).runKept.trans (reportCommitted_runKept ..)
  · refine (requestStep_resolves ..).runKept.trans (updAvail_runKept _ _ _ ?_)
    exact fun h => ⟨h, rfl⟩
  · exact (requestStep_resolves ..).runKept

/-- A fill commit point of a live avail on a lane in RUN begins its FILL step (R126). -/
theorem fillCommit_fillStep (i : Fin 64) (f : Tick) (s : State) (hlive : (s.avail i).live = true)
    (hrun : (s.lane (s.avail i).lane).state = .run) : ((fillCommit i f s).avail i).fillStep ≠ .none := by
  have hsame : ∀ l b h T, (requestStep l b h T s).2.avail i = s.avail i := fun l b h T => requestStep_avail l b h T s i
  unfold fillCommit; dsimp only; split
  · rename_i e _
    have := reportCommitted_fillStep (s.handleOf i) e (requestStep (s.avail i).lane true (s.handleOf i) f s).2
      (congrArg Avail.gen (hsame ..)) (by show ((requestStep ..).2.avail i).live = true; rw [hsame]; exact hlive)
    show ((reportCommitted true (s.handleOf i) e _).avail (s.handleOf i).slot).fillStep ≠ .none
    rw [this]; simp
  · simp
  · rename_i hbusy
    exact absurd hbusy (requestStep_not_busy _ _ _ _ _ hrun)

/-! ## The in commit point (R127) -/

/-- An avail whose IN step was accepted returns, and its lane is resolved again (R127). -/
def beginReturn (i : Fin 64) (l : Fin 32) (s : State) : State :=
  reresolve .ordinary l (s.updAvail i fun a => { a with state := .returning, fillStep := a.fillStep.superseding })

/-- What an in commit point comes to (R127). -/
theorem inCommit_cases (i : Fin 64) (s : State) :
    ((s.lane (s.avail i).lane).state ≠ .run ∧ Resolves s (inCommit i s) ∧ ∀ j, (inCommit i s).avail j = s.avail j) ∨
      ∃ x l, Resolves s x ∧ (∀ j, x.avail j = s.avail j) ∧
        (inCommit i s = beginReturn i l x ∨ ∃ e, inCommit i s = reportCommitted false (s.handleOf i) e (beginReturn i l x)) := by
  have hres := requestStep_resolves (s.avail i).lane false (s.handleOf i) (s.avail i).inTick s
  have hsame := requestStep_avail (s.avail i).lane false (s.handleOf i) (s.avail i).inTick s
  unfold inCommit; dsimp only; split
  · exact .inr ⟨_, _, hres, hsame, .inr ⟨_, rfl⟩⟩
  · exact .inr ⟨_, _, hres, hsame, .inl rfl⟩
  · rename_i hbusy
    exact .inl ⟨fun hrun => requestStep_not_busy _ _ _ _ _ hrun hbusy, hres, hsame⟩

theorem beginReturn_runKept (i : Fin 64) (l : Fin 32) (s : State) (hlive : (s.avail i).live = true) : RunKept s (beginReturn i l s) :=
  (updAvail_runKept _ _ _ fun _ => ⟨hlive, rfl⟩).trans (reresolve_resolves ..).runKept

/-- After an avail began to return, it is in RETURNING or final, and every other one is as it was or final. -/
theorem beginReturn_avail (i j : Fin 64) (l : Fin 32) (s : State) :
    (j ≠ i → (beginReturn i l s).avail j = s.avail j ∨ ((beginReturn i l s).avail j).final = true) ∧
      (((beginReturn i l s).avail i).state = .returning ∨ ((beginReturn i l s).avail i).final = true) := by
  have hend := (reresolve_resolves .ordinary l
    (s.updAvail i fun a => { a with state := .returning, fillStep := a.fillStep.superseding })).avails
  refine ⟨fun hj => ?_, ?_⟩
  · rcases hend j with h | ⟨h, -⟩
    · rw [State.updAvail_avail, if_neg hj] at h
      exact .inl h
    · exact .inr h
  · rcases hend i with h | ⟨h, -⟩
    · rw [State.updAvail_avail_self] at h
      refine .inl ?_
      show ((reresolve _ _ _).avail i).state = _
      rw [h]
    · exact .inr h

theorem inCommit_runKept (i : Fin 64) (s : State) (hlive : (s.avail i).live = true) : RunKept s (inCommit i s) := by
  rcases inCommit_cases i s with ⟨-, hres, -⟩ | ⟨x, l, hres, hsame, e⟩
  · exact hres.runKept
  · have hback := hres.runKept.trans (beginReturn_runKept i l x (by rw [hsame]; exact hlive))
    rcases e with e | ⟨T, e⟩ <;> rw [e]
    · exact hback
    · exact hback.trans (reportCommitted_runKept ..)

theorem Avail.final_of_untimed {a b : Avail} (h : b.untimed = a.untimed) (ha : a.final = true) : b.final = true := by
  unfold Avail.final at *
  rw [Avail.state_of_untimed h]; exact ha

/-- After an in commit point every other avail is as it was or final, and its own, where its lane is in RUN, is in RETURNING or final. -/
theorem inCommit_avail (i j : Fin 64) (s : State) :
    (j ≠ i → (inCommit i s).avail j = s.avail j ∨ ((inCommit i s).avail j).final = true) ∧
      ((inCommit i s).avail i = s.avail i ∧ (s.lane (s.avail i).lane).state ≠ .run ∨
        ((inCommit i s).avail i).state = .returning ∨ ((inCommit i s).avail i).final = true) := by
  rcases inCommit_cases i s with ⟨hbusy, -, hsame⟩ | ⟨x, l, -, hsame, e⟩
  · exact ⟨fun _ => .inl (hsame j), .inl ⟨hsame i, hbusy⟩⟩
  · obtain ⟨hother, hself⟩ := beginReturn_avail i j l x
    rw [hsame] at hother
    rcases e with e | ⟨T, e⟩ <;> rw [e]
    · exact ⟨hother, .inr hself⟩
    · have hre := reportCommitted_onlyRetimes false (s.handleOf i) T (beginReturn i l x)
      refine ⟨fun hj => ?_, .inr ?_⟩
      · rw [hre.1 j hj]; exact hother hj
      · rcases hself with h | h
        · exact .inl ((Avail.state_of_untimed hre.2).trans h)
        · exact .inr (Avail.final_of_untimed hre.2 h)

end Sys2Proof.Machine
end

section
/-! SUPPORT. The sweep of a tick (R2; log entry 4): its events in two groups, and what stands after all of them. -/

namespace Sys2Proof.Machine

/-! ## What the events of orders and avails leave -/

/-- What every event of a tick but a settle, alert or quiet expiry leaves: cells, alerts, the ports' links, the counter, and every live avail
on a lane in RUN. -/
structure LeavesRest (s t : State) : Prop where
  runKept : RunKept s t
  tick : t.tick = s.tick
  cell : ∀ n, t.cell n = s.cell n
  alert : ∀ a, t.alert a = s.alert a

theorem LeavesRest.refl (s : State) : LeavesRest s s := ⟨.refl s, rfl, fun _ => rfl, fun _ => rfl⟩

theorem LeavesRest.trans {s t u : State} (h : LeavesRest s t) (g : LeavesRest t u) : LeavesRest s u :=
  ⟨h.runKept.trans g.runKept, g.tick.trans h.tick, fun n => (g.cell n).trans (h.cell n), fun a => (g.alert a).trans (h.alert a)⟩

theorem LeavesRest.of_break {s t : State} (h : BreakOnly s t) (r : RunKept s t) : LeavesRest s t :=
  ⟨r, h.timeKept.tick, h.cell, h.alert⟩

theorem sweep_rest {n : Nat} (take : Fin n → State → State) (h : ∀ i s, LeavesRest s (take i s)) (s : State) :
    LeavesRest s (sweep take s) := sweep_keeps LeavesRest .refl (fun _ _ _ => .trans) take h s

theorem takeBoundary_rest (s : State) : LeavesRest s (takeBoundary s) := by
  have hrun := (takeBoundary_resolves s).runKept
  unfold takeBoundary at hrun ⊢; split
  · rename_i hdue
    rw [if_pos hdue] at hrun
    have h := windowBoundary_frame { s with boundaryDue := false, calendar := s.calendar.advance }
    exact ⟨hrun, h.timeKept.tick, h.cell, h.alert⟩
  · exact .refl s

theorem dropOrder_rest (l : Fin 32) (s : State) : LeavesRest s (dropOrder l s) := by
  refine ⟨(dropOrder_resolves l s).runKept, (dropOrder_timeKept l s).tick, fun n => ?_, fun a => ?_⟩ <;>
    unfold dropOrder <;> dsimp only <;> split <;> rfl

theorem takeAckExpiry_rest (l : Fin 32) (s : State) : LeavesRest s (takeAckExpiry l s) := by
  have hfault (x : State) (o : Outstanding) (h : LeavesRest s x) : LeavesRest s (laneFault l o .timeout none (x.setOrder l none)) :=
    (h.trans (.of_break (setOrder_break l none x) (setOrder_resolves l none x).runKept)).trans
      (.of_break (laneFault_break ..) (laneFault_runKept ..))
  unfold takeAckExpiry; split
  · split
    · refine hfault _ _ ?_
      split
      · exact .refl s
      · exact dropOrder_rest l s
    · exact .refl s
  · exact .refl s

theorem takeClaimClose_rest (i : Fin 64) (s : State) : LeavesRest s (takeClaimClose i s) :=
  .of_break (takeClaimClose_avails i s).break (takeClaimClose_runKept i s)

theorem closed_of_outDue {i : Fin 64} {s : State} (h : outDue i s = true) : (s.avail i).state = .closed := by
  simp only [outDue, Bool.and_eq_true, decide_eq_true_eq] at h; exact h.1

theorem out_of_fillDue {i : Fin 64} {s : State} (h : fillDue i s = true) : (s.avail i).state = .out := by
  simp only [fillDue, Bool.and_eq_true, decide_eq_true_eq] at h; exact h.1.1

theorem out_of_inDue {i : Fin 64} {s : State} (h : inDue i s = true) : (s.avail i).state = .out := by
  simp only [inDue, Bool.and_eq_true, decide_eq_true_eq] at h; exact h.1

theorem takeOutCommit_rest (i : Fin 64) (s : State) : LeavesRest s (takeOutCommit i s) := by
  refine .of_break (takeOutCommit_break i s) ?_
  unfold takeOutCommit; split
  · rename_i hdue
    exact outCommit_runKept i s (Avail.live_of_closed (closed_of_outDue hdue))
  · exact .refl s

theorem takeFillCommit_rest (i : Fin 64) (s : State) : LeavesRest s (takeFillCommit i s) := by
  refine .of_break (takeFillCommit_break i s) ?_
  unfold takeFillCommit; split
  · exact .ite (fillCommit_runKept ..) (.refl s)
  · exact .refl s

theorem takeInCommit_rest (i : Fin 64) (s : State) : LeavesRest s (takeInCommit i s) := by
  refine .of_break (takeInCommit_break i s) ?_
  unfold takeInCommit; split
  · rename_i hdue
    exact inCommit_runKept i s (Avail.live_of_out (out_of_inDue hdue))
  · exact .refl s

theorem startSend_rest (s : State) : LeavesRest s (startSend s) := by
  unfold startSend; split
  · exact ⟨.of_eq rfl rfl rfl, rfl, fun _ => rfl, fun _ => rfl⟩
  · exact .refl s

/-! ## Commit points that were taken -/

theorem claimCloseDue_congr (i : Fin 64) {s t : State} (hT : t.tick = s.tick) (ha : t.avail i = s.avail i) :
    claimCloseDue i t = claimCloseDue i s := by unfold claimCloseDue; rw [hT, ha]

theorem outDue_congr (i : Fin 64) {s t : State} (hT : t.tick = s.tick) (ha : t.avail i = s.avail i) : outDue i t = outDue i s := by
  unfold outDue; rw [hT, ha]

theorem fillDue_congr (i : Fin 64) {s t : State} (hT : t.tick = s.tick) (ha : t.avail i = s.avail i) : fillDue i t = fillDue i s := by
  unfold fillDue; rw [hT, ha]

theorem inDue_congr (i : Fin 64) {s t : State} (hT : t.tick = s.tick) (ha : t.avail i = s.avail i) : inDue i t = inDue i s := by
  unfold inDue; rw [hT, ha]

theorem Avail.state_of_final {a : Avail} (h : a.final = true) : a.state ≠ .armed ∧ a.state ≠ .closed ∧ a.state ≠ .out := by
  cases hst : a.state <;> simp_all [Avail.final]

theorem claimCloseDue_of_state {i : Fin 64} {s : State} (h : (s.avail i).state ≠ .armed) : claimCloseDue i s = false := by
  simp [claimCloseDue, h]

theorem outDue_of_state {i : Fin 64} {s : State} (h : (s.avail i).state ≠ .closed) : outDue i s = false := by simp [outDue, h]

theorem fillDue_of_state {i : Fin 64} {s : State} (h : (s.avail i).state ≠ .out) : fillDue i s = false := by simp [fillDue, h]

theorem inDue_of_state {i : Fin 64} {s : State} (h : (s.avail i).state ≠ .out) : inDue i s = false := by simp [inDue, h]

/-- An event of one avail leaves every other as it is or makes it final. -/
def EndsOthers (take : Fin 64 → State → State) : Prop :=
  ∀ i j s, j ≠ i → (take i s).avail j = s.avail j ∨ ((take i s).avail j).final = true

/-- After a sweep over the avails, no event is due that each one's taking settles. -/
theorem sweep_due (take : Fin 64 → State → State) (due : Fin 64 → State → Bool) (Inv : State → Prop)
    (hinv : ∀ i s, Inv s → Inv (take i s)) (hself : ∀ i s, Inv s → due i (take i s) = false) (htick : ∀ i s, (take i s).tick = s.tick)
    (hother : EndsOthers take) (hcongr : ∀ i {s t : State}, t.tick = s.tick → t.avail i = s.avail i → due i t = due i s)
    (hfinal : ∀ i s, (s.avail i).final = true → due i s = false) (s : State) (hs : Inv s) (i : Fin 64) : due i (sweep take s) = false := by
  refine sweep_takes take Inv (fun i s => due i s = false) hinv hself (fun i j s hs hj => ?_) s hs i
  by_cases h : j = i
  · subst h; exact hself j s hs
  · rcases hother i j s h with e | e
    · exact (hcongr j (htick i s) e).trans hj
    · exact hfinal j _ e

theorem takeClaimClose_endsOthers : EndsOthers takeClaimClose := fun i j s hj => by
  unfold takeClaimClose; split
  · exact .inl ((arbitrate_avail i s j).1 hj)
  · exact .inl rfl

theorem takeOutCommit_endsOthers : EndsOthers takeOutCommit := fun i j s hj => by
  unfold takeOutCommit; split
  · exact (outCommit_avail i j s).1 hj
  · exact .inl rfl

theorem takeFillCommit_endsOthers : EndsOthers takeFillCommit := fun i j s hj => by
  unfold takeFillCommit; split
  · split
    · exact .inl ((fillCommit_onlyRetimes i _ s).1 j hj)
    · exact .inl rfl
  · exact .inl rfl

theorem takeInCommit_endsOthers : EndsOthers takeInCommit := fun i j s hj => by
  unfold takeInCommit; split
  · exact (inCommit_avail i j s).1 hj
  · exact .inl rfl

/-- No claim close is due after the sweep of them (R123). -/
theorem sweep_claimCloseDue (s : State) (i : Fin 64) : claimCloseDue i (sweep takeClaimClose s) = false := by
  refine sweep_due takeClaimClose claimCloseDue (fun _ => True) (fun _ _ _ => trivial) (fun i s _ => ?_)
    (fun i s => (takeClaimClose_rest i s).tick) takeClaimClose_endsOthers claimCloseDue_congr
    (fun i s h => claimCloseDue_of_state (Avail.state_of_final h).1) s trivial i
  unfold takeClaimClose; split
  · refine claimCloseDue_of_state ?_
    rw [(arbitrate_avail i s i).2]; simp
  · rename_i hdue; simpa using hdue

/-- No out commit point is due after the sweep of them (R124). -/
theorem sweep_outDue (s : State) (i : Fin 64) : outDue i (sweep takeOutCommit s) = false := by
  refine sweep_due takeOutCommit outDue (fun _ => True) (fun _ _ _ => trivial) (fun i s _ => ?_)
    (fun i s => (takeOutCommit_rest i s).tick) takeOutCommit_endsOthers outDue_congr
    (fun i s h => outDue_of_state (Avail.state_of_final h).2.1) s trivial i
  unfold takeOutCommit; split
  · refine outDue_of_state ?_
    rcases (outCommit_avail i i s).2 with h | h
    · rw [h]; simp
    · exact (Avail.state_of_final h).2.1
  · rename_i hdue; simpa using hdue

/-- No fill commit point is due after the sweep of them, where avails stand on lanes in RUN (R126). -/
theorem sweep_fillDue (s : State) (hs : LiveInRun s) (i : Fin 64) : fillDue i (sweep takeFillCommit s) = false := by
  refine sweep_due takeFillCommit fillDue LiveInRun (fun i s => (takeFillCommit_rest i s).runKept.run) (fun i s hs => ?_)
    (fun i s => (takeFillCommit_rest i s).tick) takeFillCommit_endsOthers fillDue_congr
    (fun i s h => fillDue_of_state (Avail.state_of_final h).2.2) s hs i
  unfold takeFillCommit; split
  · split
    · rename_i f _ hdue
      have hlive := Avail.live_of_out (out_of_fillDue hdue)
      have hstep := fillCommit_fillStep i f s hlive (hs i hlive)
      simp [fillDue, hstep]
    · rename_i hdue; simpa using hdue
  · rename_i hnone; simp [fillDue, hnone]

/-- No in commit point is due after the sweep of them, where avails stand on lanes in RUN (R127). -/
theorem sweep_inDue (s : State) (hs : LiveInRun s) (i : Fin 64) : inDue i (sweep takeInCommit s) = false := by
  refine sweep_due takeInCommit inDue LiveInRun (fun i s => (takeInCommit_rest i s).runKept.run) (fun i s hs => ?_)
    (fun i s => (takeInCommit_rest i s).tick) takeInCommit_endsOthers inDue_congr
    (fun i s h => inDue_of_state (Avail.state_of_final h).2.2) s hs i
  unfold takeInCommit; split
  · rename_i hdue
    refine inDue_of_state ?_
    rcases (inCommit_avail i i s).2 with ⟨-, hbusy⟩ | h | h
    · exact absurd (hs i (Avail.live_of_out (out_of_inDue hdue))) hbusy
    · rw [h]; simp
    · exact (Avail.state_of_final h).2.2
  · rename_i hdue; simpa using hdue

/-! ## What later events of the sweep leave -/

/-- Every avail that stands in one of some states stands as it did. -/
def KeptIn (states : List AvailState) (s t : State) : Prop := ∀ i, (t.avail i).state ∈ states → t.avail i = s.avail i

theorem KeptIn.refl (x : List AvailState) (s : State) : KeptIn x s s := fun _ _ => rfl

theorem KeptIn.trans {x : List AvailState} {s t u : State} (h : KeptIn x s t) (g : KeptIn x t u) : KeptIn x s u := fun i hi => by
  have e := g i hi
  rw [e] at hi ⊢
  exact h i hi

theorem sweep_keptIn {x : List AvailState} (take : Fin 64 → State → State) (h : ∀ i s, KeptIn x s (take i s)) (s : State) :
    KeptIn x s (sweep take s) := sweep_keeps (KeptIn x) (.refl x) (fun _ _ _ => .trans) take h s

/-- An event keeps what stands in some states, where it leaves its own avail in none of them and ends others only. -/
theorem keptIn_of_endsOthers {x : List AvailState} (hx : x ⊆ [.armed, .closed, .out]) {take : Fin 64 → State → State}
    (hother : EndsOthers take) (i : Fin 64) (s : State) (hself : ((take i s).avail i).state ∈ x → (take i s).avail i = s.avail i) :
    KeptIn x s (take i s) := fun j hj => by
  by_cases h : j = i
  · subst h; exact hself hj
  · rcases hother i j s h with e | e
    · exact e
    · have hmem := hx hj
      obtain ⟨h1, h2, h3⟩ := Avail.state_of_final e
      simp [h1, h2, h3] at hmem

theorem takeOutCommit_keptIn (i : Fin 64) (s : State) : KeptIn [.armed, .closed] s (takeOutCommit i s) := by
  refine keptIn_of_endsOthers (by simp) takeOutCommit_endsOthers i s ?_
  unfold takeOutCommit; split
  · intro hmem
    rcases (outCommit_avail i i s).2 with h | h
    · simp [h] at hmem
    · obtain ⟨h1, h2, -⟩ := Avail.state_of_final h
      simp [h1, h2] at hmem
  · exact fun _ => rfl

theorem takeFillCommit_keptIn (i : Fin 64) (s : State) : KeptIn [.armed, .closed] s (takeFillCommit i s) := by
  refine keptIn_of_endsOthers (by simp) takeFillCommit_endsOthers i s ?_
  unfold takeFillCommit; split
  · split
    · rename_i f _ hdue
      have hstate := Avail.state_of_untimed (fillCommit_onlyRetimes i f s).2
      intro hmem
      simp [hstate, out_of_fillDue hdue] at hmem
    · exact fun _ => rfl
  · exact fun _ => rfl

theorem takeInCommit_keptIn (i : Fin 64) (s : State) : KeptIn [.armed, .closed, .out] s (takeInCommit i s) := by
  refine keptIn_of_endsOthers (fun _ h => h) takeInCommit_endsOthers i s ?_
  unfold takeInCommit; split
  · intro hmem
    rcases (inCommit_avail i i s).2 with ⟨h, -⟩ | h | h
    · exact h
    · simp [h] at hmem
    · obtain ⟨h1, h2, h3⟩ := Avail.state_of_final h
      simp [h1, h2, h3] at hmem
  · exact fun _ => rfl

theorem startSend_avail (s : State) (i : Fin 64) : (startSend s).avail i = s.avail i := by unfold startSend; split <;> rfl

theorem KeptIn.mono {x y : List AvailState} {s t : State} (h : KeptIn y s t) (hxy : x ⊆ y) : KeptIn x s t := fun i hi => h i (hxy hi)

/-! ## The two halves of a sweep -/

/-- The first half of a sweep: the second boundary, and the settle, alert and quiet expiries. -/
def earlyEvents (s : State) : State := sweep takeQuietExpiry (sweep takeAlertExpiry (sweep takeSettle (takeBoundary s)))

/-- The second half of a sweep: the acknowledgement timers, the claim closes, the commit points and the start of a send. -/
def lateEvents (s : State) : State :=
  startSend (sweep takeInCommit (sweep takeFillCommit (sweep takeOutCommit (sweep takeClaimClose (sweep takeAckExpiry s)))))

theorem lateEvents_rest (s : State) : LeavesRest s (lateEvents s) :=
  (((((sweep_rest _ takeAckExpiry_rest s).trans (sweep_rest _ takeClaimClose_rest _)).trans (sweep_rest _ takeOutCommit_rest _)).trans
    (sweep_rest _ takeFillCommit_rest _)).trans (sweep_rest _ takeInCommit_rest _)).trans (startSend_rest _)

/-! ### The stages of the first half -/

/-- What ports hear, and that live avails stand on lanes in RUN, up to the settle expiries. -/
theorem sweepSettle_runKept (s : State) : RunKept s (sweep takeSettle (takeBoundary s)) :=
  (takeBoundary_rest s).runKept.trans (sweep_keeps RunKept .refl (fun _ _ _ => .trans) _ takeSettle_runKept _)

theorem sweepSettle_tick (s : State) : (sweep takeSettle (takeBoundary s)).tick = s.tick :=
  (sweep_timeKept _ (fun n s => (takeSettle_array n s).timeKept) _).tick.trans (takeBoundary_rest s).tick

theorem sweepAlert_runKept (s : State) : RunKept s (sweep takeAlertExpiry s) :=
  sweep_keeps RunKept .refl (fun _ _ _ => .trans) _ (fun a s => (takeAlertExpiry_resolves a s).runKept) s

theorem sweepAlert_tick (s : State) : (sweep takeAlertExpiry s).tick = s.tick := (sweep_timeKept _ takeAlertExpiry_timeKept s).tick

theorem sweepQuiet_run {s : State} (hs : LiveInRun s) : LiveInRun (sweep takeQuietExpiry s) :=
  sweep_keeps (fun a b => LiveInRun a → LiveInRun b) (fun _ => id) (fun _ _ _ h g => g ∘ h) _ takeQuietExpiry_runKeeps s hs

theorem sweepQuiet_tick (s : State) : (sweep takeQuietExpiry s).tick = s.tick := (sweep_timeKept _ takeQuietExpiry_timeKept s).tick

theorem earlyEvents_tick (s : State) : (earlyEvents s).tick = s.tick :=
  (sweepQuiet_tick _).trans ((sweepAlert_tick _).trans (sweepSettle_tick s))

theorem earlyEvents_run {s : State} (hs : LiveInRun s) : LiveInRun (earlyEvents s) :=
  sweepQuiet_run ((sweepAlert_runKept _).run ((sweepSettle_runKept s).run hs))

/-! ### Alerts (R178) -/

theorem sweepSettle_alert (s : State) (a : Fin 4) : (sweep takeSettle s).alert a = s.alert a :=
  sweep_keeps (fun x y => y.alert a = x.alert a) (fun _ => rfl) (fun _ _ _ h g => g.trans h) _
    (fun n x => (takeSettle_array n x).alert a) s

theorem sweepAlert_alert (s : State) (a : Fin 4) : (sweep takeAlertExpiry s).alert a = unexpired s.tick (s.alert a) :=
  sweep_each takeAlertExpiry (fun x => x.tick = s.tick) (fun a x => x.alert a) (unexpired s.tick)
    (fun b x hx => (takeAlertExpiry_timeKept b x).tick.trans hx) (fun b c x hx => by rw [takeAlertExpiry_alert, hx]) s rfl a

theorem sweepQuiet_alert (s : State) (a : Fin 4) : (sweep takeQuietExpiry s).alert a = s.alert a :=
  sweep_keeps (fun x y => y.alert a = x.alert a) (fun _ => rfl) (fun _ _ _ h g => g.trans h) _
    (fun p x => takeQuietExpiry_alert p a x) s

/-- Every alert whose expiry is the present tick has ended, and no other has (R178). -/
theorem settleTick_alert (s : State) (a : Fin 4) : (settleTick s).alert a = unexpired s.tick (s.alert a) :=
  calc (settleTick s).alert a = (earlyEvents s).alert a := (lateEvents_rest _).alert a
    _ = (sweep takeAlertExpiry (sweep takeSettle (takeBoundary s))).alert a := sweepQuiet_alert _ a
    _ = unexpired s.tick ((sweep takeSettle (takeBoundary s)).alert a) := by rw [sweepAlert_alert, sweepSettle_tick]
    _ = unexpired s.tick (s.alert a) := by rw [sweepSettle_alert, (takeBoundary_rest s).alert]

/-! ### Ports (R195) -/

theorem sweepQuiet_link (s : State) (p : Fin 4) : ((sweep takeQuietExpiry s).port p).link = rejoinedLink s.tick (s.port p).link :=
  sweep_each takeQuietExpiry (fun x => x.tick = s.tick) (fun p x => (x.port p).link) (rejoinedLink s.tick)
    (fun b x hx => (takeQuietExpiry_timeKept b x).tick.trans hx) (fun b c x hx => by rw [takeQuietExpiry_link, hx]) s rfl p

/-- Every rejoin whose quiet interval ends at the present tick is complete, and no other port's link differs (R195). -/
theorem settleTick_link (s : State) (p : Fin 4) : ((settleTick s).port p).link = rejoinedLink s.tick (s.port p).link := by
  have hbefore : PortsHear s (sweep takeAlertExpiry (sweep takeSettle (takeBoundary s))) :=
    ((sweepSettle_runKept s).trans (sweepAlert_runKept _)).hears
  calc ((settleTick s).port p).link = ((earlyEvents s).port p).link := ((lateEvents_rest _).runKept.hears p).link
    _ = rejoinedLink s.tick ((sweep takeAlertExpiry (sweep takeSettle (takeBoundary s))).port p).link := by
      rw [earlyEvents, sweepQuiet_link, sweepAlert_tick, sweepSettle_tick]
    _ = rejoinedLink s.tick (s.port p).link := by rw [(hbefore p).link]

/-! ### Settle timers (R72) -/

/-- No cell is due to settle after the sweep of them, and each keeps its configuration (R72). -/
theorem sweepSettle_cell (s : State) (n : Fin 12) :
    ((sweep takeSettle s).cell n).IdleAt s.tick ∧ ((sweep takeSettle s).cell n).cfg = (s.cell n).cfg := by
  refine sweep_takes takeSettle (fun x => x.tick = s.tick ∧ ∀ m, (x.cell m).cfg = (s.cell m).cfg)
    (fun m x => (x.cell m).IdleAt s.tick ∧ (x.cell m).cfg = (s.cell m).cfg) (fun i x ⟨hT, hcfgs⟩ => ?_) (fun i x ⟨hT, hcfgs⟩ => ?_)
    (fun i j x ⟨hT, hcfgs⟩ ⟨hj, _⟩ => ?_) s ⟨rfl, fun _ => rfl⟩ n
  · exact ⟨(takeSettle_array i x).timeKept.tick.trans hT, fun m => (takeSettle_cell i m x).1.trans (hcfgs m)⟩
  · obtain ⟨hcfg, hidle⟩ := takeSettle_cell i i x
    rw [hT] at hidle
    exact ⟨hidle (.inr rfl), hcfg.trans (hcfgs i)⟩
  · obtain ⟨hcfg, hidle⟩ := takeSettle_cell i j x
    rw [hT] at hidle
    exact ⟨hidle (.inl hj), hcfg.trans (hcfgs j)⟩

theorem sweepAlert_cell (s : State) (n : Fin 12) : (sweep takeAlertExpiry s).cell n = s.cell n :=
  sweep_keeps (fun x y => y.cell n = x.cell n) (fun _ => rfl) (fun _ _ _ h g => g.trans h) _
    (fun a x => (takeAlertExpiry_frame a x).cell n) s

theorem sweepQuiet_cell (s : State) (n : Fin 12) : (sweep takeQuietExpiry s).cell n = s.cell n :=
  sweep_keeps (fun x y => y.cell n = x.cell n) (fun _ => rfl) (fun _ _ _ h g => g.trans h) _
    (fun p x => takeQuietExpiry_cell p n x) s

/-- No settle timer of a settle time that a byte can give expires at the present tick any more (R72). -/
theorem settleTick_timer (s : State) (n : Fin 12) (h : (s.cell n).cfg.settle ≤ 255) : ((settleTick s).cell n).timer ≠ some s.tick := by
  have hcell : (settleTick s).cell n = (sweep takeSettle (takeBoundary s)).cell n :=
    ((lateEvents_rest _).cell n).trans ((sweepQuiet_cell ..).trans (sweepAlert_cell ..))
  obtain ⟨hidle, hcfg⟩ := sweepSettle_cell (takeBoundary s) n
  rw [(takeBoundary_rest s).tick] at hidle
  rw [(takeBoundary_rest s).cell] at hcfg
  rw [hcell]
  exact hidle (by rw [hcfg]; exact h)

/-! ### Avails (R123, R124, R126, R127) -/

theorem KeptIn.claimCloseDue {s t : State} (h : KeptIn [.armed] s t) (hT : t.tick = s.tick) {i : Fin 64}
    (hs : claimCloseDue i s = false) : claimCloseDue i t = false := by
  by_cases hst : (t.avail i).state = .armed
  · rw [claimCloseDue_congr i hT (h i (by simp [hst])), hs]
  · exact claimCloseDue_of_state hst

theorem KeptIn.outDue {s t : State} (h : KeptIn [.closed] s t) (hT : t.tick = s.tick) {i : Fin 64} (hs : outDue i s = false) :
    outDue i t = false := by
  by_cases hst : (t.avail i).state = .closed
  · rw [outDue_congr i hT (h i (by simp [hst])), hs]
  · exact outDue_of_state hst

theorem KeptIn.fillDue {s t : State} (h : KeptIn [.out] s t) (hT : t.tick = s.tick) {i : Fin 64} (hs : fillDue i s = false) :
    fillDue i t = false := by
  by_cases hst : (t.avail i).state = .out
  · rw [fillDue_congr i hT (h i (by simp [hst])), hs]
  · exact fillDue_of_state hst

/-- What the start of a send leaves of the commit points. -/
theorem startSend_keptIn (x : List AvailState) (s : State) : KeptIn x s (startSend s) := fun i _ => startSend_avail s i

/-- Up to the claim closes, up to the out commit points, and up to the fill commit points: the stages of the second half of a sweep. -/
def throughCloses (s : State) : State := sweep takeClaimClose (sweep takeAckExpiry (earlyEvents s))

def throughOuts (s : State) : State := sweep takeOutCommit (throughCloses s)

def throughFills (s : State) : State := sweep takeFillCommit (throughOuts s)

theorem settleTick_stages (s : State) : settleTick s = startSend (sweep takeInCommit (throughFills s)) := rfl

theorem throughFills_rest (s : State) : LeavesRest (throughOuts s) (throughFills s) := sweep_rest _ takeFillCommit_rest _

theorem throughOuts_rest (s : State) : LeavesRest (throughCloses s) (throughOuts s) := sweep_rest _ takeOutCommit_rest _

theorem throughCloses_rest (s : State) : LeavesRest (earlyEvents s) (throughCloses s) :=
  (sweep_rest _ takeAckExpiry_rest _).trans (sweep_rest _ takeClaimClose_rest _)

theorem afterFills_rest (s : State) : LeavesRest (throughFills s) (settleTick s) :=
  (sweep_rest _ takeInCommit_rest _).trans (startSend_rest _)

theorem afterFills_keptIn (s : State) : KeptIn [.armed, .closed, .out] (throughFills s) (settleTick s) :=
  (sweep_keptIn _ takeInCommit_keptIn _).trans (startSend_keptIn _ _)

theorem afterOuts_keptIn (s : State) : KeptIn [.armed, .closed] (throughOuts s) (settleTick s) :=
  .trans (sweep_keptIn _ takeFillCommit_keptIn _) ((afterFills_keptIn s).mono (by simp))

theorem afterCloses_keptIn (s : State) : KeptIn [.armed, .closed] (throughCloses s) (settleTick s) :=
  .trans (sweep_keptIn _ takeOutCommit_keptIn _) (afterOuts_keptIn s)

theorem settleTick_tick (s : State) : (settleTick s).tick = s.tick := (lateEvents_rest _).tick.trans (earlyEvents_tick s)

theorem throughOuts_run {s : State} (hs : LiveInRun s) : LiveInRun (throughOuts s) :=
  (throughOuts_rest s).runKept.run ((throughCloses_rest s).runKept.run (earlyEvents_run hs))

/-- No claim close is due after a sweep (R123). -/
theorem settleTick_claimCloseDue (s : State) (i : Fin 64) : claimCloseDue i (settleTick s) = false :=
  ((afterCloses_keptIn s).mono (by simp)).claimCloseDue
    ((afterFills_rest s).tick.trans ((throughFills_rest s).tick.trans (throughOuts_rest s).tick)) (sweep_claimCloseDue _ i)

/-- No out commit point is due after a sweep (R124). -/
theorem settleTick_outDue (s : State) (i : Fin 64) : outDue i (settleTick s) = false :=
  ((afterOuts_keptIn s).mono (by simp)).outDue ((afterFills_rest s).tick.trans (throughFills_rest s).tick) (sweep_outDue _ i)

/-- No fill commit point is due after a sweep, where avails stand on lanes in RUN (R126). -/
theorem settleTick_fillDue {s : State} (hs : LiveInRun s) (i : Fin 64) : fillDue i (settleTick s) = false :=
  ((afterFills_keptIn s).mono (by simp)).fillDue (afterFills_rest s).tick (sweep_fillDue _ (throughOuts_run hs) i)

/-- No in commit point is due after a sweep, where avails stand on lanes in RUN (R127). -/
theorem settleTick_inDue {s : State} (hs : LiveInRun s) (i : Fin 64) : inDue i (settleTick s) = false := by
  have hrun := (throughFills_rest s).runKept.run (throughOuts_run hs)
  rw [settleTick_stages, inDue_congr i (startSend_rest _).tick (startSend_avail _ i)]
  exact sweep_inDue _ hrun i

/-! ### The order link (R39) -/

theorem startSend_orderQueue (s : State) : (startSend s).orderQueue = s.orderQueue := by unfold startSend; split <;> rfl

/-- After a sweep no ORDER waits at an idle link (R39). -/
theorem settleTick_sending (s : State) (h : (settleTick s).orderQueue ≠ []) : (settleTick s).sending ≠ none := by
  intro hidle
  refine h ?_
  rw [settleTick_stages] at hidle ⊢
  rw [startSend_orderQueue]
  exact startSend_idle _ hidle

/-! ### The counter (R1, R10) -/

theorem onCalendarPhase_eq (T : Tick) (φ : Nat) : onCalendarPhase T φ = decide (((T.toNat : Int) - φ) % 180000 = 0) := rfl

theorem exec_stationTick (s : State) : exec .stationTick s = .next (advanceTick (settleTick s)) := rfl

@[simp] theorem advanceTick_alert (s : State) : (advanceTick s).alert = s.alert := rfl
@[simp] theorem advanceTick_port (s : State) : (advanceTick s).port = s.port := rfl
@[simp] theorem advanceTick_cell (s : State) : (advanceTick s).cell = s.cell := rfl
@[simp] theorem advanceTick_avail (s : State) : (advanceTick s).avail = s.avail := rfl
@[simp] theorem advanceTick_orderQueue (s : State) : (advanceTick s).orderQueue = s.orderQueue := rfl
@[simp] theorem advanceTick_sending (s : State) : (advanceTick s).sending = s.sending := rfl

/-! ### What was due, field by field -/

theorem unexpired_some (T : Tick) (A : Alert) : unexpired T (some A) = if A.expiry = T then none else some A := by
  by_cases h : A.expiry = T <;> simp [unexpired, Option.filter, h]

/-- A port whose quiet interval ends at the present tick is normal after a sweep, with no error counted (R195). -/
theorem settleTick_rejoined {s : State} {p : Fin 4} (h : (s.port p).state = .detached ∧ (s.port p).quiet = some s.tick) :
    ((settleTick s).port p).state = .normal ∧ ((settleTick s).port p).errors = 0 ∧ ((settleTick s).port p).quiet = none := by
  have hlink := settleTick_link s p
  rw [rejoinedLink, if_pos (by exact h)] at hlink
  simpa only [Port.link, Prod.mk.injEq] using hlink

/-- Any other port's state, errors and quiet interval stand through a sweep (R195). -/
theorem settleTick_notRejoined {s : State} {p : Fin 4} (h : ¬((s.port p).state = .detached ∧ (s.port p).quiet = some s.tick)) :
    ((settleTick s).port p).state = (s.port p).state ∧ ((settleTick s).port p).errors = (s.port p).errors ∧
      ((settleTick s).port p).quiet = (s.port p).quiet := by
  have hlink := settleTick_link s p
  rw [rejoinedLink, if_neg (by exact h)] at hlink
  simpa only [Port.link, Prod.mk.injEq] using hlink

theorem settleTick_claimClose {s : State} {i : Fin 64} (hst : ((settleTick s).avail i).state = .armed) :
    ((settleTick s).avail i).claimClose ≠ s.tick := by
  have hdue := settleTick_claimCloseDue s i
  simp only [claimCloseDue, hst, decide_true, Bool.true_and, settleTick_tick] at hdue
  exact of_decide_eq_false hdue

theorem settleTick_outPoint {s : State} {i : Fin 64} (hst : ((settleTick s).avail i).state = .closed) :
    ((settleTick s).avail i).outTick - BitVec.ofNat 48 9000 ≠ s.tick := by
  have hdue := settleTick_outDue s i
  simp only [outDue, hst, decide_true, Bool.true_and, settleTick_tick] at hdue
  exact of_decide_eq_false hdue

theorem settleTick_inPoint {s : State} (hs : LiveInRun s) {i : Fin 64} (hst : ((settleTick s).avail i).state = .out) :
    ((settleTick s).avail i).inTick - BitVec.ofNat 48 9000 ≠ s.tick := by
  have hdue := settleTick_inDue hs i
  simp only [inDue, hst, decide_true, Bool.true_and, settleTick_tick] at hdue
  exact of_decide_eq_false hdue

theorem settleTick_fillPoint {s : State} (hs : LiveInRun s) {i : Fin 64} {f : Tick} (hst : ((settleTick s).avail i).state = .out)
    (hstep : ((settleTick s).avail i).fillStep = .none) (hf : ((settleTick s).avail i).fillTick = some f) :
    (s.tick - (f - BitVec.ofNat 48 9000)).toInt < 0 := by
  have hdue := settleTick_fillDue hs i
  simp only [fillDue, hst, hstep, hf, decide_true, Bool.true_and, settleTick_tick] at hdue
  exact not_le.mp (of_decide_eq_false hdue)

end Sys2Proof.Machine
end

section
/-! Station time and the calendar: the clock. -/

namespace Sys2Proof.Certificates

open Sys2Proof.Machine

/-- Settles O7: a tick is a sweep, which is nothing where nothing is due, and the advance of the counter. -/
theorem tickAdvances : Obligations.TickAdvances := by
  refine ⟨fun s hs => ?_, fun s => ⟨_, exec_stationTick s, ?_⟩⟩
  · rw [exec_stationTick, settleTick_none s hs, advanceTick, onCalendarPhase_eq]
  have htime := advanceTick_settleTick_timeBase s
  rw [onCalendarPhase_eq] at htime
  simp only [State.timeBase, Prod.mk.injEq] at htime
  obtain ⟨htick, hdue, hcal, hphase⟩ := htime
  refine ⟨htick, hphase, hdue, hcal, ?_⟩
  simp only [advanceTick_alert, advanceTick_port, advanceTick_cell, advanceTick_avail, advanceTick_orderQueue, advanceTick_sending]
  refine ⟨fun a => ⟨fun h => ?_, fun A h => ?_⟩, fun p => ⟨settleTick_rejoined, settleTick_notRejoined⟩, settleTick_timer s,
    fun i => settleTick_claimClose, fun i => settleTick_outPoint,
    fun hs i hst => ⟨settleTick_inPoint hs.1 hst, fun f => settleTick_fillPoint hs.1 hst⟩, settleTick_sending s⟩
  · rw [settleTick_alert, h]; rfl
  · rw [settleTick_alert, h, unexpired_some]

end Sys2Proof.Certificates
end

section
/-! SUPPORT. What a commit writes (R31, R38 to R40), and the operations that write one lane's record and order only. -/

namespace Sys2Proof

open Sys2Proof.Machine

/-! ## Frames, field by field -/

theorem AvailsOnly.lanes {s t : State} (h : AvailsOnly s t) : t.lanes = s.lanes := by unfold AvailsOnly at h; rw [h]
theorem AvailsOnly.lane {s t : State} (h : AvailsOnly s t) (l : Fin 32) : t.lane l = s.lane l := by unfold AvailsOnly at h; rw [h]; rfl
theorem AvailsOnly.order {s t : State} (h : AvailsOnly s t) (l : Fin 32) : t.order l = s.order l := by
  unfold AvailsOnly at h; rw [h]; rfl
theorem AvailsOnly.orderQueue {s t : State} (h : AvailsOnly s t) : t.orderQueue = s.orderQueue := by unfold AvailsOnly at h; rw [h]
theorem AvailsOnly.sending {s t : State} (h : AvailsOnly s t) : t.sending = s.sending := by unfold AvailsOnly at h; rw [h]
theorem BreakOnly.sending {s t : State} (h : BreakOnly s t) : t.sending = s.sending := by unfold BreakOnly at h; rw [h]
theorem BreakOnly.windows {s t : State} (h : BreakOnly s t) : t.windows = s.windows := by unfold BreakOnly at h; rw [h]
theorem BreakOnly.alerts {s t : State} (h : BreakOnly s t) : t.alerts = s.alerts := by unfold BreakOnly at h; rw [h]
theorem BreakOnly.recency {s t : State} (h : BreakOnly s t) : t.recency = s.recency := by unfold BreakOnly at h; rw [h]
theorem BreakOnly.tick {s t : State} (h : BreakOnly s t) : t.tick = s.tick := h.timeKept.tick
theorem BreakOnly.window {s t : State} (h : BreakOnly s t) (w : Fin 16) : t.window w = s.window w :=
  window_eq_of_windows h.windows w

theorem goodFrame_ports (p : Fin 4) (s : State) : PortsOnly s (goodFrame p s) := goodFrame_frame p s

theorem answer_ports (p : Fin 4) (r : Req) (c : ReplyCode) (b : ReplyBody) (s : State) : PortsOnly s (answer p r c b s) :=
  answer_frame p r c b s

/-! ## One lane -/

/-- Of the lanes and their orders only lane l's differ. -/
structure OneLane (l : Fin 32) (s t : State) : Prop where
  others : ∀ j, j ≠ l → t.lane j = s.lane j ∧ t.order j = s.order j

theorem OneLane.refl (l : Fin 32) (s : State) : OneLane l s s := ⟨fun _ _ => ⟨rfl, rfl⟩⟩

theorem OneLane.trans {l : Fin 32} {s t u : State} (h : OneLane l s t) (g : OneLane l t u) : OneLane l s u := ⟨fun j hj =>
  ⟨(g.others j hj).1.trans (h.others j hj).1, (g.others j hj).2.trans (h.others j hj).2⟩⟩

theorem OneLane.ite {l : Fin 32} {s t u : State} {c : Prop} [Decidable c] (h : OneLane l s t) (g : OneLane l s u) :
    OneLane l s (if c then t else u) := by
  split
  · exact h
  · exact g

theorem AvailsOnly.oneLane {s t : State} (h : AvailsOnly s t) (l : Fin 32) : OneLane l s t := ⟨fun j _ => ⟨h.lane j, h.order j⟩⟩

theorem PortsOnly.oneLane {s t : State} (h : PortsOnly s t) (l : Fin 32) : OneLane l s t := h.avails.oneLane l

end Sys2Proof

namespace Sys2Proof.Machine

theorem updLane_oneLane (l : Fin 32) (f : Lane → Lane) (s : State) : OneLane l s (s.updLane l f) := ⟨fun j hj =>
  ⟨by rw [State.updLane_lane, if_neg hj], rfl⟩⟩

theorem setOrder_oneLane (l : Fin 32) (o : Option Outstanding) (s : State) : OneLane l s (s.setOrder l o) := ⟨fun j hj =>
  ⟨rfl, by rw [State.setOrder_order, if_neg hj]⟩⟩

/-! ## Updates of one lane's record -/

theorem updLane_congr {l : Fin 32} {f g : Lane → Lane} {s : State} (h : f (s.lane l) = g (s.lane l)) : s.updLane l f = s.updLane l g := by
  unfold State.updLane; rw [h]

theorem updLane_id {l : Fin 32} {f : Lane → Lane} {s : State} (h : f (s.lane l) = s.lane l) : s.updLane l f = s := by
  unfold State.updLane; rw [h]; simp [State.lane]

theorem updLane_updLane (l : Fin 32) (f g : Lane → Lane) (s : State) : (s.updLane l f).updLane l g = s.updLane l fun L => g (f L) := by
  simp [State.updLane, State.lane]

theorem updLane_raise (l : Fin 32) (f : Lane → Lane) (n : Notice) (a : List (Fin 4)) (s : State) :
    (raise n a s).updLane l f = raise n a (s.updLane l f) := rfl

/-! ## A commit -/

/-- A lane's record after a commit at a tick (R31). -/
def Lane.afterCommit (L : Lane) (x : Source) (e now : Tick) : Lane :=
  { L with committed := some ⟨L.orderSeq, x, e, now⟩, orderSeq := L.orderSeq + 1, lastEffect := some e, planned := none }

/-- The outstanding record of a commit, its timer armed (R38, R40). -/
def Lane.newOrder (L : Lane) (k : StepKind) (x : Source) (e : Tick) (a : Option Handle) : Outstanding :=
  ⟨L.orderSeq, x, e, k, a, false, addTicks e L.cfg.ackGrace⟩

section Commit

variable (l : Fin 32) (k : StepKind) (x : Source) (e : Tick) (a : Option Handle) (s : State)

@[simp] theorem commit_tick : (commit l k x e a s).tick = s.tick := rfl
@[simp] theorem commit_avails : (commit l k x e a s).avails = s.avails := rfl
@[simp] theorem commit_avail (i : Fin 64) : (commit l k x e a s).avail i = s.avail i := rfl
@[simp] theorem commit_ports : (commit l k x e a s).ports = s.ports := rfl
@[simp] theorem commit_sending : (commit l k x e a s).sending = s.sending := rfl

@[simp] theorem commit_lane_self : (commit l k x e a s).lane l = (s.lane l).afterCommit x e s.tick :=
  State.updLane_lane_self s l fun L => L.afterCommit x e s.tick

@[simp] theorem commit_order_self :
    (commit l k x e a s).order l = some ((s.lane l).newOrder k x e a) :=
  State.setOrder_order_self s l _

/-- The ORDER of a commit joins the tail of the outbound queue (R39). -/
@[simp] theorem commit_orderQueue : (commit l k x e a s).orderQueue = s.orderQueue ++ [⟨l, (s.lane l).orderSeq, x, e⟩] := rfl

theorem commit_oneLane : OneLane l s (commit l k x e a s) := ⟨fun j hj =>
  ⟨((updLane_oneLane l (fun L => L.afterCommit x e s.tick) s).others j hj).1,
    ((setOrder_oneLane l (some ((s.lane l).newOrder k x e a)) s).others j hj).2⟩⟩

end Commit

end Sys2Proof.Machine
end

section
/-! Lanes and orders: what a commit does. -/

namespace Sys2Proof.Certificates

open Sys2Proof.Machine

/-- Settles O26, from the rules of a commit. -/
theorem commitOrder : Obligations.CommitOrder := fun l k x e h s =>
  ⟨commit_lane_self l k x e h s, commit_order_self l k x e h s, commit_orderQueue l k x e h s, (commit_oneLane l k x e h s).others,
    commit_break l k x e h s⟩

end Sys2Proof.Certificates
end

section
/-! SUPPORT. What a re-resolution does (R27 to R32): the owner field with its notices, then the lane's transition. -/

namespace Sys2Proof.Machine

/-! ## The end of an avail -/

/-- A final avail's record (R117). -/
def Avail.ending (st : AvailState) (r : FinalResult) (now : Tick) (a : Avail) : Avail :=
  { a with state := st, result := some r, finalTick := some now, claims := [] }

/-- What every notice of an avail carries, from its record (R139). -/
def headOf (i : Fin 64) (a : Avail) (now : Tick) : AvailHead :=
  { handle := { slot := i, gen := a.gen }, lane := a.lane, eventId := a.eventId, tick := now }

theorem head_eq (i : Fin 64) (s : State) : s.head i = headOf i (s.avail i) s.tick := rfl

/-- The final notice's fields, from an avail's record before its end (R139). -/
def finalNoticeOf (i : Fin 64) (a : Avail) (r : FinalResult) (now : Tick) : FinalNotice :=
  { head := headOf i a now, reason := r, left := a.state, outTick := a.outTick, inTick := a.inTick, holder := a.holder, finalTick := now }

/-- The final notice of an avail that ends (R138, R139). -/
def finalNotice (i : Fin 64) (a : Avail) (st : AvailState) (r : FinalResult) (now : Tick) : Notice :=
  match st with
  | .missed => .availMissed (finalNoticeOf i a r now)
  | .cancelled => .availCancelled (finalNoticeOf i a r now)
  | _ => .availEnd (headOf i a now) r a.outTick a.inTick a.frames a.holder now

/-- An avail that is made final: its record, then its notice (R117, R138, R139). -/
theorem finish_eq (i : Fin 64) (st : AvailState) (r : FinalResult) (s : State) (hst : ({ state := st } : Avail).final = true) :
    finish i st r s = raise (finalNotice i (s.avail i) st r s.tick) (s.avail i).addressed (s.updAvail i (Avail.ending st r s.tick)) := by
  have hrec : (s.updAvail i (Avail.ending st r s.tick)).avail i = (s.avail i).ending st r s.tick := State.updAvail_avail_self ..
  show raiseFinal i (s.avail i).state r (s.updAvail i (Avail.ending st r s.tick)) = _
  unfold raiseFinal
  cases st with
  | ended | missed | cancelled => simp only [hrec, head_eq]; rfl
  | empty | armed | closed | out | returning => cases hst

/-! ## The owner field (R29) -/

/-- The owner preempts an avail that owned the lane before it (R29). -/
def Owner.Preempts (o : Owner) : Prop := (∃ a, o = .alert a) ∨ ∃ w, o = .window w

theorem preempting_iff (old new : Owner) : preempting old new = true ↔ new.Preempts ∧ ∃ h, old = .avail h := by
  unfold preempting Owner.Preempts
  cases old <;> cases new <;> simp

/-- The owner field replaced, with LANE_STATE(OWNER) on a change (R26, R29). -/
def ownerReplaced (l : Fin 32) (o : Owner) (s : State) : State :=
  if o = (s.lane l).owner then s
  else raise (.laneState l .owner (s.lane l).state o (s.lane l).confirmed (s.lane l).faultReason s.tick) []
    (s.updLane l fun L => { L with owner := o })

/-- The new owner preempts this avail, which is in OUT (R29, R135). -/
def PreemptsOut (l : Fin 32) (o : Owner) (s : State) (h : Handle) : Prop :=
  (s.lane l).owner = .avail h ∧ o.Preempts ∧ (s.avail h.slot).gen = h.gen ∧ (s.avail h.slot).state = .out

theorem ownerReplaced_avail (l : Fin 32) (o : Owner) (s : State) (i : Fin 64) : (ownerReplaced l o s).avail i = s.avail i := by
  unfold ownerReplaced; split <;> rfl

theorem ownerReplaced_avails (l : Fin 32) (o : Owner) (s : State) : (ownerReplaced l o s).avails = s.avails := by
  unfold ownerReplaced; split <;> rfl

theorem ownerReplaced_tick (l : Fin 32) (o : Owner) (s : State) : (ownerReplaced l o s).tick = s.tick := by
  unfold ownerReplaced; split <;> rfl

theorem raiseLaneState_updLane (l : Fin 32) (c : LaneCause) (f : Lane → Lane) (s : State) :
    raiseLaneState l c (s.updLane l f) =
      raise (.laneState l c (f (s.lane l)).state (f (s.lane l)).owner (f (s.lane l)).confirmed (f (s.lane l)).faultReason s.tick) []
        (s.updLane l f) := by
  unfold raiseLaneState; simp only [State.updLane_lane_self]; rfl

/-- The first part of a re-resolution: the owner field, then the preemption of the avail that owned the lane (R29). -/
theorem setOwnerField_eq (l : Fin 32) (o : Owner) (s : State) :
    setOwnerField l o s =
      match (s.lane l).owner with
      | .avail h => if preempting (s.lane l).owner o then preempt h (ownerReplaced l o s) else ownerReplaced l o s
      | _ => ownerReplaced l o s := by
  unfold setOwnerField ownerReplaced
  by_cases ho : o = (s.lane l).owner
  · subst ho
    cases h : (s.lane l).owner <;> simp [preempting]
  · rw [raiseLaneState_updLane]
    cases h : (s.lane l).owner <;> cases o <;> simp_all [preempting]

/-- Where the new owner preempts no avail in OUT, the first part of a re-resolution is the owner field. -/
theorem setOwnerField_of_not_preempts {l : Fin 32} {o : Owner} {s : State} (hno : ∀ h, ¬PreemptsOut l o s h) :
    setOwnerField l o s = ownerReplaced l o s := by
  rw [setOwnerField_eq]
  split
  · rename_i h hown
    split
    · rename_i hpre
      obtain ⟨htake, -⟩ := (preempting_iff _ _).mp hpre
      unfold preempt
      rw [ownerReplaced_avail]
      exact if_neg fun ⟨hgen, hout⟩ => hno h ⟨hown, htake, hgen, hout⟩
    · rfl
  · rfl

/-- Where the new owner preempts an avail in OUT, it ends PREEMPTED (R29, R135). -/
theorem setOwnerField_of_preempts {l : Fin 32} {o : Owner} {s : State} {h : Handle} (hpre : PreemptsOut l o s h) :
    setOwnerField l o s = finish h.slot .ended .preempted (ownerReplaced l o s) := by
  obtain ⟨hown, htake, hgen, hout⟩ := hpre
  have hp : preempting (s.lane l).owner o = true := (preempting_iff _ _).mpr ⟨htake, h, hown⟩
  rw [setOwnerField_eq, hown]
  rw [hown] at hp
  simp only [hp, if_true]
  unfold preempt
  rw [ownerReplaced_avail]
  exact if_pos ⟨hgen, hout⟩

theorem ownerReplaced_lane_self (l : Fin 32) (o : Owner) (s : State) : (ownerReplaced l o s).lane l = { s.lane l with owner := o } := by
  unfold ownerReplaced; split
  · rename_i h; rw [h]
  · rw [raise_lane, State.updLane_lane_self]

theorem ownerReplaced_oneLane (l : Fin 32) (o : Owner) (s : State) : OneLane l s (ownerReplaced l o s) :=
  .ite (.refl l s) ((updLane_oneLane l _ s).trans (PortsOnly.oneLane (raise_ports ..) l))

theorem ownerReplaced_order (l : Fin 32) (o : Owner) (s : State) (j : Fin 32) : (ownerReplaced l o s).order j = s.order j := by
  unfold ownerReplaced; split <;> rfl

theorem ownerReplaced_orderQueue (l : Fin 32) (o : Owner) (s : State) : (ownerReplaced l o s).orderQueue = s.orderQueue := by
  unfold ownerReplaced; split <;> rfl

/-- The first part of a re-resolution leaves of the lanes what the owner field leaves. -/
theorem setOwnerField_avails (l : Fin 32) (o : Owner) (s : State) : AvailsOnly (ownerReplaced l o s) (setOwnerField l o s) := by
  by_cases hpre : ∃ h, PreemptsOut l o s h
  · obtain ⟨h, hpre⟩ := hpre
    rw [setOwnerField_of_preempts hpre]; exact finish_avails ..
  · rw [setOwnerField_of_not_preempts (not_exists.mp hpre)]; exact .refl _

theorem setOwnerField_lane_self (l : Fin 32) (o : Owner) (s : State) : (setOwnerField l o s).lane l = { s.lane l with owner := o } := by
  rw [(setOwnerField_avails l o s).lane, ownerReplaced_lane_self]

/-! ## The transition (R29, R32) -/

/-- A lane in this state may have a transition set for this owner (R29). -/
def Lane.Acts (L : Lane) (o : Owner) : Prop := L.state = .run ∨ (L.state = .fault ∧ ∃ a, o = .alert a)

/-- The source that the owner's target is held against (R29). -/
def Lane.reference (L : Lane) : Option Source :=
  match L.committed with
  | some c => some c.target
  | none => L.confirmed

/-- The target has just failed on this lane, so that no OWNER transition is set for it (R24, R29). -/
def Lane.Spares (L : Lane) (x : Source) (cause : ResolveCause) : Prop :=
  L.state = .fault ∧ L.committed = none ∧ L.failedTarget = some x ∧ cause ≠ .alertChange

/-- The owner's target needs a transition (R29; a LANE RESET always sets one: log entry 7). -/
def Lane.Needs (L : Lane) (x : Source) (cause : ResolveCause) : Prop := some x ≠ L.reference ∨ cause = .laneReset

/-- An OWNER transition planned behind a committed order (R32). -/
def Lane.behind (L : Lane) (x : Source) (c : Committed) : Planned :=
  { kind := .owner, target := x, effect := addPeriods L.period L.cfg.phase c.effect 1, avail := none }

/-- What a discarded OWNER transition leaves planned (R29). -/
def Lane.planLessOwner (L : Lane) : Option Planned := if L.planned.map Planned.kind = some .owner then none else L.planned

/-- The planned transition where the target needs none (R29; log entry 8). -/
def Lane.planUnneeded (L : Lane) (x : Source) (preempted : Bool) : Option Planned :=
  match L.committed, L.planned.map Planned.kind, preempted with
  | some c, some .fill, true => some (L.behind x c)
  | _, _, _ => L.planLessOwner

/-- The planned transition where an OWNER transition is set behind a committed order (R32, R36). -/
def Lane.planNeeded (L : Lane) (x : Source) (preempted : Bool) (c : Committed) : Option Planned :=
  match L.planned.map Planned.kind, preempted with
  | none, _ => some (L.behind x c)
  | some .owner, _ => some (L.behind x c)
  | some .fill, true => some (L.behind x c)
  | some .fill, false => L.planned
  | some .inStep, _ => L.planned
  | some .stop, _ => L.planned

/-- Acts, as the model computes it. -/
def Lane.producing (L : Lane) (o : Owner) : Bool :=
  match L.state, o with
  | .run, _ => true
  | .fault, .alert _ => true
  | _, _ => false

theorem producing_iff (L : Lane) (o : Owner) : L.producing o = true ↔ L.Acts o := by
  unfold Lane.producing Lane.Acts
  cases L.state <;> cases o <;> simp

theorem dropOwner_eq (l : Fin 32) (s : State) : dropOwner l s = s.updLane l fun M => { M with planned := (s.lane l).planLessOwner } := by
  unfold dropOwner Lane.planLessOwner; split
  · rfl
  · exact (updLane_id rfl).symm

theorem noOwner_eq (l : Fin 32) (x : Source) (b : Bool) (s : State) :
    noOwner l x b s = s.updLane l fun M => { M with planned := (s.lane l).planUnneeded x b } := by
  unfold noOwner Lane.planUnneeded
  rw [dropOwner_eq]
  cases (s.lane l).committed with
  | none => rfl
  | some c =>
    cases (s.lane l).planned.map Planned.kind with
    | none => rfl
    | some k =>
      cases k with
      | fill =>
        cases b with
        | true => exact updLane_congr rfl
        | false => rfl
      | owner => rfl
      | stop => rfl
      | inStep => rfl

theorem setOwner_none (l : Fin 32) (x : Source) (b : Bool) (s : State) (hc : (s.lane l).committed = none) :
    setOwner l x b s = commit l .owner x (earliestEffect (s.lane l) s.tick) none s := by
  unfold setOwner; simp only [hc]

theorem setOwner_some (l : Fin 32) (x : Source) (b : Bool) (s : State) (c : Committed) (hc : (s.lane l).committed = some c) :
    setOwner l x b s = s.updLane l fun M => { M with planned := (s.lane l).planNeeded x b c } := by
  have hkeep : s = s.updLane l fun M => { M with planned := (s.lane l).planned } := (updLane_id rfl).symm
  unfold setOwner Lane.planNeeded
  simp only [hc]
  cases (s.lane l).planned.map Planned.kind with
  | none => exact updLane_congr rfl
  | some k =>
    cases k with
    | owner => exact updLane_congr rfl
    | stop => exact hkeep
    | inStep => exact hkeep
    | fill =>
      cases b with
      | true => exact (if_pos rfl).trans (updLane_congr rfl)
      | false => exact hkeep

theorem setTransition_eq (l : Fin 32) (cause : ResolveCause) (o : Owner) (x : Source) (b : Bool) (s : State) :
    (¬(s.lane l).Acts o → setTransition l cause o x b s = dropOwner l s) ∧
    ((s.lane l).Acts o → ¬(s.lane l).Needs x cause → setTransition l cause o x b s = noOwner l x b s) ∧
    ((s.lane l).Acts o → (s.lane l).Needs x cause → (s.lane l).Spares x cause → setTransition l cause o x b s = s) ∧
    ((s.lane l).Acts o → (s.lane l).Needs x cause → ¬(s.lane l).Spares x cause → setTransition l cause o x b s = setOwner l x b s) := by
  have hacts := producing_iff (s.lane l) o
  have hneeds : (some x = (s.lane l).reference ∧ cause ≠ .laneReset) ↔ ¬(s.lane l).Needs x cause := by
    unfold Lane.Needs; tauto
  have hproducing (h : (s.lane l).Acts o) : ¬(s.lane l).producing o = false := by rw [hacts.mpr h]; decide
  unfold setTransition
  refine ⟨fun h => if_pos ?_, fun h hn => ?_, fun h hn hsp => ?_, fun h hn hsp => ?_⟩
  · exact Bool.eq_false_iff.mpr fun e => h (hacts.mp e)
  · exact (if_neg (hproducing h)).trans (if_pos (hneeds.mpr hn))
  · exact (if_neg (hproducing h)).trans ((if_neg fun e => hneeds.mp e hn).trans (if_pos hsp))
  · exact (if_neg (hproducing h)).trans ((if_neg fun e => hneeds.mp e hn).trans (if_neg hsp))

/-- An OWNER transition is committed at once (R29, R32). -/
def Lane.Commits (L : Lane) (o : Owner) (x : Source) (cause : ResolveCause) : Prop :=
  L.Acts o ∧ L.Needs x cause ∧ ¬L.Spares x cause ∧ L.committed = none

/-- What a re-resolution leaves planned where it commits nothing (R29, R32, R36). -/
structure Lane.Plans (L : Lane) (o : Owner) (x : Source) (cause : ResolveCause) (preempted : Bool) (P : Option Planned) : Prop where
  idle : ¬L.Acts o → P = L.planLessOwner
  unneeded : L.Acts o → ¬L.Needs x cause → P = L.planUnneeded x preempted
  spared : L.Acts o → L.Needs x cause → L.Spares x cause → P = L.planned
  needed : L.Acts o → L.Needs x cause → ¬L.Spares x cause → ∀ c, L.committed = some c → P = L.planNeeded x preempted c

theorem setTransition_commits {l : Fin 32} {cause : ResolveCause} {o : Owner} {x : Source} {s : State} (b : Bool)
    (h : (s.lane l).Commits o x cause) :
    setTransition l cause o x b s = commit l .owner x (earliestEffect (s.lane l) s.tick) none s := by
  obtain ⟨hacts, hneeds, hspares, hc⟩ := h
  obtain ⟨-, -, -, hset⟩ := setTransition_eq l cause o x b s
  rw [hset hacts hneeds hspares, setOwner_none l x b s hc]

theorem setTransition_plans {l : Fin 32} {cause : ResolveCause} {o : Owner} {x : Source} {s : State} (b : Bool)
    (h : ¬(s.lane l).Commits o x cause) :
    ∃ P, setTransition l cause o x b s = (s.updLane l fun M => { M with planned := P }) ∧ (s.lane l).Plans o x cause b P := by
  obtain ⟨hidle, hunneeded, hspared, hset⟩ := setTransition_eq l cause o x b s
  by_cases hacts : (s.lane l).Acts o
  · by_cases hneeds : (s.lane l).Needs x cause
    · by_cases hspares : (s.lane l).Spares x cause
      · refine ⟨(s.lane l).planned, ?_, by constructor <;> tauto⟩
        rw [hspared hacts hneeds hspares, updLane_id rfl]
      · cases hc : (s.lane l).committed with
        | none => exact (h ⟨hacts, hneeds, hspares, hc⟩).elim
        | some c =>
          refine ⟨(s.lane l).planNeeded x b c, ?_, by tauto, by tauto, by tauto, fun _ _ _ d hd => ?_⟩
          · rw [hset hacts hneeds hspares, setOwner_some l x b s c hc]
          · rw [hc] at hd; cases hd; rfl
    · refine ⟨(s.lane l).planUnneeded x b, ?_, by constructor <;> tauto⟩
      rw [hunneeded hacts hneeds, noOwner_eq]
  · refine ⟨(s.lane l).planLessOwner, ?_, by constructor <;> tauto⟩
    rw [hidle hacts, dropOwner_eq]

/-! ## The whole re-resolution (R27 to R29) -/

theorem setOwnerField_tick (l : Fin 32) (o : Owner) (s : State) : (setOwnerField l o s).tick = s.tick := (setOwnerField_break l o s).tick

theorem setOwnerField_oneLane (l : Fin 32) (o : Owner) (s : State) : OneLane l s (setOwnerField l o s) :=
  (ownerReplaced_oneLane l o s).trans ((setOwnerField_avails l o s).oneLane l)

theorem setOwnerField_order (l : Fin 32) (o : Owner) (s : State) (j : Fin 32) : (setOwnerField l o s).order j = s.order j :=
  ((setOwnerField_avails l o s).order j).trans (ownerReplaced_order l o s j)

theorem setOwnerField_orderQueue (l : Fin 32) (o : Owner) (s : State) : (setOwnerField l o s).orderQueue = s.orderQueue :=
  (setOwnerField_avails l o s).orderQueue.trans (ownerReplaced_orderQueue l o s)

/-- A re-resolution that commits an OWNER transition (R29, R32). -/
theorem reresolve_commits {cause : ResolveCause} {l : Fin 32} {s : State}
    (h : (s.lane l).Commits (resolve s l none).1 (resolve s l none).2 cause) :
    reresolve cause l s =
      commit l .owner (resolve s l none).2 (earliestEffect (s.lane l) s.tick) none (setOwnerField l (resolve s l none).1 s) := by
  have hlane := setOwnerField_lane_self l (resolve s l none).1 s
  have hcommits : ((setOwnerField l (resolve s l none).1 s).lane l).Commits (resolve s l none).1 (resolve s l none).2 cause := by
    rw [hlane]; exact h
  show setTransition l cause _ _ _ _ = _
  rw [setTransition_commits _ hcommits, hlane, setOwnerField_tick]
  rfl

/-- A re-resolution that commits nothing leaves a planned transition, or none (R29, R32). -/
theorem reresolve_plans {cause : ResolveCause} {l : Fin 32} {s : State}
    (h : ¬(s.lane l).Commits (resolve s l none).1 (resolve s l none).2 cause) :
    ∃ P, reresolve cause l s = ((setOwnerField l (resolve s l none).1 s).updLane l fun M => { M with planned := P }) ∧
      (s.lane l).Plans (resolve s l none).1 (resolve s l none).2 cause (preempting (s.lane l).owner (resolve s l none).1) P := by
  have hlane := setOwnerField_lane_self l (resolve s l none).1 s
  have hcommits : ¬((setOwnerField l (resolve s l none).1 s).lane l).Commits (resolve s l none).1 (resolve s l none).2 cause := by
    rw [hlane]; exact h
  obtain ⟨P, heq, hidle, hunneeded, hspared, hneeded⟩ :=
    setTransition_plans (preempting (s.lane l).owner (resolve s l none).1) hcommits
  rw [hlane] at hidle hunneeded hspared hneeded
  exact ⟨P, heq, hidle, hunneeded, hspared, hneeded⟩

/-- A re-resolution writes one lane's record and order (R29). -/
theorem reresolve_oneLane (cause : ResolveCause) (l : Fin 32) (s : State) : OneLane l s (reresolve cause l s) := by
  have hfield := setOwnerField_oneLane l (resolve s l none).1 s
  by_cases h : (s.lane l).Commits (resolve s l none).1 (resolve s l none).2 cause
  · rw [reresolve_commits h]; exact hfield.trans (commit_oneLane ..)
  · obtain ⟨P, heq, -⟩ := reresolve_plans h
    rw [heq]; exact hfield.trans (updLane_oneLane ..)

/-- The owner field after a re-resolution (R28, R29). -/
theorem reresolve_owner (cause : ResolveCause) (l : Fin 32) (s : State) : ((reresolve cause l s).lane l).owner = (resolve s l none).1 := by
  have hlane := setOwnerField_lane_self l (resolve s l none).1 s
  by_cases h : (s.lane l).Commits (resolve s l none).1 (resolve s l none).2 cause
  · rw [reresolve_commits h, commit_lane_self, hlane]; rfl
  · obtain ⟨P, heq, -⟩ := reresolve_plans h
    rw [heq, State.updLane_lane_self, hlane]

/-- What a re-resolution does not write of its lane. -/
theorem reresolve_held (cause : ResolveCause) (l : Fin 32) (s : State) : ((reresolve cause l s).lane l).held = (s.lane l).held :=
  (reresolve_resolves cause l s).lanes l

/-- The avails after a re-resolution are those after its first part. -/
theorem reresolve_avails (cause : ResolveCause) (l : Fin 32) (s : State) :
    (reresolve cause l s).avails = (setOwnerField l (resolve s l none).1 s).avails := by
  by_cases h : (s.lane l).Commits (resolve s l none).1 (resolve s l none).2 cause
  · rw [reresolve_commits h]; rfl
  · obtain ⟨P, heq, -⟩ := reresolve_plans h
    rw [heq]; rfl

theorem reresolve_ports (cause : ResolveCause) (l : Fin 32) (s : State) :
    (reresolve cause l s).ports = (setOwnerField l (resolve s l none).1 s).ports := by
  by_cases h : (s.lane l).Commits (resolve s l none).1 (resolve s l none).2 cause
  · rw [reresolve_commits h]; rfl
  · obtain ⟨P, heq, -⟩ := reresolve_plans h
    rw [heq]; rfl

/-- A re-resolution that commits nothing keeps the lane's order. -/
theorem reresolve_keeps {cause : ResolveCause} {l : Fin 32} {s : State}
    (h : ¬(s.lane l).Commits (resolve s l none).1 (resolve s l none).2 cause) :
    ((reresolve cause l s).lane l).committed = (s.lane l).committed ∧ (reresolve cause l s).order l = s.order l ∧
      ((reresolve cause l s).lane l).lastEffect = (s.lane l).lastEffect ∧
      ((reresolve cause l s).lane l).orderSeq = (s.lane l).orderSeq ∧ (reresolve cause l s).orderQueue = s.orderQueue := by
  obtain ⟨P, heq, -⟩ := reresolve_plans h
  rw [heq, State.updLane_lane_self, setOwnerField_lane_self]
  exact ⟨rfl, setOwnerField_order .., rfl, rfl, setOwnerField_orderQueue ..⟩

end Sys2Proof.Machine
end

section
/-! SUPPORT. What becomes of a lane at the end of an order, at a lane fault and at a change of its state, as one new record and then the
notices (R22, R26, R45, R49). -/

namespace Sys2Proof.Machine

/-! ## Notices of a change, in a state that has it already -/

/-- LANE_STATE(SOURCE) for a lane whose confirmed source was another one (R45, R49). -/
def tellSource (l : Fin 32) (L : Lane) (x : Option Source) (s : State) : State :=
  if L.confirmed = x then s else raise (.laneState l .source L.state L.owner x L.faultReason s.tick) [] s

theorem tellSource_ports (l : Fin 32) (L : Lane) (x : Option Source) (s : State) : PortsOnly s (tellSource l L x s) := by
  unfold tellSource; split <;> rfl

/-- A confirmed source is set in the new record, and then told (R45, R49). -/
theorem updLane_setConfirmed (l : Fin 32) (x : Option Source) (g : Lane → Lane) (s : State) :
    (setConfirmed l x s).updLane l g = tellSource l (s.lane l) x (s.updLane l fun L => g { L with confirmed := x }) := by
  unfold setConfirmed tellSource; split
  · rename_i h; subst h; exact updLane_congr rfl
  · rw [raiseLaneState_updLane, updLane_raise, updLane_updLane]; rfl

/-- A lane's state is set in the new record, and then told (R26). -/
theorem setLaneState_updLane (l : Fin 32) (x : LaneState) (f : Lane → Lane) (s : State) :
    setLaneState l x (s.updLane l f) =
      raise (.laneState l .state x (f (s.lane l)).owner (f (s.lane l)).confirmed (f (s.lane l)).faultReason s.tick) []
        (s.updLane l fun L => { f L with state := x }) := by
  unfold setLaneState; rw [updLane_updLane, raiseLaneState_updLane]

/-! ## Every avail of a lane is made final (R136, R137) -/

/-- What becomes of one avail, by its record before, where the avails of a lane are made final. -/
def endIfOn (l : Fin 32) (st : AvailState) (r : FinalResult) (now : Tick) (a : Avail) (i : Fin 64) (s : State) : State :=
  if a.live = true ∧ a.lane = l then raise (finalNotice i a st r now) a.addressed (s.updAvail i (Avail.ending st r now)) else s

/-- An ending touches its own avail only. -/
theorem endIfOn_avail_other (l : Fin 32) (st : AvailState) (r : FinalResult) (now : Tick) (a : Avail) (i j : Fin 64) (s : State)
    (h : j ≠ i) : (endIfOn l st r now a i s).avail j = s.avail j := by
  unfold endIfOn; split
  · rw [raise_avail, State.updAvail_avail, if_neg h]
  · rfl

theorem endIfOn_avails (l : Fin 32) (st : AvailState) (r : FinalResult) (now : Tick) (a : Avail) (i : Fin 64) (s : State) :
    AvailsOnly s (endIfOn l st r now a i s) := by
  unfold endIfOn; split <;> rfl

/-- The endings of a lane's avails, each by its record before all of them, in ascending slot order (R136, R137). -/
theorem finishLane_eq (l : Fin 32) (st : AvailState) (r : FinalResult) (s : State) (hst : ({ state := st } : Avail).final = true) :
    finishLane l st r s = (List.finRange 64).foldl (fun x i => endIfOn l st r s.tick (s.avail i) i x) s := by
  suffices h : ∀ (xs : List (Fin 64)) (x : State), xs.Nodup → x.tick = s.tick → (∀ i ∈ xs, x.avail i = s.avail i) →
      xs.foldl (fun s i => if (s.avail i).live ∧ (s.avail i).lane = l then finish i st r s else s) x =
        xs.foldl (fun x i => endIfOn l st r s.tick (s.avail i) i x) x from
    h _ s (List.nodup_finRange 64) rfl fun _ _ => rfl
  intro xs
  induction xs with
  | nil => intro x _ _ _; rfl
  | cons i xs ih =>
    intro x hn hT hsame
    obtain ⟨hi, hxs⟩ := List.nodup_cons.mp hn
    have hhead : (if (x.avail i).live ∧ (x.avail i).lane = l then finish i st r x else x) =
        endIfOn l st r s.tick (s.avail i) i x := by
      rw [finish_eq i st r x hst, hsame i (by simp), hT]; rfl
    rw [List.foldl_cons, List.foldl_cons, hhead]
    refine ih _ hxs ((endIfOn_avails ..).timeKept.tick.trans hT) fun j hj => ?_
    rw [endIfOn_avail_other _ _ _ _ _ _ _ _ fun h => hi (by rw [← h]; exact hj)]
    exact hsame j (by simp [hj])

/-- Each avail's record after the endings of a lane's avails (R136, R137). -/
theorem finishLane_avail (l : Fin 32) (st : AvailState) (r : FinalResult) (s : State) (hst : ({ state := st } : Avail).final = true)
    (i : Fin 64) :
    (finishLane l st r s).avail i =
      if (s.avail i).live = true ∧ (s.avail i).lane = l then (s.avail i).ending st r s.tick else s.avail i := by
  suffices h : ∀ (xs : List (Fin 64)) (x : State), xs.Nodup → x.avail i = s.avail i →
      (xs.foldl (fun x i => endIfOn l st r s.tick (s.avail i) i x) x).avail i =
        if i ∈ xs ∧ (s.avail i).live = true ∧ (s.avail i).lane = l then (s.avail i).ending st r s.tick else s.avail i by
    have := h _ s (List.nodup_finRange 64) rfl
    simpa only [finishLane_eq l st r s hst, List.mem_finRange, true_and] using this
  intro xs
  induction xs with
  | nil => intro x _ hx; simpa using hx
  | cons j xs ih =>
    intro x hn hx
    obtain ⟨hj, hxs⟩ := List.nodup_cons.mp hn
    rw [List.foldl_cons]
    by_cases hij : i = j
    · subst hij
      have hrest : ∀ (ys : List (Fin 64)) (y : State), i ∉ ys →
          (ys.foldl (fun x i => endIfOn l st r s.tick (s.avail i) i x) y).avail i = y.avail i := by
        intro ys
        induction ys with
        | nil => intro y _; rfl
        | cons k ys ih =>
          intro y hk
          rw [List.foldl_cons, ih _ fun h => hk (by simp [h]), endIfOn_avail_other _ _ _ _ _ _ _ _ fun h => hk (by simp [h])]
      rw [hrest xs _ hj]
      unfold endIfOn
      split
      · rename_i h; rw [raise_avail, State.updAvail_avail_self, hx, if_pos ⟨by simp, h⟩]
      · rename_i h; rw [hx, if_neg fun e => h e.2]
    · rw [ih _ hxs ((endIfOn_avail_other _ _ _ _ _ _ _ _ hij).trans hx)]
      simp [hij]

/-! ## The end of an order (R45) -/

/-- A lane's record when its order was done, with its confirmed source (R45). -/
def Lane.settled (L : Lane) (x : Source) : Lane := { L with confirmed := some x, committed := none }

/-- The first part of a matched DONE: the order settled, and the source told (R45). -/
def settleOrder (l : Fin 32) (o : Outstanding) (s : State) : State :=
  tellSource l (s.lane l) (some o.target) ((s.setOrder l none).updLane l fun L => L.settled o.target)

/-- A matched DONE: the order settled, the end of a stop, the step-done, then the planned transition (R23, R33, R45). -/
theorem orderDone_eq (l : Fin 32) (o : Outstanding) (s : State) :
    orderDone l o s = handlePlanned l (match o.avail with
      | some h => stepDone o.kind h o.target (endStop l o.kind (settleOrder l o s))
      | none => endStop l o.kind (settleOrder l o s)) := by
  have hsettle : (setConfirmed l (some o.target) (s.setOrder l none)).updLane l (fun L => { L with committed := none }) =
      settleOrder l o s := updLane_setConfirmed ..
  unfold orderDone; dsimp only
  rw [hsettle] <;> rfl

theorem settleOrder_lane_self (l : Fin 32) (o : Outstanding) (s : State) : (settleOrder l o s).lane l = (s.lane l).settled o.target := by
  unfold settleOrder
  rw [(tellSource_ports ..).avails.lane, State.updLane_lane_self, State.setOrder_lane]

theorem settleOrder_order (l : Fin 32) (o : Outstanding) (s : State) : (settleOrder l o s).order l = none := by
  unfold settleOrder
  rw [(tellSource_ports ..).avails.order, State.updLane_order, State.setOrder_order_self]

theorem settleOrder_oneLane (l : Fin 32) (o : Outstanding) (s : State) : OneLane l s (settleOrder l o s) :=
  ((setOrder_oneLane l none s).trans (updLane_oneLane ..)).trans (PortsOnly.oneLane (tellSource_ports ..) l)

/-! ## A lane fault (R49, R50) -/

/-- A lane's record after a lane fault (R49). -/
def Lane.struck (L : Lane) (x : Source) (reason : FaultReason) : Lane :=
  { L with confirmed := none, committed := none, planned := none, faultReason := some reason, failedTarget := some x
           state := faultedState L.state }

/-- The notices of a lane fault before those of its avails (R26, R49, R50). -/
def tellFault (l : Fin 32) (o : Outstanding) (reason : FaultReason) (code : Option FabricCode) (L : Lane) (s : State) : State :=
  let told := tellSource l L none s
  raise (.laneFault l o reason code (faultedState L.state) s.tick) []
    (if faultedState L.state = L.state then told
     else raise (.laneState l .state (faultedState L.state) L.owner none (some reason) s.tick) [] told)

theorem tellFault_ports (l : Fin 32) (o : Outstanding) (reason : FaultReason) (code : Option FabricCode) (L : Lane) (s : State) :
    PortsOnly s (tellFault l o reason code L s) := by
  unfold tellFault; dsimp only
  refine PortsOnly.trans (PortsOnly.trans (tellSource_ports l L none s) ?_) (raise_ports ..)
  split <;> rfl

/-- A lane's record at a lane fault before its state changes (R49). -/
def Lane.lost (L : Lane) (x : Source) (reason : FaultReason) : Lane :=
  { L with confirmed := none, committed := none, planned := none, faultReason := some reason, failedTarget := some x }

/-- The state of a lane at a lane fault, in the record and then told (R49, step 4). -/
theorem setFaulted_eq (l : Fin 32) (x : Source) (reason : FaultReason) (s : State) :
    (if faultedState (s.lane l).state = (s.lane l).state then
        tellSource l (s.lane l) none (s.updLane l fun L => L.lost x reason)
      else setLaneState l (faultedState (s.lane l).state) (tellSource l (s.lane l) none (s.updLane l fun L => L.lost x reason))) =
      if faultedState (s.lane l).state = (s.lane l).state then
        tellSource l (s.lane l) none (s.updLane l fun L => L.struck x reason)
      else raise (.laneState l .state (faultedState (s.lane l).state) (s.lane l).owner none (some reason) s.tick) []
        (tellSource l (s.lane l) none (s.updLane l fun L => L.struck x reason)) := by
  split
  · rename_i h
    congr 1
    exact updLane_congr (by simp [Lane.struck, Lane.lost, h])
  · unfold tellSource; split
    · rw [setLaneState_updLane]; rfl
    · rw [← updLane_raise, setLaneState_updLane]; rfl

/-- A lane fault: the new record, its notices, the endings of the avails, and the re-resolution of a lane in FAULT (R24, R49, R136). -/
theorem laneFault_eq (l : Fin 32) (o : Outstanding) (reason : FaultReason) (code : Option FabricCode) (s : State) :
    laneFault l o reason code s =
      let fallen := finishLane l .missed .fault (tellFault l o reason code (s.lane l) (s.updLane l fun L => L.struck o.target reason))
      if faultedState (s.lane l).state = .fault then reresolve .ordinary l fallen else fallen := by
  have hlost : (setConfirmed l none s).updLane l (fun L =>
      { L with committed := none, planned := none, faultReason := some reason, failedTarget := some o.target }) =
      tellSource l (s.lane l) none (s.updLane l fun L => L.lost o.target reason) := updLane_setConfirmed ..
  have hstate : ((tellSource l (s.lane l) none (s.updLane l fun L => L.lost o.target reason)).lane l).state = (s.lane l).state := by
    rw [(tellSource_ports ..).avails.lane, State.updLane_lane_self]; rfl
  unfold laneFault; dsimp only
  rw [hlost, hstate, setFaulted_eq, tellFault]
  rfl

end Sys2Proof.Machine
end

section
/-! SUPPORT. The tables by which lanes are owned and switched, the lanes, the order link, the windows and the alerts: which commands
leave all of them as they were. -/

namespace Sys2Proof

open Sys2Proof.Machine

/-- The lanes, the order link, the windows and the alerts. -/
def Machine.State.schedule (s : State) : Vector Lane 32 × Vector (Option Outstanding) 32 × List OrderMsg × Option Tick ×
    Vector Window 16 × Vector (Option Alert) 4 × List (Fin 4) :=
  (s.lanes, s.outstanding, s.orderQueue, s.sending, s.windows, s.alerts, s.recency)

/-- No lane, order, window or alert differs. -/
def ScheduleKept (s t : State) : Prop := t.schedule = s.schedule

theorem ScheduleKept.refl (s : State) : ScheduleKept s s := rfl
theorem ScheduleKept.trans {s t u : State} (h : ScheduleKept s t) (g : ScheduleKept t u) : ScheduleKept s u := Eq.trans g h

theorem scheduleKept_iff {s t : State} : ScheduleKept s t ↔ t.lanes = s.lanes ∧ t.outstanding = s.outstanding ∧
    t.orderQueue = s.orderQueue ∧ t.sending = s.sending ∧ t.windows = s.windows ∧ t.alerts = s.alerts ∧ t.recency = s.recency := by
  simp [ScheduleKept, State.schedule]

theorem AvailsOnly.scheduleKept {s t : State} (h : AvailsOnly s t) : ScheduleKept s t := by unfold AvailsOnly at h; rw [h]; rfl
theorem PortsOnly.scheduleKept {s t : State} (h : PortsOnly s t) : ScheduleKept s t := h.avails.scheduleKept
theorem ArrayOnly.scheduleKept {s t : State} (h : ArrayOnly s t) : ScheduleKept s t := by unfold ArrayOnly at h; rw [h]; rfl

theorem foldl_scheduleKept {α : Type} (f : State → α → State) (hf : ∀ s a, ScheduleKept s (f s a)) (xs : List α) (s : State) :
    ScheduleKept s (xs.foldl f s) := foldl_keeps ScheduleKept .refl (fun _ _ _ => .trans) f hf xs s

end Sys2Proof

namespace Sys2Proof.Machine

/-! ## Port events, the intake and the cue logic -/

theorem detachAvail_avails (p : Fin 4) (s : State) (i : Fin 64) : AvailsOnly s (detachAvail p s i) := by
  unfold detachAvail; dsimp only; split
  · rfl
  · split <;> rfl
  all_goals rfl

theorem setErrors_ports (p : Fin 4) (n : Nat) (s : State) : PortsOnly s (setErrors p n s) := setErrors_frame p n s

theorem updPort_ports (p : Fin 4) (f : Port → Port) (s : State) : PortsOnly s (s.updPort p f) := rfl

theorem detachClaims_scheduleKept (p : Fin 4) (s : State) : ScheduleKept s (detachClaims p s) :=
  (foldl_scheduleKept (fun s l => s.setPlace l p none) (fun _ _ => rfl) _ _).trans
    (foldl_scheduleKept _ (fun x i => (detachAvail_avails p x i).scheduleKept) _ _)

theorem detach_scheduleKept (p : Fin 4) (s : State) : ScheduleKept s (detach p s) :=
  ((updPort_ports p Port.detached s).scheduleKept.trans (detachClaims_scheduleKept ..)).trans (raise_ports ..).scheduleKept

theorem takeBytes_scheduleKept (p : Fin 4) (bytes : List Byte) (s : State) : ScheduleKept s (takeBytes p bytes s) := by
  unfold takeBytes takeMalformedFrame; dsimp only; split
  · split
    · rfl
    · split
      · exact (updPort_ports ..).scheduleKept.trans (detach_scheduleKept ..)
      · exact ((updPort_ports ..).trans ((updPort_ports ..).trans (setErrors_ports ..))).scheduleKept
  · rfl
  · rfl

theorem takeFetch_ports (p : Fin 4) (through : Bool) (s : State) : PortsOnly s (takeFetch p through s) := by
  unfold takeFetch; dsimp only; split
  · exact (goodFrame_ports p s).trans (updPort_ports ..)
  · exact goodFrame_ports p s

theorem takeQuietExpiry_ports (p : Fin 4) (s : State) : PortsOnly s (takeQuietExpiry p s) := by
  unfold takeQuietExpiry; split <;> rfl

theorem takeTimeref_scheduleKept (f : Fin 32) (stamp : Stamp) (a : Tick) (d : Bool) (s : State) :
    ScheduleKept s (takeTimeref f stamp a d s) := by
  unfold takeTimeref; dsimp only; split
  · refine ScheduleKept.trans ?_ (raiseDiscontinuity_ports ..).scheduleKept; rfl
  · rfl

theorem takeIntake_scheduleKept (s : State) : ScheduleKept s (takeIntake s) := by
  unfold takeIntake takeRecord; split
  · rfl
  · split
    · rfl
    · refine ScheduleKept.trans ?_ (deliverCue_cue ..).array.scheduleKept; rfl
    · refine ScheduleKept.trans ?_ (takeTimeref_scheduleKept ..); rfl

theorem takeLineChange_scheduleKept (k : Fin 24) (b : Bool) (s : State) : ScheduleKept s (takeLineChange k b s) := by
  unfold takeLineChange; split
  · rfl
  · refine ScheduleKept.trans ?_ (runPass_array _).scheduleKept; rfl

/-! ## Requests -/

/-- The taking of a request does to the state what its block does, and besides writes port records only (R188). -/
theorem takeRequest_keeps (R : State → State → Prop) (hports : ∀ s t, PortsOnly s t → R s t) (ht : ∀ s t u, R s t → R t u → R s u)
    (p : Fin 4) (r : Req) (act : State → Answer) (hact : ∀ x, R x (act x).state) (s : State) : R s (takeRequest p r act s) := by
  have hg := hports _ _ (goodFrame_ports p s)
  have hanswer (c : ReplyCode) (b : ReplyBody) (x : State) : R x (answer p r c b x) := hports _ _ (answer_ports p r c b x)
  rcases takeRequest_cases p r act s with h | h | h | ⟨_, _, _, h⟩ <;> rw [h]
  · exact hg
  · exact ht _ _ _ hg (hanswer ..)
  · exact ht _ _ _ hg (hanswer ..)
  · exact ht _ _ _ (ht _ _ _ hg (hact _)) (hanswer ..)

/-- The taking of a request keeps these tables where its block does (R188). -/
theorem takeRequest_scheduleKept (p : Fin 4) (r : Req) (act : State → Answer) (hact : ∀ x, ScheduleKept x (act x).state) (s : State) :
    ScheduleKept s (takeRequest p r act s) :=
  takeRequest_keeps ScheduleKept (fun _ _ => PortsOnly.scheduleKept) (fun _ _ _ => .trans) p r act hact s

theorem readHitAct_scheduleKept (b : Byte) (s : State) : ScheduleKept s (readHitAct b s).state := by unfold readHitAct; split <;> rfl

theorem writePairAct_scheduleKept (r : RawPair) (s : State) : ScheduleKept s (writePairAct r s).state := by
  unfold writePairAct; split
  · rfl
  · dsimp only; split
    · rfl
    · split <;> rfl

theorem updPair_scheduleKept (k : Fin 6) (f : Pair → Pair) (s : State) : ScheduleKept s (s.updPair k f) := rfl
theorem primeCell_scheduleKept (n : Fin 12) (s : State) : ScheduleKept s (primeCell n s) := rfl
theorem forceCell_scheduleKept (n : Fin 12) (s : State) : ScheduleKept s (forceCell n s) := rfl

theorem enablePairAct_scheduleKept (r : RawEnable) (s : State) : ScheduleKept s (enablePairAct r s).state := by
  unfold enablePairAct; split
  · rfl
  · dsimp only; split
    · rfl
    · dsimp only; split
      · exact (updPair_scheduleKept ..).trans
          ((((updPair_scheduleKept ..).trans (primeCell_scheduleKept ..)).trans (primeCell_scheduleKept ..)).trans
            (updPair_scheduleKept ..))
      · exact (updPair_scheduleKept ..).trans
          (((forceCell_scheduleKept ..).trans (forceCell_scheduleKept ..)).trans (updPair_scheduleKept ..))
      all_goals rfl

/-- The claims of a port on lanes, given, cleared or paused, touch the standing-claim table only. -/
theorem standAct_scheduleKept (p : Fin 4) (r : RawStand) (s : State) : ScheduleKept s (standAct p r s).state := by
  unfold standAct; split <;> rfl

theorem standClearAct_scheduleKept (p : Fin 4) (b : Byte) (s : State) : ScheduleKept s (standClearAct p b s).state := by
  unfold standClearAct; split
  · rfl
  · split <;> rfl

theorem setPaused_scheduleKept (p : Fin 4) (b : Byte) (x : Bool) (s : State) : ScheduleKept s (setPaused p b x s).state := by
  unfold setPaused; split
  · rfl
  · split <;> rfl

/-! ## Every command -/

/-- The commands that can reach a lane, an order, a window or an alert. -/
def setsSchedule : Instr → Bool
  | .powerOnReset _ _ | .secondBoundary | .writeLane _ _ | .laneReset _ _ | .orderSendStart | .orderSendEnd | .done _ _ | .fault _ _ _
  | .ackTimerExpiry _ | .outCommitPoint _ | .fillCommitPoint _ | .inCommitPoint _ | .writeWindow _ _ | .alertStart _ _ | .alertEnd _ _
  | .alertExpiry _ | .stationTick => true
  | _ => false

/-- Every other command leaves these tables as they were. -/
theorem exec_scheduleKept (c : Instr) (s t : State) (hc : setsSchedule c = false) (h : exec c s = .next t) : ScheduleKept s t := by
  cases c <;> first | (cases hc; done) | (have ht := Host.Outcome.next.inj h; subst ht)
  case chipSelectAssert => rfl
  case fetchCheckByte => rfl
  case malformedFrame => exact takeBytes_scheduleKept ..
  case fetch => exact (takeFetch_ports ..).scheduleKept
  case quietExpiry => exact (takeQuietExpiry_ports ..).scheduleKept
  case fabricMessageMalformed => unfold takeMalformed; split <;> rfl
  case recordArrival => unfold takeArrival; split <;> rfl
  case intakeTaking => exact takeIntake_scheduleKept ..
  case lineChange => exact takeLineChange_scheduleKept ..
  case settleExpiry => exact (takeSettle_array ..).scheduleKept
  case claimClose => exact (takeClaimClose_avails ..).scheduleKept
  all_goals apply takeRequest_scheduleKept; intro x
  case status => rfl
  case subscribe => unfold subscribeAct; split <;> rfl
  case rejoin => unfold rejoinAct; dsimp only; split <;> rfl
  case readTime => rfl
  case setCalendar => unfold setCalendarAct; split <;> rfl
  case readLane => rw [readLaneAct_state]; rfl
  case readOrderLink => rfl
  case readIntake => rfl
  case readFeed => rw [readFeedAct_state]; rfl
  case readCueLogic => rfl
  case readPair => rw [readPairAct_state]; rfl
  case writePair => exact writePairAct_scheduleKept ..
  case enablePair => exact enablePairAct_scheduleKept ..
  case setCueOutput => unfold setCueOutputAct; split <;> rfl
  case readFilter => rw [readFilterAct_state]; rfl
  case writeFilter =>
    unfold writeFilterAct; split
    · rfl
    · dsimp only; split <;> rfl
  case readHit => exact readHitAct_scheduleKept ..
  case readStrays => rfl
  case takeStray => unfold takeStrayAct; split <;> rfl
  case readAvail => rw [readAvailAct_state]; rfl
  case readLaneAvails => rw [readLaneAvailsAct_state]; rfl
  case bookAvail => exact (bookAct_avails ..).scheduleKept
  case cancelAvail => exact (cancelAct_avails ..).scheduleKept
  case release => exact (releaseAct_avails ..).scheduleKept
  case claim => exact (claimAct_avails ..).scheduleKept
  case withdraw => exact (withdrawAct_avails ..).scheduleKept
  case stand => exact standAct_scheduleKept ..
  case standClear => exact standClearAct_scheduleKept ..
  case standPause => exact setPaused_scheduleKept ..
  case standResume => exact setPaused_scheduleKept ..
  case readStanding => rw [readStandingAct_state]; rfl
  case readWindow => rw [readWindowAct_state]; rfl
  case readAlerts => rfl

end Sys2Proof.Machine
end

section
/-! SUPPORT. The invariant of the order link (R23, R38, R39, R43): every operation that writes a lane's transitions or its order keeps it. -/

namespace Sys2Proof

open Sys2Proof.Machine

/-- The order link stays sound. -/
structure OrdersKept (s t : State) : Prop where
  sound : OrdersSound s → OrdersSound t

theorem OrdersKept.refl (s : State) : OrdersKept s s := ⟨id⟩
theorem OrdersKept.trans {s t u : State} (h : OrdersKept s t) (g : OrdersKept t u) : OrdersKept s u := ⟨g.sound ∘ h.sound⟩

theorem OrdersKept.ite {s t u : State} {c : Prop} [Decidable c] (h : OrdersKept s t) (g : OrdersKept s u) :
    OrdersKept s (if c then t else u) := by
  split
  · exact h
  · exact g

theorem foldl_ordersKept {α : Type} (f : State → α → State) (hf : ∀ s a, OrdersKept s (f s a)) (xs : List α) (s : State) :
    OrdersKept s (xs.foldl f s) := foldl_keeps OrdersKept .refl (fun _ _ _ => .trans) f hf xs s

/-- The invariant speaks of the lanes, their orders and the outbound queue only. -/
theorem OrdersKept.of_tables {s t : State} (hl : t.lanes = s.lanes) (ho : t.outstanding = s.outstanding)
    (hq : t.orderQueue = s.orderQueue) (hsend : t.sending = s.sending) : OrdersKept s t := by
  have lane (l : Fin 32) : t.lane l = s.lane l := by unfold State.lane; rw [hl]
  have order (l : Fin 32) : t.order l = s.order l := by unfold State.order; rw [ho]
  refine ⟨?_⟩
  unfold OrdersSound MessageSound
  simp only [lane, order, hq, hsend]
  exact id

theorem ScheduleKept.ordersKept {s t : State} (h : ScheduleKept s t) : OrdersKept s t := by
  obtain ⟨hl, ho, hq, hsend, -⟩ := scheduleKept_iff.mp h
  exact .of_tables hl ho hq hsend

theorem AvailsOnly.ordersKept {s t : State} (h : AvailsOnly s t) : OrdersKept s t := h.scheduleKept.ordersKept
theorem PortsOnly.ordersKept {s t : State} (h : PortsOnly s t) : OrdersKept s t := h.scheduleKept.ordersKept

/-! ## What the invariant says of one lane -/

theorem OrdersSound.off {s : State} (h : OrdersSound s) {l : Fin 32} (hoff : (s.lane l).state = .off) :
    (s.lane l).committed = none ∧ (s.lane l).planned = none := (h.1 l).2 hoff

theorem OrdersSound.order_none {s : State} (h : OrdersSound s) {l : Fin 32} (hc : (s.lane l).committed = none) : s.order l = none := by
  have heq := (h.1 l).1
  rw [hc] at heq
  cases ho : s.order l with
  | none => rfl
  | some o => rw [ho] at heq; cases heq

/-- No message of a lane waits where the lane has no unsent order (R39). -/
theorem OrdersSound.not_queued {s : State} (h : OrdersSound s) {l : Fin 32} (hsent : ∀ o, s.order l = some o → o.sent = true) :
    ∀ m ∈ s.orderQueue, m.lane ≠ l := by
  intro m hm hl
  obtain ⟨-, hmsg, -⟩ := h
  obtain ⟨o, ho, hunsent, -⟩ := hmsg m hm
  rw [hl] at ho
  rw [hsent o ho] at hunsent
  cases hunsent

end Sys2Proof

namespace Sys2Proof.Machine

/-! ## Writes of one lane -/

/-- A lane's record is replaced: its committed order stays, and nothing is ordered or planned where it is in OFF. -/
theorem updLane_ordersKept (l : Fin 32) (f : Lane → Lane) (s : State) (hc : (f (s.lane l)).committed = (s.lane l).committed)
    (hoff : OrdersSound s → (f (s.lane l)).state = .off → (s.lane l).committed = none ∧ (f (s.lane l)).planned = none) :
    OrdersKept s (s.updLane l f) := by
  refine ⟨fun hs => ?_⟩
  obtain ⟨hlane, hrest⟩ := hs
  refine ⟨fun j => ?_, hrest⟩
  rw [State.updLane_lane]; split
  · rename_i h; subst h
    refine ⟨by rw [hc]; exact (hlane j).1, fun h => ?_⟩
    rw [hc]; exact hoff ⟨hlane, hrest⟩ h
  · exact hlane j

/-- A commit for a lane that is not in OFF and has no order (R31, R39). -/
theorem commit_ordersSound (l : Fin 32) (k : StepKind) (x : Source) (e : Tick) (a : Option Handle) {s : State} (hs : OrdersSound s)
    (hc : (s.lane l).committed = none) (hst : (s.lane l).state ≠ .off) : OrdersSound (commit l k x e a s) := by
  have hnone := hs.order_none hc
  have hqueue := hs.not_queued (l := l) fun o ho => by rw [hnone] at ho; cases ho
  obtain ⟨hlane, hmsg, hunsent, hnodup, hsend⟩ := hs
  have other (j : Fin 32) (hj : j ≠ l) := (commit_oneLane l k x e a s).others j hj
  refine ⟨fun j => ?_, fun m hm => ?_, fun j o ho hu => ?_, ?_, fun _ => by simp⟩
  · by_cases hj : j = l
    · subst hj; rw [commit_lane_self, commit_order_self]
      exact ⟨rfl, fun h => (hst h).elim⟩
    · rw [(other j hj).1, (other j hj).2]; exact hlane j
  · rw [commit_orderQueue, List.mem_append, List.mem_singleton] at hm
    rcases hm with hm | rfl
    · unfold MessageSound; rw [(other _ (hqueue m hm)).2]; exact hmsg m hm
    · exact ⟨_, commit_order_self .., rfl, rfl, rfl, rfl⟩
  · rw [commit_orderQueue]
    by_cases hj : j = l
    · exact ⟨_, List.mem_append_right _ (List.mem_singleton_self _), hj.symm⟩
    · rw [(other j hj).2] at ho
      obtain ⟨m, hm, hml⟩ := hunsent j o ho hu
      exact ⟨m, List.mem_append_left _ hm, hml⟩
  · rw [commit_orderQueue, List.map_append, List.nodup_append]
    refine ⟨hnodup, by simp, fun x hx y hy => ?_⟩
    obtain ⟨m, hm, rfl⟩ := List.mem_map.mp hx
    simp only [List.map_cons, List.map_nil, List.mem_singleton] at hy
    rw [hy]; exact hqueue m hm

/-- A lane's order is settled: its record and its message are gone, and nothing is planned where the lane is in OFF (R23, R43, R45, R48). -/
theorem removeOrder_ordersSound {l : Fin 32} {f : Lane → Lane} {s t : State} (hs : OrdersSound s) (hl : t.lanes = s.lanes)
    (ho : t.outstanding = s.outstanding) (hq : t.orderQueue = s.orderQueue.filter fun m => decide (m.lane ≠ l))
    (hsend : t.sending.isSome = true → t.orderQueue ≠ []) (hc : (f (s.lane l)).committed = none)
    (hoff : (f (s.lane l)).state = .off → (f (s.lane l)).planned = none) : OrdersSound ((t.setOrder l none).updLane l f) := by
  have lane (j : Fin 32) : (t.setOrder l none).lane j = s.lane j := by unfold State.lane; rw [State.setOrder_lanes, hl]
  have order (j : Fin 32) (hj : j ≠ l) : (t.setOrder l none).order j = s.order j := by
    rw [State.setOrder_order, if_neg hj]; unfold State.order; rw [ho]
  have hmem (m : OrderMsg) : m ∈ t.orderQueue ↔ m ∈ s.orderQueue ∧ m.lane ≠ l := by rw [hq]; simp
  obtain ⟨hlane, hmsg, hunsent, hnodup, -⟩ := hs
  refine ⟨fun j => ?_, fun m hm => ?_, fun j o hj hu => ?_, ?_, hsend⟩
  · rw [State.updLane_lane, State.updLane_order]; split
    · rename_i h; subst h
      rw [lane, State.setOrder_order_self]
      exact ⟨by rw [hc]; rfl, fun h => ⟨hc, hoff h⟩⟩
    · rename_i h
      rw [lane, order j h]; exact hlane j
  · obtain ⟨hm, hne⟩ := (hmem m).mp hm
    unfold MessageSound
    rw [State.updLane_order, order _ hne]; exact hmsg m hm
  · rw [State.updLane_order] at hj
    by_cases h : j = l
    · rw [h, State.setOrder_order_self] at hj; cases hj
    · rw [order j h] at hj
      obtain ⟨m, hm, hml⟩ := hunsent j o hj hu
      exact ⟨m, (hmem m).mpr ⟨hm, by rw [hml]; exact h⟩, hml⟩
  · show (t.orderQueue.map OrderMsg.lane).Nodup
    rw [hq]
    exact hnodup.sublist (List.filter_sublist.map _)

/-- A lane whose order was sent is settled (R45, R47). -/
theorem removeSent_ordersSound {l : Fin 32} {f : Lane → Lane} {s : State} (hs : OrdersSound s) {o : Outstanding} (ho : s.order l = some o)
    (hsent : o.sent = true) (hc : (f (s.lane l)).committed = none)
    (hoff : (f (s.lane l)).state = .off → (f (s.lane l)).planned = none) : OrdersSound ((s.setOrder l none).updLane l f) := by
  have hqueue := hs.not_queued (l := l) fun x hx => by rw [ho] at hx; cases hx; exact hsent
  refine removeOrder_ordersSound hs rfl rfl (List.filter_eq_self.mpr fun m hm => decide_eq_true (hqueue m hm)).symm ?_ hc hoff
  obtain ⟨-, -, -, -, hsend⟩ := hs
  exact hsend

/-! ## Re-resolutions (R29) -/

theorem setOwnerField_ordersKept (l : Fin 32) (o : Owner) (s : State) : OrdersKept s (setOwnerField l o s) := by
  refine .trans ?_ (setOwnerField_avails l o s).ordersKept
  unfold ownerReplaced
  refine .ite (.refl s) (.trans ?_ (raise_ports ..).ordersKept)
  exact updLane_ordersKept _ _ _ rfl fun hs hoff => hs.off hoff

/-- A lane in OFF is not one in which an owner's target needs a transition (R29). -/
theorem Lane.not_acts_of_off {L : Lane} (h : L.state = .off) (o : Owner) : ¬L.Acts o := by
  rintro (hrun | ⟨hfault, -⟩) <;> simp_all

theorem reresolve_ordersKept (c : ResolveCause) (l : Fin 32) (s : State) : OrdersKept s (reresolve c l s) := by
  refine ⟨fun hs => ?_⟩
  have hfield := (setOwnerField_ordersKept l (resolve s l none).1 s).sound hs
  have hlane := setOwnerField_lane_self l (resolve s l none).1 s
  by_cases h : (s.lane l).Commits (resolve s l none).1 (resolve s l none).2 c
  · rw [reresolve_commits h]
    obtain ⟨hacts, -, -, hc⟩ := h
    exact commit_ordersSound _ _ _ _ _ hfield (by rw [hlane]; exact hc) fun hoff =>
      Lane.not_acts_of_off (by rw [hlane] at hoff; exact hoff) _ hacts
  · obtain ⟨P, heq, hidle, -⟩ := reresolve_plans h
    rw [heq]
    refine (updLane_ordersKept _ _ _ rfl fun hs' hoff => ⟨(hs'.off hoff).1, ?_⟩).sound hfield
    rw [hlane] at hoff
    show P = none
    rw [hidle (Lane.not_acts_of_off hoff _), Lane.planLessOwner, (hs.off hoff).2]
    rfl

theorem reresolveLanes_ordersKept (c : ResolveCause) (f : Fin 32 → Bool) (s : State) : OrdersKept s (reresolveLanes c f s) :=
  foldl_ordersKept _ (fun s l => .ite (reresolve_ordersKept c l s) (.refl s)) _ s

theorem windowChange_ordersKept (m : LaneSet) (s : State) : OrdersKept s (windowChange m s) := reresolveLanes_ordersKept ..

theorem alertChange_ordersKept (z : ZoneSet) (s : State) : OrdersKept s (alertChange z s) := reresolveLanes_ordersKept ..

/-! ## The fabric's answers and the acknowledgement timer (R45, R48, R49) -/

theorem settleOrder_ordersSound {l : Fin 32} {o : Outstanding} {s : State} (hs : OrdersSound s) (ho : s.order l = some o)
    (hsent : o.sent = true) : OrdersSound (settleOrder l o s) := by
  refine (tellSource_ports ..).ordersKept.sound (removeSent_ordersSound hs ho hsent rfl fun hoff => ?_)
  exact (hs.off hoff).2

theorem endStop_committed (l : Fin 32) (k : StepKind) (s : State) : ((endStop l k s).lane l).committed = (s.lane l).committed := by
  unfold endStop; split
  · rw [setLaneState_updLane, raise_lane, State.updLane_lane_self]
  · rfl

theorem endStop_ordersSound (l : Fin 32) (k : StepKind) {s : State} (hs : OrdersSound s) (hc : (s.lane l).committed = none) :
    OrdersSound (endStop l k s) := by
  unfold endStop; split
  · rw [setLaneState_updLane]
    exact (raise_ports ..).ordersKept.sound ((updLane_ordersKept l _ s rfl fun _ _ => ⟨hc, rfl⟩).sound hs)
  · exact hs

theorem handlePlanned_ordersSound (l : Fin 32) {s : State} (hs : OrdersSound s) (hc : (s.lane l).committed = none) :
    OrdersSound (handlePlanned l s) := by
  unfold handlePlanned; dsimp only; split
  · exact hs
  · rename_i P hP
    have hst : (s.lane l).state ≠ .off := fun hoff => by rw [(hs.off hoff).2] at hP; cases hP
    have hcommit (k : StepKind) (x : Source) (e : Tick) (a : Option Handle) : OrdersSound (commit l k x e a s) :=
      commit_ordersSound l k x e a hs hc hst
    split
    · split
      · exact (updLane_ordersKept _ _ _ rfl fun _ _ => ⟨hc, rfl⟩).sound hs
      · exact hcommit ..
    · exact hcommit ..
    all_goals
      split
      · exact (reportCommitted_avails ..).ordersKept.sound (hcommit ..)
      · exact hcommit ..

theorem orderDone_ordersSound {l : Fin 32} {o : Outstanding} {s : State} (hs : OrdersSound s) (ho : s.order l = some o)
    (hsent : o.sent = true) : OrdersSound (orderDone l o s) := by
  have hc : ((settleOrder l o s).lane l).committed = none := by rw [settleOrder_lane_self]; rfl
  have hstop := endStop_ordersSound l o.kind (settleOrder_ordersSound hs ho hsent) hc
  rw [orderDone_eq]
  split
  · refine handlePlanned_ordersSound l ((stepDone_avails ..).ordersKept.sound hstop) ?_
    rw [(stepDone_avails ..).lane, endStop_committed, hc]
  · exact handlePlanned_ordersSound l hstop (by rw [endStop_committed, hc])

/-- A lane fault for an order whose record and message are gone (R49). -/
theorem laneFault_ordersSound {l : Fin 32} {o : Outstanding} {r : FaultReason} {c : Option FabricCode} {s : State}
    (hs : OrdersSound (s.updLane l fun L => L.struck o.target r)) : OrdersSound (laneFault l o r c s) := by
  have hfallen := (finishLane_avails l .missed .fault _).ordersKept.sound ((tellFault_ports l o r c (s.lane l) _).ordersKept.sound hs)
  rw [laneFault_eq]; dsimp only; split
  · exact (reresolve_ordersKept ..).sound hfallen
  · exact hfallen

theorem matched_eq_some {l : Fin 32} {seq : Byte} {s : State} {o : Outstanding} (h : matched l seq s = some o) :
    s.order l = some o ∧ o.seq = seq ∧ o.sent = true := by
  unfold matched at h; split at h
  · rename_i x hx
    split at h
    · rename_i hmatch; cases h; exact ⟨hx, hmatch⟩
    · cases h
  · cases h

theorem takeDone_ordersKept (l : Fin 32) (seq : Byte) (s : State) : OrdersKept s (takeDone l seq s) := by
  refine ⟨fun hs => ?_⟩
  unfold takeDone; split
  · rename_i o hm
    obtain ⟨ho, -, hsent⟩ := matched_eq_some hm
    exact orderDone_ordersSound hs ho hsent
  · exact (OrdersKept.of_tables rfl rfl rfl rfl).sound hs

theorem takeFault_ordersKept (l : Fin 32) (seq : Byte) (c : FabricCode) (s : State) : OrdersKept s (takeFault l seq c s) := by
  refine ⟨fun hs => ?_⟩
  unfold takeFault; split
  · rename_i o hm
    obtain ⟨ho, -, hsent⟩ := matched_eq_some hm
    exact laneFault_ordersSound (removeSent_ordersSound hs ho hsent rfl fun _ => rfl)
  · exact (OrdersKept.of_tables rfl rfl rfl rfl).sound hs

theorem dropOrder_lanes (l : Fin 32) (s : State) : (dropOrder l s).lanes = s.lanes := by
  unfold dropOrder; dsimp only; split <;> rfl

theorem dropOrder_outstanding (l : Fin 32) (s : State) : (dropOrder l s).outstanding = s.outstanding := by
  unfold dropOrder; dsimp only; split <;> rfl

theorem dropOrder_orderQueue (l : Fin 32) (s : State) :
    (dropOrder l s).orderQueue = s.orderQueue.filter fun m => decide (m.lane ≠ l) := by
  unfold dropOrder; dsimp only; split <;> rfl

/-- After an unsent order left the queue, a send still has a message (R39, R48). -/
theorem dropOrder_sending {l : Fin 32} {s : State} (hs : s.sending.isSome = true → s.orderQueue ≠ []) :
    (dropOrder l s).sending.isSome = true → (dropOrder l s).orderQueue ≠ [] := by
  intro hsend
  rw [dropOrder_orderQueue]
  unfold dropOrder at hsend; dsimp only at hsend; split at hsend
  · unfold sendNext at hsend; dsimp only at hsend
    split at hsend
    · cases hsend
    · rename_i hne; exact hne
  · rename_i hnot
    cases hq : s.orderQueue with
    | nil => exact (hs hsend hq).elim
    | cons m rest =>
      have hm : m.lane ≠ l := by
        intro h
        unfold beingSent at hnot
        rw [hsend, hq, ← h] at hnot
        simp at hnot
      simp [hm]

theorem takeAckExpiry_ordersKept (l : Fin 32) (s : State) : OrdersKept s (takeAckExpiry l s) := by
  refine ⟨fun hs => ?_⟩
  unfold takeAckExpiry; split
  · rename_i o ho
    split
    · refine laneFault_ordersSound ?_
      split
      · rename_i hsent
        exact removeSent_ordersSound hs ho hsent rfl fun _ => rfl
      · refine removeOrder_ordersSound hs (dropOrder_lanes l s) (dropOrder_outstanding l s) (dropOrder_orderQueue l s)
          (dropOrder_sending ?_) rfl fun _ => rfl
        obtain ⟨-, -, -, -, hsend⟩ := hs
        exact hsend
    · exact hs
  · exact hs

/-! ## Sends (R39) -/

theorem startSend_ordersKept (s : State) : OrdersKept s (startSend s) := by
  refine ⟨fun hs => ?_⟩
  unfold startSend; split
  · rename_i m rest _ hq
    obtain ⟨hlane, hmsg, hunsent, hnodup, -⟩ := hs
    exact ⟨hlane, hmsg, hunsent, hnodup, fun _ => by rw [hq]; simp⟩
  · exact hs

theorem endSend_ordersKept (s : State) : OrdersKept s (endSend s) := by
  refine ⟨fun hs => ?_⟩
  unfold endSend; split
  · rename_i b m rest hb hq
    split
    · exact hs
    · obtain ⟨hlane, hmsg, hunsent, hnodup, -⟩ := hs
      rw [hq, List.map_cons, List.nodup_cons] at hnodup
      have hrest : ∀ x ∈ rest, x.lane ≠ m.lane := fun x hx h => hnodup.1 (h ▸ List.mem_map_of_mem hx)
      unfold markSent
      refine ⟨fun j => ?_, fun x hx => ?_, fun j o ho hu => ?_, hnodup.2, fun h => ?_⟩
      · rw [State.setOrder_order, State.setOrder_lane]; split
        · rename_i h; subst h
          obtain ⟨hagree, hoff⟩ := hlane m.lane
          exact ⟨by rw [Option.map_map]; exact hagree, hoff⟩
        · exact hlane j
      · have hmem : x ∈ s.orderQueue := by rw [hq]; exact List.mem_cons_of_mem _ hx
        unfold MessageSound
        rw [State.setOrder_order, if_neg (hrest x hx)]; exact hmsg x hmem
      · rw [State.setOrder_order] at ho; split at ho
        · obtain ⟨y, -, rfl⟩ := Option.map_eq_some_iff.mp ho
          cases hu
        · rename_i hj
          obtain ⟨x, hx, hxl⟩ := hunsent j o ho hu
          rw [hq] at hx
          rcases List.mem_cons.mp hx with rfl | hx
          · exact (hj hxl.symm).elim
          · exact ⟨x, hx, hxl⟩
      · intro hnil
        rw [State.setOrder_sending] at h
        unfold sendNext at h
        rw [State.setOrder_orderQueue] at hnil
        have hidle : (if rest = [] then none else some s.tick : Option Tick) = none := if_pos hnil
        change (if rest = [] then none else some s.tick : Option Tick).isSome = true at h
        rw [hidle] at h
        cases h
  · exact hs

/-! ## Commit points (R34, R35) -/

/-- What an out commit point comes to: a final avail, or an OUT order for a lane in RUN that has none (R34, R124). -/
theorem outCommit_takes (i : Fin 64) (s : State) :
    (∃ st r, ({ state := st } : Avail).final = true ∧ outCommit i s = finish i st r s) ∨
      ((s.lane (s.avail i).lane).state = .run ∧ (s.lane (s.avail i).lane).committed = none ∧ ∃ h, (s.avail i).holder = some h ∧
        outCommit i s = reresolve .ordinary (s.avail i).lane
          ((commit (s.avail i).lane .out h.source (s.avail i).outTick (some (s.handleOf i)) s).updAvail i fun a =>
            { a with state := .out })) := by
  unfold outCommit; dsimp only
  split
  · exact .inl ⟨_, _, rfl, rfl⟩
  split
  · exact .inl ⟨_, _, rfl, rfl⟩
  rename_i hrun
  split
  · exact .inl ⟨_, _, rfl, rfl⟩
  split
  · exact .inl ⟨_, _, rfl, rfl⟩
  split
  · exact .inl ⟨_, _, rfl, rfl⟩
  split
  · exact .inl ⟨_, _, rfl, rfl⟩
  rename_i h hh
  split
  · exact .inl ⟨_, _, rfl, rfl⟩
  rename_i hfree
  split
  · exact .inl ⟨_, _, rfl, rfl⟩
  refine .inr ⟨not_not.mp hrun, ?_, h, hh, rfl⟩
  rw [not_or] at hfree
  simpa using hfree.2

theorem outCommit_ordersKept (i : Fin 64) (s : State) : OrdersKept s (outCommit i s) := by
  refine ⟨fun hs => ?_⟩
  rcases outCommit_takes i s with ⟨st, r, -, e⟩ | ⟨hrun, hc, h, -, e⟩ <;> rw [e]
  · exact (finish_avails ..).ordersKept.sound hs
  · have hcommit := commit_ordersSound (s.avail i).lane .out h.source (s.avail i).outTick (some (s.handleOf i)) hs hc
      (by rw [hrun]; decide)
    exact (reresolve_ordersKept ..).sound ((updAvail_avails ..).ordersKept.sound hcommit)

theorem requestStep_ordersKept (l : Fin 32) (b : Bool) (h : Handle) (T : Tick) (s : State) : OrdersKept s (requestStep l b h T s).2 := by
  refine ⟨fun hs => ?_⟩
  unfold requestStep; dsimp only; split
  · rename_i hrun
    have hst : (s.lane l).state ≠ .off := by rw [hrun]; decide
    split
    · rename_i hc; exact commit_ordersSound _ _ _ _ _ hs hc hst
    · exact (updLane_ordersKept _ _ _ rfl fun _ hoff => (hst hoff).elim).sound hs
  · exact hs

theorem fillCommit_ordersKept (i : Fin 64) (f : Tick) (s : State) : OrdersKept s (fillCommit i f s) := by
  unfold fillCommit; dsimp only; split
  · exact (requestStep_ordersKept ..).trans (reportCommitted_avails ..).ordersKept
  · exact (requestStep_ordersKept ..).trans (updAvail_avails ..).ordersKept
  · exact requestStep_ordersKept ..

theorem inCommit_ordersKept (i : Fin 64) (s : State) : OrdersKept s (inCommit i s) := by
  have hgo (x : State) (l : Fin 32) (f : Avail → Avail) : OrdersKept x (reresolve .ordinary l (x.updAvail i f)) :=
    (updAvail_avails ..).ordersKept.trans (reresolve_ordersKept ..)
  unfold inCommit; dsimp only; split
  · exact ((requestStep_ordersKept ..).trans (hgo ..)).trans (reportCommitted_avails ..).ordersKept
  · exact (requestStep_ordersKept ..).trans (hgo ..)
  · exact requestStep_ordersKept ..

/-! ## Requests (R21, R22, R25, R166, R176) -/

theorem setLaneState_ordersKept (l : Fin 32) {x : LaneState} (s : State) (hx : x ≠ .off) : OrdersKept s (setLaneState l x s) :=
  .trans (updLane_ordersKept l _ s rfl fun _ hoff => (hx hoff).elim) (raiseLaneState_ports ..).ordersKept

theorem setLaneState_lane_self (l : Fin 32) (x : LaneState) (s : State) : (setLaneState l x s).lane l = { s.lane l with state := x } := by
  unfold setLaneState; rw [(raiseLaneState_ports ..).avails.lane, State.updLane_lane_self]

theorem enableLane_ordersKept (l : Fin 32) (s : State) (hoff : (s.lane l).state = .off) : OrdersKept s (enableLane l s) := by
  refine ⟨fun hs => ?_⟩
  unfold enableLane; dsimp only
  refine (reresolve_ordersKept ..).sound (commit_ordersSound _ _ _ _ _ ?_ ?_ ?_)
  · exact ((updLane_ordersKept l _ s rfl fun hs h => hs.off h).trans (setLaneState_ordersKept l _ (by decide))).sound hs
  · rw [setLaneState_lane_self, State.updLane_lane_self]; exact (hs.off hoff).1
  · rw [setLaneState_lane_self]; exact fun h => nomatch h

theorem prepareStop_ordersKept (l : Fin 32) (s : State) (hst : (s.lane l).state ≠ .off) : OrdersKept s (prepareStop l s) := by
  refine ⟨fun hs => ?_⟩
  unfold prepareStop; dsimp only; split
  · rename_i hc; exact commit_ordersSound _ _ _ _ _ hs hc hst
  · exact (updLane_ordersKept _ _ _ rfl fun _ hoff => (hst hoff).elim).sound hs

theorem disableLane_ordersKept (l : Fin 32) (s : State) : OrdersKept s (disableLane l s) := by
  have hstopping : OrdersKept s (setLaneState l .stopping (s.updLane l fun L => { L with planned := none })) :=
    .trans (updLane_ordersKept _ _ _ rfl fun hs h => ⟨(hs.off h).1, rfl⟩) (setLaneState_ordersKept l _ (by decide))
  have hstop := (hstopping.trans (finishLane_avails l .cancelled .laneOff _).ordersKept).trans (prepareStop_ordersKept l _ (by
    rw [(finishLane_avails ..).lane, setLaneState_lane_self]; exact fun h => nomatch h))
  unfold disableLane
  exact .ite (hstop.trans (reresolve_ordersKept ..)) hstop

theorem enableConsequence_ordersKept (l : Fin 32) (a b : Bool) (s : State) : OrdersKept s (enableConsequence l a b s) := by
  unfold enableConsequence; split
  · rename_i hoff; exact enableLane_ordersKept l s hoff
  · exact disableLane_ordersKept l s
  · exact disableLane_ordersKept l s
  · exact .refl s

theorem acceptLane_ordersKept (l : Fin 32) (c : LaneConfig) (s : State) : OrdersKept s (acceptLane l c s) := by
  have h : OrdersKept s (enableConsequence l (s.lane l).cfg.enable c.enable
      (s.updLane l fun L => { L with cfg := c, revision := L.revision + 1 })) :=
    .trans (updLane_ordersKept _ _ _ rfl fun hs hoff => hs.off hoff) (enableConsequence_ordersKept ..)
  unfold acceptLane
  exact .ite h (h.trans (reresolve_ordersKept ..))

theorem writeLaneAct_ordersKept (r : RawLane) (s : State) : OrdersKept s (writeLaneAct r s).state := by
  unfold writeLaneAct; split
  · exact .refl s
  · split
    · exact .refl s
    · exact .refl s
    · exact acceptLane_ordersKept ..

theorem laneResetAct_ordersKept (b : Byte) (s : State) : OrdersKept s (laneResetAct b s).state := by
  unfold laneResetAct; split
  · exact .refl s
  · split
    · refine .trans (.trans ?_ (setLaneState_ordersKept _ _ (by decide))) (reresolve_ordersKept ..)
      exact updLane_ordersKept _ _ _ rfl fun hs hoff => hs.off hoff
    · exact .refl s

theorem updWindow_ordersKept (w : Fin 16) (f : Window → Window) (s : State) : OrdersKept s (s.updWindow w f) :=
  .of_tables rfl rfl rfl rfl

theorem acceptWindow_ordersKept (w : Fin 16) (cfg : WindowConfig) (s : State) : OrdersKept s (acceptWindow w cfg s) := by
  have hconsequence (old : Window) (x : State) : OrdersKept x (windowConsequence w old x) := by
    unfold windowConsequence
    exact .ite ((raise_ports ..).ordersKept.trans (windowChange_ordersKept ..))
      (.ite ((raise_ports ..).ordersKept.trans (windowChange_ordersKept ..)) (.ite (raise_ports ..).ordersKept (.refl x)))
  unfold acceptWindow
  exact .ite ((updWindow_ordersKept ..).trans (hconsequence ..)) (updWindow_ordersKept ..)

theorem writeWindowAct_ordersKept (r : RawWindow) (s : State) : OrdersKept s (writeWindowAct r s).state := by
  unfold writeWindowAct; split
  · exact .refl s
  · dsimp only; split
    · exact .refl s
    · exact acceptWindow_ordersKept ..

theorem beginAlert_ordersKept (a : Fin 4) (A : Alert) (c : BeginCause) (s : State) : OrdersKept s (beginAlert a A c s) :=
  .of_tables rfl rfl rfl rfl

theorem endAlert_ordersKept (a : Fin 4) (A : Alert) (r : EndReason) (e : Option (Fin 4)) (s : State) :
    OrdersKept s (endAlert a A r e s) := .of_tables rfl rfl rfl rfl

theorem startAlert_ordersKept (A : Alert) (s : State) : OrdersKept s (startAlert A s).state := by
  unfold startAlert; split
  · exact (beginAlert_ordersKept ..).trans (alertChange_ordersKept ..)
  · split
    · exact (beginAlert_ordersKept ..).trans (alertChange_ordersKept ..)
    · split
      · exact .refl s
      · split
        · exact .refl s
        · exact ((endAlert_ordersKept ..).trans (beginAlert_ordersKept ..)).trans (alertChange_ordersKept ..)

theorem alertStartAct_ordersKept (p : Fin 4) (r : RawAlert) (s : State) : OrdersKept s (alertStartAct p r s).state := by
  unfold alertStartAct; split
  · exact .refl s
  · exact startAlert_ordersKept ..

theorem alertEndAct_ordersKept (p : Fin 4) (b : Byte) (s : State) : OrdersKept s (alertEndAct p b s).state := by
  unfold alertEndAct; split
  · exact .refl s
  · split
    · exact .refl s
    · split
      · exact .refl s
      · exact (endAlert_ordersKept ..).trans (alertChange_ordersKept ..)

theorem takeAlertExpiry_ordersKept (a : Fin 4) (s : State) : OrdersKept s (takeAlertExpiry a s) := by
  unfold takeAlertExpiry; split
  · exact .ite ((endAlert_ordersKept ..).trans (alertChange_ordersKept ..)) (.refl s)
  · exact .refl s

theorem takeRequest_ordersKept (p : Fin 4) (r : Req) (act : State → Answer) (hact : ∀ x, OrdersKept x (act x).state) (s : State) :
    OrdersKept s (takeRequest p r act s) :=
  takeRequest_keeps OrdersKept (fun _ _ => PortsOnly.ordersKept) (fun _ _ _ => .trans) p r act hact s

/-! ## The clock and every command -/

theorem takeBoundary_ordersKept (s : State) : OrdersKept s (takeBoundary s) := by
  unfold takeBoundary
  refine .ite ?_ (.refl s)
  rw [windowBoundary_eq]
  refine .trans (.trans ?_ (raiseAll_ports ..).ordersKept) (foldl_ordersKept _ (fun _ _ => windowChange_ordersKept ..) _ _)
  exact .of_tables rfl rfl rfl rfl

theorem sweep_ordersKept {n : Nat} (take : Fin n → State → State) (h : ∀ i s, OrdersKept s (take i s)) (s : State) :
    OrdersKept s (sweep take s) := sweep_keeps OrdersKept .refl (fun _ _ _ => .trans) take h s

theorem takeOutCommit_ordersKept (i : Fin 64) (s : State) : OrdersKept s (takeOutCommit i s) := .ite (outCommit_ordersKept i s) (.refl s)

theorem takeFillCommit_ordersKept (i : Fin 64) (s : State) : OrdersKept s (takeFillCommit i s) := by
  unfold takeFillCommit; split
  · exact .ite (fillCommit_ordersKept ..) (.refl s)
  · exact .refl s

theorem takeInCommit_ordersKept (i : Fin 64) (s : State) : OrdersKept s (takeInCommit i s) := .ite (inCommit_ordersKept i s) (.refl s)

theorem settleTick_ordersKept (s : State) : OrdersKept s (settleTick s) := by
  unfold settleTick
  refine .trans ?_ (startSend_ordersKept _)
  refine .trans ?_ (sweep_ordersKept _ takeInCommit_ordersKept _)
  refine .trans ?_ (sweep_ordersKept _ takeFillCommit_ordersKept _)
  refine .trans ?_ (sweep_ordersKept _ takeOutCommit_ordersKept _)
  refine .trans ?_ (sweep_ordersKept _ (fun i s => (takeClaimClose_avails i s).ordersKept) _)
  refine .trans ?_ (sweep_ordersKept _ takeAckExpiry_ordersKept _)
  refine .trans ?_ (sweep_ordersKept _ (fun p s => (takeQuietExpiry_ports p s).ordersKept) _)
  refine .trans ?_ (sweep_ordersKept _ takeAlertExpiry_ordersKept _)
  exact (takeBoundary_ordersKept s).trans (sweep_ordersKept _ (fun n s => (takeSettle_array n s).scheduleKept.ordersKept) _)

theorem advanceTick_ordersKept (s : State) : OrdersKept s (advanceTick s) := .of_tables rfl rfl rfl rfl

theorem exec_ordersKept (c : Instr) (s t : State) (h : exec c s = .next t) : OrdersKept s t := by
  cases hc : setsSchedule c
  · exact (exec_scheduleKept c s t hc h).ordersKept
  · cases c <;> first | (cases hc; done) | (have ht := Host.Outcome.next.inj h; subst ht)
    case powerOnReset => exact ⟨fun _ => released_ordersSound ..⟩
    case secondBoundary => exact takeBoundary_ordersKept s
    case writeLane => exact takeRequest_ordersKept _ _ _ (writeLaneAct_ordersKept _) s
    case laneReset => exact takeRequest_ordersKept _ _ _ (laneResetAct_ordersKept _) s
    case orderSendStart => exact startSend_ordersKept s
    case orderSendEnd => exact endSend_ordersKept s
    case done => exact takeDone_ordersKept _ _ s
    case fault => exact takeFault_ordersKept _ _ _ s
    case ackTimerExpiry => exact takeAckExpiry_ordersKept _ s
    case outCommitPoint => exact takeOutCommit_ordersKept _ s
    case fillCommitPoint => exact takeFillCommit_ordersKept _ s
    case inCommitPoint => exact takeInCommit_ordersKept _ s
    case writeWindow => exact takeRequest_ordersKept _ _ _ (writeWindowAct_ordersKept _) s
    case alertStart => exact takeRequest_ordersKept _ _ _ (alertStartAct_ordersKept _ _) s
    case alertEnd => exact takeRequest_ordersKept _ _ _ (alertEndAct_ordersKept _ _) s
    case alertExpiry => exact takeAlertExpiry_ordersKept _ s
    case stationTick => exact (settleTick_ordersKept s).trans (advanceTick_ordersKept _)

end Sys2Proof.Machine
end

section
/-! Lanes and orders: every command keeps the order link sound. -/

namespace Sys2Proof.Certificates

open Sys2Proof.Machine

/-- A step keeps an invariant of the part that every command keeps and that does not speak of the commands which wait. -/
theorem step_keeps (I : State → Prop) (hpending : ∀ s q, I s → I { s with pending := q })
    (hexec : ∀ c s t, exec c s = .next t → I s → I t) (s t : State) (hs : I s) (hstep : step s = .next t) : I t := by
  unfold step at hstep; split at hstep
  · cases hstep; exact hs
  · exact hexec _ _ _ hstep (hpending _ _ hs)

/-- Settles O38: what every command does to lanes and orders keeps them sound. -/
theorem ordersSoundKept : Obligations.OrdersSoundKept :=
  step_keeps OrdersSound (fun _ _ => (OrdersKept.of_tables rfl rfl rfl rfl).sound) fun c s t h => (exec_ordersKept c s t h).sound

end Sys2Proof.Certificates
end

section
/-! SUPPORT. The bounds of request fields, and what fields within them spell (R198): for each reader of Machine/Operands.lean when it answers
nothing, and what it answers. -/

namespace Sys2Proof.Machine

/-! ## Numbers and flags -/

/-- A chain of checks refuses where its first check or the rest of it does. -/
theorem bind_eq_none_or {α β : Type} {x : Option α} {f : α → Option β} {A B : Prop} (hx : x = none ↔ A)
    (hf : ∀ a, x = some a → (f a = none ↔ B)) : (x >>= f) = none ↔ A ∨ B := by
  cases x with
  | none => exact ⟨fun _ => .inl (hx.mp rfl), fun _ => rfl⟩
  | some a =>
    have hA : ¬A := fun h => nomatch hx.mpr h
    exact (hf a rfl).trans ⟨.inr, fun h => h.resolve_left hA⟩

theorem toFin_eq_none {n : Nat} {b : Byte} : toFin n b = none ↔ n ≤ b.toNat := by
  unfold toFin; split <;> simp <;> omega

theorem toFin_eq_some {n : Nat} {b : Byte} {i : Fin n} : toFin n b = some i ↔ b.toNat = i.val := by
  unfold toFin; split
  · rw [Option.some.injEq, Fin.ext_iff]
  · rename_i h
    exact ⟨fun e => (nomatch e), fun e => (h (by rw [e]; exact i.isLt)).elim⟩

theorem toFlag_eq_none {b : Byte} : toFlag b = none ↔ 2 ≤ b.toNat := by
  unfold toFlag
  match b.toNat with
  | 0 | 1 => simp
  | n + 2 => simp

theorem toFlag_eq_some {b : Byte} {x : Bool} (h : toFlag b = some x) : x = decide (b.toNat = 1) := by
  unfold toFlag at h; split at h <;> simp_all

theorem within_eq_none {lo hi n : Nat} : within lo hi n = none ↔ n < lo ∨ hi < n := by
  unfold within; split <;> simp <;> omega

theorem within_eq_some {lo hi n m : Nat} (h : within lo hi n = some m) : m = n ∧ lo ≤ n ∧ n ≤ hi := by
  unfold within at h; split at h
  · rename_i hin; cases h; exact ⟨rfl, hin⟩
  · cases h

theorem check_eq_none {r : OptField Byte} : OptField.check some r = none ↔ r.undefinedPresent = true := by
  cases r <;> simp [OptField.check, OptField.undefinedPresent]

theorem check_eq_some {r : OptField Byte} {e : Option Byte} (h : OptField.check some r = some e) : OptSpells r e := by
  cases r with
  | absent => cases h; exact .inl ⟨rfl, rfl⟩
  | given v => cases h; exact .inr ⟨v, rfl, rfl⟩
  | undefinedPresence p => cases h

/-! ## Cadences and the fields of WRITE LANE (R15, R18) -/

theorem cadenceOf_eq_getElem (b : Byte) : cadenceOf b = [Cadence.c25, .c2997, .c30, .c50, .c5994, .c60][b.toNat]? := by
  unfold cadenceOf; split
  any_goals (rename_i h; rw [h]; rfl)
  rename_i h0 h1 h2 h3 h4 h5
  have hlong : 6 ≤ b.toNat := by
    by_contra hlt
    interval_cases b.toNat <;> simp_all
  exact (List.getElem?_eq_none hlong).symm

theorem cadenceOf_eq_none {b : Byte} : cadenceOf b = none ↔ 6 ≤ b.toNat := by rw [cadenceOf_eq_getElem]; simp

/-- The period of a cadence code (R5). -/
theorem period_of_cadenceOf {b : Byte} {c : Cadence} (h : cadenceOf b = some c) :
    [7200, 6006, 6000, 3600, 3003, 3000][b.toNat]? = some (period c) := by
  have hmap : [7200, 6006, 6000, 3600, 3003, 3000] = [Cadence.c25, .c2997, .c30, .c50, .c5994, .c60].map period := rfl
  rw [cadenceOf_eq_getElem] at h
  rw [hmap, List.getElem?_map, h]; rfl

/-- The bounds of the phase, where its cadence is one (R15). -/
theorem phase_eq_none {b : Byte} {c : Cadence} {n : Nat} (h : cadenceOf b = some c) :
    within 0 (period c - 1) n = none ↔ ∃ m, [7200, 6006, 6000, 3600, 3003, 3000][b.toNat]? = some m ∧ m ≤ n := by
  have hpos := period_pos c
  simp only [within_eq_none, period_of_cadenceOf h, Option.some.injEq, exists_eq_left']
  omega

/-- A field of WRITE LANE outside its range, or an undefined presence byte (R15; log entry 15). -/
def LaneFieldsOut (r : RawLane) : Prop :=
  32 ≤ r.lane.toNat ∨ 2 ≤ r.enable.toNat ∨ 32 ≤ r.feed.toNat ∨ 16 ≤ r.zone.toNat ∨ 6 ≤ r.cadence.toNat ∨
    (∃ n, [7200, 6006, 6000, 3600, 3003, 3000][r.cadence.toNat]? = some n ∧ n ≤ r.phase.toNat) ∨ 1800000 < r.pathDelay.toNat ∨
    r.claimLead.toNat < 90000 ∨ 1800000 < r.claimLead.toNat ∨ 180000 < r.lateGrace.toNat ∨ r.ceiling.toNat < 1 ∨
    3600 < r.ceiling.toNat ∨ r.ackGrace.toNat < 1800 ∨ 180000 < r.ackGrace.toNat ∨ r.expected.undefinedPresent = true

/-- A bound below which no number lies. -/
theorem within_zero_eq_none {hi n : Nat} : within 0 hi n = none ↔ hi < n := by rw [within_eq_none]; omega

theorem laneWriteOf_eq_none (r : RawLane) : laneWriteOf r = none ↔ LaneFieldsOut r := by
  unfold LaneFieldsOut
  refine bind_eq_none_or toFin_eq_none fun _ _ => bind_eq_none_or toFlag_eq_none fun _ _ => bind_eq_none_or toFin_eq_none fun _ _ =>
    bind_eq_none_or toFin_eq_none fun _ _ => bind_eq_none_or cadenceOf_eq_none fun _ hc => bind_eq_none_or (phase_eq_none hc) fun _ _ =>
    bind_eq_none_or within_zero_eq_none fun _ _ => ?_
  rw [← or_assoc]
  refine bind_eq_none_or within_eq_none fun _ _ => bind_eq_none_or within_zero_eq_none fun _ _ => ?_
  rw [← or_assoc]
  refine bind_eq_none_or within_eq_none fun _ _ => ?_
  rw [← or_assoc]
  refine bind_eq_none_or within_eq_none fun _ _ => ?_
  rw [← or_false (r.expected.undefinedPresent = true)]
  exact bind_eq_none_or check_eq_none fun _ _ => ⟨fun h => (nomatch h), False.elim⟩

/-- What fields of WRITE LANE within range spell (R198), and their ranges (R15). -/
structure LaneFieldsSpell (r : RawLane) (l : Fin 32) (cfg : LaneConfig) (e : Option Byte) : Prop where
  lane : l.val = r.lane.toNat
  enable : cfg.enable = decide (r.enable.toNat = 1)
  feed : cfg.feed.val = r.feed.toNat
  zone : cfg.zone.val = r.zone.toNat
  cadence : [Cadence.c25, .c2997, .c30, .c50, .c5994, .c60][r.cadence.toNat]? = some cfg.cadence
  phase : cfg.phase = r.phase.toNat
  pathDelay : cfg.pathDelay = r.pathDelay.toNat
  claimLead : cfg.claimLead = r.claimLead.toNat
  lateGrace : cfg.lateGrace = r.lateGrace.toNat
  ceiling : cfg.ceiling = r.ceiling.toNat
  ackGrace : cfg.ackGrace = r.ackGrace.toNat
  expected : OptSpells r.expected e
  sound : LaneConfigSound cfg

theorem laneWriteOf_eq_some {r : RawLane} {l : Fin 32} {cfg : LaneConfig} {e : Option Byte} (h : laneWriteOf r = some (l, cfg, e)) :
    LaneFieldsSpell r l cfg e := by
  unfold laneWriteOf at h
  simp only [Option.bind_eq_bind, Option.bind_eq_some_iff, Option.pure_def, Option.some.injEq, Prod.mk.injEq] at h
  obtain ⟨lane, hlane, enable, henable, feed, hfeed, zone, hzone, cadence, hcadence, phase, hphase, pathDelay, hpath, claimLead, hlead,
    lateGrace, hgrace, ceiling, hceiling, ackGrace, hack, expected, hexpected, rfl, rfl, rfl⟩ := h
  obtain ⟨rfl, -, phase_le⟩ := within_eq_some hphase
  obtain ⟨rfl, -, path_le⟩ := within_eq_some hpath
  obtain ⟨rfl, lead_ge, lead_le⟩ := within_eq_some hlead
  obtain ⟨rfl, -, grace_le⟩ := within_eq_some hgrace
  obtain ⟨rfl, ceiling_ge, ceiling_le⟩ := within_eq_some hceiling
  obtain ⟨rfl, ack_ge, ack_le⟩ := within_eq_some hack
  have hpos := period_pos cadence
  exact {
    lane := (toFin_eq_some.mp hlane).symm, enable := toFlag_eq_some henable, feed := (toFin_eq_some.mp hfeed).symm
    zone := (toFin_eq_some.mp hzone).symm, cadence := by rw [← hcadence, cadenceOf_eq_getElem], phase := rfl, pathDelay := rfl
    claimLead := rfl, lateGrace := rfl, ceiling := rfl, ackGrace := rfl, expected := check_eq_some hexpected
    sound := ⟨by dsimp only; omega, path_le, lead_ge, lead_le, grace_le, ceiling_ge, ceiling_le, ack_ge, ack_le⟩ }

/-! ## Sources (R198) -/

/-- What a source code spells. -/
theorem sourceOf_cases (b : Byte) :
    (b.toNat = 0 ∧ sourceOf b = some .net) ∨ (b.toNat = 17 ∧ sourceOf b = some .alertA) ∨ (b.toNat = 18 ∧ sourceOf b = some .alertB) ∨
      (b.toNat = 19 ∧ sourceOf b = some .fill) ∨ (∃ n : Fin 16, b.toNat = n.val + 1 ∧ sourceOf b = some (.ins n)) ∨
      (19 < b.toNat ∧ sourceOf b = none) := by
  unfold sourceOf; split
  · rename_i h; exact .inl ⟨h, rfl⟩
  · rename_i h; exact .inr (.inl ⟨h, rfl⟩)
  · rename_i h; exact .inr (.inr (.inl ⟨h, rfl⟩))
  · rename_i h; exact .inr (.inr (.inr (.inl ⟨h, rfl⟩)))
  · rename_i h0 h17 h18 h19
    split
    · rename_i h; exact .inr (.inr (.inr (.inr (.inl ⟨⟨b.toNat - 1, by omega⟩, by dsimp only; omega, rfl⟩))))
    · rename_i h
      have hne : b.toNat ≠ 0 ∧ b.toNat ≠ 17 ∧ b.toNat ≠ 18 ∧ b.toNat ≠ 19 := ⟨h0, h17, h18, h19⟩
      exact .inr (.inr (.inr (.inr (.inr ⟨by omega, rfl⟩))))

/-- What a source code of a claim or a window spells (R141, R157). -/
theorem spotSourceOf_cases (b : Byte) :
    (SpotSourceOut b ∧ spotSourceOf b = none) ∨ ∃ x, ¬SpotSourceOut b ∧ SpotSourceSpells b x ∧ spotSourceOf b = some x := by
  unfold spotSourceOf SpotSourceOut SpotSourceSpells
  rcases sourceOf_cases b with ⟨h, e⟩ | ⟨h, e⟩ | ⟨h, e⟩ | ⟨h, e⟩ | ⟨n, h, e⟩ | ⟨h, e⟩ <;> rw [e]
  · exact .inl ⟨by omega, rfl⟩
  · exact .inl ⟨by omega, rfl⟩
  · exact .inl ⟨by omega, rfl⟩
  · exact .inr ⟨_, by omega, .inl ⟨h, rfl⟩, rfl⟩
  · exact .inr ⟨_, by omega, .inr ⟨n, h, rfl⟩, rfl⟩
  · exact .inl ⟨by omega, rfl⟩

theorem spotSourceOf_eq_none {b : Byte} : spotSourceOf b = none ↔ SpotSourceOut b := by
  rcases spotSourceOf_cases b with ⟨h, e⟩ | ⟨x, h, -, e⟩ <;> rw [e]
  · exact ⟨fun _ => h, fun _ => rfl⟩
  · exact ⟨fun e => (nomatch e), fun e => (h e).elim⟩

theorem spotSourceOf_eq_some {b : Byte} {x : Source} (hx : spotSourceOf b = some x) : SpotSourceSpells b x := by
  rcases spotSourceOf_cases b with ⟨-, e⟩ | ⟨y, -, h, e⟩ <;> rw [e] at hx <;> cases hx
  exact h

/-- What a source code of an alert spells (R172). -/
theorem alertSourceOf_cases (b : Byte) :
    (b.toNat = 17 ∧ alertSourceOf b = some .alertA) ∨ (b.toNat = 18 ∧ alertSourceOf b = some .alertB) ∨
      ((b.toNat ≠ 17 ∧ b.toNat ≠ 18) ∧ alertSourceOf b = none) := by
  unfold alertSourceOf
  rcases sourceOf_cases b with ⟨h, e⟩ | ⟨h, e⟩ | ⟨h, e⟩ | ⟨h, e⟩ | ⟨n, h, e⟩ | ⟨h, e⟩ <;> rw [e]
  · exact .inr (.inr ⟨by omega, rfl⟩)
  · exact .inl ⟨h, rfl⟩
  · exact .inr (.inl ⟨h, rfl⟩)
  · exact .inr (.inr ⟨by omega, rfl⟩)
  · exact .inr (.inr ⟨by omega, rfl⟩)
  · exact .inr (.inr ⟨by omega, rfl⟩)

theorem alertSourceOf_eq_none {b : Byte} : alertSourceOf b = none ↔ b.toNat ≠ 17 ∧ b.toNat ≠ 18 := by
  rcases alertSourceOf_cases b with ⟨h, e⟩ | ⟨h, e⟩ | ⟨h, e⟩ <;> rw [e] <;> simp [h]

theorem alertSourceOf_eq_some {b : Byte} {x : Source} (hx : alertSourceOf b = some x) :
    (b.toNat = 17 ∧ x = .alertA) ∨ (b.toNat = 18 ∧ x = .alertB) := by
  rcases alertSourceOf_cases b with ⟨h, e⟩ | ⟨h, e⟩ | ⟨h, e⟩ <;> rw [e] at hx <;> cases hx
  · exact .inl ⟨h, rfl⟩
  · exact .inr ⟨h, rfl⟩

/-! ## The fields of WRITE WINDOW (R157, R164) -/

theorem windowTypeOf_eq_getElem (b : Byte) : windowTypeOf b = [WindowType.insert, .blackout][b.toNat]? := by
  unfold windowTypeOf
  match b.toNat with
  | 0 | 1 => rfl
  | n + 2 => rfl

theorem windowTypeOf_eq_none {b : Byte} : windowTypeOf b = none ↔ 1 < b.toNat := by rw [windowTypeOf_eq_getElem]; simp

theorem eq_255_iff {b : Byte} : b = 255 ↔ b.toNat = 255 := ⟨fun h => by rw [h]; rfl, fun h => BitVec.eq_of_toNat_eq h⟩

/-- A start field is refused above its highest value, unless it is ANY (R157, R198). -/
theorem start_eq_none {hi : Nat} {b : Byte} : anyOr (fun b => within 0 hi b.toNat) b = none ↔ hi < b.toNat ∧ b.toNat ≠ 255 := by
  unfold anyOr; split
  · rename_i h; simp [eq_255_iff.mp h]
  · rename_i h
    rw [Option.map_eq_none_iff, within_zero_eq_none]
    exact ⟨fun hlt => ⟨hlt, fun e => h (eq_255_iff.mpr e)⟩, And.left⟩

/-- A start field spells ANY, or a value up to its highest one (R157, R198). -/
theorem start_eq_some {hi : Nat} {b : Byte} {x : Option Nat} (hx : anyOr (fun b => within 0 hi b.toNat) b = some x) :
    (x = if b.toNat = 255 then none else some b.toNat) ∧ ∀ h ∈ x, h ≤ hi := by
  unfold anyOr at hx; split at hx
  · rename_i h; cases hx
    rw [if_pos (eq_255_iff.mp h)]; simp
  · rename_i h
    obtain ⟨n, hn, rfl⟩ := Option.map_eq_some_iff.mp hx
    obtain ⟨rfl, -, hle⟩ := within_eq_some hn
    rw [if_neg fun e => h (eq_255_iff.mpr e)]
    simpa using hle

/-- A field of WRITE WINDOW outside its range, or an undefined presence byte (R157; log entry 15). -/
def WindowFieldsOut (r : RawWindow) : Prop :=
  15 < r.window.toNat ∨ 1 < r.enable.toNat ∨ 1 < r.type.toNat ∨ 127 < r.days.toNat ∨
    (23 < r.hour.toNat ∧ r.hour.toNat ≠ 255) ∨ (59 < r.minute.toNat ∧ r.minute.toNat ≠ 255) ∨
    (59 < r.second.toNat ∧ r.second.toNat ≠ 255) ∨ r.duration.toNat < 1 ∨ 86400 < r.duration.toNat ∨ SpotSourceOut r.source ∨
    r.expected.undefinedPresent = true

theorem windowWriteOf_eq_none (r : RawWindow) : windowWriteOf r = none ↔ WindowFieldsOut r := by
  unfold WindowFieldsOut
  refine bind_eq_none_or toFin_eq_none fun _ _ => bind_eq_none_or toFlag_eq_none fun _ _ => bind_eq_none_or windowTypeOf_eq_none
    fun _ _ => bind_eq_none_or within_zero_eq_none fun _ _ => bind_eq_none_or start_eq_none fun _ _ => bind_eq_none_or start_eq_none
    fun _ _ => bind_eq_none_or start_eq_none fun _ _ => ?_
  rw [← or_assoc]
  refine bind_eq_none_or within_eq_none fun _ _ => bind_eq_none_or spotSourceOf_eq_none fun _ _ => ?_
  rw [← or_false (r.expected.undefinedPresent = true)]
  exact bind_eq_none_or check_eq_none fun _ _ => ⟨fun h => (nomatch h), False.elim⟩

/-- A window's configuration within R157's ranges. -/
def WindowConfigSound (c : WindowConfig) : Prop :=
  (∀ h ∈ c.hour, h ≤ 23) ∧ (∀ m ∈ c.minute, m ≤ 59) ∧ (∀ x ∈ c.second, x ≤ 59) ∧
    (c.source = .fill ∨ ∃ n, c.source = .ins n) ∧ 1 ≤ c.duration ∧ c.duration ≤ 86400

/-- What fields of WRITE WINDOW within range spell (R198), and their ranges (R157). -/
structure WindowFieldsSpell (r : RawWindow) (w : Fin 16) (cfg : WindowConfig) (e : Option Byte) : Prop where
  window : w.val = r.window.toNat
  enable : cfg.enable = decide (r.enable.toNat = 1)
  type : [WindowType.insert, .blackout][r.type.toNat]? = some cfg.type
  days : cfg.days.toNat = r.days.toNat
  hour : cfg.hour = if r.hour.toNat = 255 then none else some r.hour.toNat
  minute : cfg.minute = if r.minute.toNat = 255 then none else some r.minute.toNat
  second : cfg.second = if r.second.toNat = 255 then none else some r.second.toNat
  duration : cfg.duration = r.duration.toNat
  lanes : cfg.lanes = r.lanes
  source : SpotSourceSpells r.source cfg.source
  expected : OptSpells r.expected e
  sound : WindowConfigSound cfg

theorem windowWriteOf_eq_some {r : RawWindow} {w : Fin 16} {cfg : WindowConfig} {e : Option Byte}
    (h : windowWriteOf r = some (w, cfg, e)) : WindowFieldsSpell r w cfg e := by
  unfold windowWriteOf at h
  simp only [Option.bind_eq_bind, Option.bind_eq_some_iff, Option.pure_def, Option.some.injEq, Prod.mk.injEq] at h
  obtain ⟨window, hwindow, enable, henable, type, htype, days, hdays, hour, hhour, minute, hminute, second, hsecond, duration, hduration,
    source, hsource, expected, hexpected, rfl, rfl, rfl⟩ := h
  obtain ⟨rfl, -, days_le⟩ := within_eq_some hdays
  obtain ⟨hour_eq, hour_le⟩ := start_eq_some hhour
  obtain ⟨minute_eq, minute_le⟩ := start_eq_some hminute
  obtain ⟨second_eq, second_le⟩ := start_eq_some hsecond
  obtain ⟨rfl, duration_ge, duration_le⟩ := within_eq_some hduration
  have hspells := spotSourceOf_eq_some hsource
  exact {
    window := (toFin_eq_some.mp hwindow).symm, enable := toFlag_eq_some henable, type := by rw [← htype, windowTypeOf_eq_getElem]
    days := by rw [BitVec.toNat_ofNat]; exact Nat.mod_eq_of_lt (by omega)
    hour := hour_eq, minute := minute_eq, second := second_eq, duration := rfl, lanes := rfl, source := hspells
    expected := check_eq_some hexpected
    sound := ⟨hour_le, minute_le, second_le, hspells.imp And.right fun ⟨n, _, e⟩ => ⟨n, e⟩, duration_ge, duration_le⟩ }

/-! ## The fields of ALERT START (R172) -/

/-- A field of ALERT START outside its range (R172). -/
def AlertFieldsOut (r : RawAlert) : Prop :=
  r.id.toNat < 1 ∨ r.level.toNat < 1 ∨ 3 < r.level.toNat ∨ r.zones = 0 ∨ (r.source.toNat ≠ 17 ∧ r.source.toNat ≠ 18) ∨
    r.duration.toNat < 1 ∨ 7200 < r.duration.toNat

theorem id_eq_none {b : Byte} : within 1 255 b.toNat = none ↔ b.toNat < 1 := by
  have hb : b.toNat < 256 := b.isLt
  rw [within_eq_none]; omega

theorem alertOf_eq_none (r : RawAlert) : alertOf r = none ↔ AlertFieldsOut r := by
  have hzones : AlertFieldsOut r ↔ r.id.toNat < 1 ∨ (r.level.toNat < 1 ∨ 3 < r.level.toNat) ∨
      (r.source.toNat ≠ 17 ∧ r.source.toNat ≠ 18) ∨ (r.duration.toNat < 1 ∨ 7200 < r.duration.toNat) ∨ r.zones = 0 := by
    unfold AlertFieldsOut; tauto
  rw [hzones]
  refine bind_eq_none_or id_eq_none fun _ _ => bind_eq_none_or within_eq_none fun _ _ => bind_eq_none_or alertSourceOf_eq_none fun _ _ =>
    bind_eq_none_or within_eq_none fun _ _ => ?_
  split
  · rename_i h; exact ⟨fun _ => h, fun _ => rfl⟩
  · rename_i h; exact ⟨fun e => (nomatch e), fun e => (h e).elim⟩

theorem alertOf_eq_some {r : RawAlert} {level seconds : Nat} {x : Source} (h : alertOf r = some (level, x, seconds)) :
    level = r.level.toNat ∧ seconds = r.duration.toNat ∧
      ((r.source.toNat = 17 ∧ x = .alertA) ∨ (r.source.toNat = 18 ∧ x = .alertB)) := by
  unfold alertOf at h
  simp only [Option.bind_eq_bind, Option.bind_eq_some_iff] at h
  obtain ⟨id, -, lvl, hlevel, source, hsource, duration, hduration, h⟩ := h
  split at h
  · cases h
  · obtain ⟨rfl, -, -⟩ := within_eq_some hlevel
    obtain ⟨rfl, -, -⟩ := within_eq_some hduration
    cases h
    exact ⟨rfl, rfl, alertSourceOf_eq_some hsource⟩

end Sys2Proof.Machine
end

section
/-! SUPPORT. The configurations of the lanes (R15) and the windows (R157, R158): who writes them, and that what is written is in range. -/

namespace Sys2Proof

open Sys2Proof.Machine

/-- No lane's configuration and no window differs. -/
structure ConfigsKept (s t : State) : Prop where
  cfg : ∀ l, (t.lane l).cfg = (s.lane l).cfg
  windows : t.windows = s.windows

theorem ConfigsKept.refl (s : State) : ConfigsKept s s := ⟨fun _ => rfl, rfl⟩
theorem ConfigsKept.trans {s t u : State} (h : ConfigsKept s t) (g : ConfigsKept t u) : ConfigsKept s u :=
  ⟨fun l => (g.cfg l).trans (h.cfg l), g.windows.trans h.windows⟩

theorem ConfigsKept.ite {s t u : State} {c : Prop} [Decidable c] (h : ConfigsKept s t) (g : ConfigsKept s u) :
    ConfigsKept s (if c then t else u) := by
  split
  · exact h
  · exact g

theorem ConfigsKept.of_tables {s t : State} (hl : t.lanes = s.lanes) (hw : t.windows = s.windows) : ConfigsKept s t :=
  ⟨fun l => by unfold State.lane; rw [hl], hw⟩

theorem ScheduleKept.configsKept {s t : State} (h : ScheduleKept s t) : ConfigsKept s t := by
  obtain ⟨hl, -, -, -, hw, -⟩ := scheduleKept_iff.mp h
  exact .of_tables hl hw

theorem PortsOnly.configsKept {s t : State} (h : PortsOnly s t) : ConfigsKept s t := h.scheduleKept.configsKept
theorem AvailsOnly.configsKept {s t : State} (h : AvailsOnly s t) : ConfigsKept s t := h.scheduleKept.configsKept

/-- What a re-resolution and its parts can do leaves the configurations. -/
theorem Resolves.configsKept {s t : State} (h : Resolves s t) (hb : BreakOnly s t) : ConfigsKept s t :=
  ⟨fun l => congrArg Prod.fst (h.lanes l), hb.windows⟩

theorem ConfigsKept.lanesSound {s t : State} (h : ConfigsKept s t) (hs : LanesSound s) : LanesSound t := fun l => by
  rw [h.cfg]; exact hs l

theorem ConfigsKept.windowsSound {s t : State} (h : ConfigsKept s t) (hs : WindowsSound s) : WindowsSound t := fun w => by
  rw [window_eq_of_windows h.windows]; exact hs w

/-- Lanes' configurations and windows stay sound. -/
structure SoundKept (s t : State) : Prop where
  lanes : LanesSound s → LanesSound t
  windows : WindowsSound s → WindowsSound t

theorem ConfigsKept.soundKept {s t : State} (h : ConfigsKept s t) : SoundKept s t := ⟨h.lanesSound, h.windowsSound⟩

theorem SoundKept.trans {s t u : State} (h : SoundKept s t) (g : SoundKept t u) : SoundKept s u :=
  ⟨g.lanes ∘ h.lanes, g.windows ∘ h.windows⟩

end Sys2Proof

namespace Sys2Proof.Machine

/-! ## Transitions and outcomes of orders -/

theorem updLane_configsKept (l : Fin 32) (f : Lane → Lane) (s : State) (hf : (f (s.lane l)).cfg = (s.lane l).cfg) :
    ConfigsKept s (s.updLane l f) := by
  refine ⟨fun j => ?_, rfl⟩
  rw [State.updLane_lane]; split
  · rename_i h; rw [hf, h]
  · rfl

theorem setOrder_configsKept (l : Fin 32) (o : Option Outstanding) (s : State) : ConfigsKept s (s.setOrder l o) := .of_tables rfl rfl

theorem commit_configsKept (l : Fin 32) (k : StepKind) (x : Source) (e : Tick) (a : Option Handle) (s : State) :
    ConfigsKept s (commit l k x e a s) := (commit_resolves ..).configsKept (commit_break ..)

theorem reresolve_configsKept (c : ResolveCause) (l : Fin 32) (s : State) : ConfigsKept s (reresolve c l s) :=
  (reresolve_resolves c l s).configsKept (reresolve_break c l s)

theorem windowChange_configsKept (m : LaneSet) (s : State) : ConfigsKept s (windowChange m s) :=
  (windowChange_resolves m s).configsKept (windowChange_break m s)

theorem alertChange_configsKept (z : ZoneSet) (s : State) : ConfigsKept s (alertChange z s) :=
  (alertChange_resolves z s).configsKept (alertChange_break z s)

theorem setLaneState_configsKept (l : Fin 32) (x : LaneState) (s : State) : ConfigsKept s (setLaneState l x s) :=
  (updLane_configsKept l _ s rfl).trans (raiseLaneState_ports ..).configsKept

theorem endStop_configsKept (l : Fin 32) (k : StepKind) (s : State) : ConfigsKept s (endStop l k s) :=
  .ite ((updLane_configsKept l _ s rfl).trans (setLaneState_configsKept ..)) (.refl s)

theorem handlePlanned_configsKept (l : Fin 32) (s : State) : ConfigsKept s (handlePlanned l s) := by
  unfold handlePlanned; dsimp only; split
  · exact .refl s
  · split
    · exact .ite (updLane_configsKept _ _ _ rfl) (commit_configsKept ..)
    · exact commit_configsKept ..
    all_goals
      split
      · exact (commit_configsKept ..).trans (reportCommitted_avails ..).configsKept
      · exact commit_configsKept ..

theorem settleOrder_configsKept (l : Fin 32) (o : Outstanding) (s : State) : ConfigsKept s (settleOrder l o s) :=
  ((setOrder_configsKept l none s).trans (updLane_configsKept l _ _ rfl)).trans (tellSource_ports ..).configsKept

theorem orderDone_configsKept (l : Fin 32) (o : Outstanding) (s : State) : ConfigsKept s (orderDone l o s) := by
  have hstop := (settleOrder_configsKept l o s).trans (endStop_configsKept l o.kind _)
  rw [orderDone_eq]
  refine .trans ?_ (handlePlanned_configsKept ..)
  split
  · exact hstop.trans (stepDone_avails ..).configsKept
  · exact hstop

theorem laneFault_configsKept (l : Fin 32) (o : Outstanding) (r : FaultReason) (c : Option FabricCode) (s : State) :
    ConfigsKept s (laneFault l o r c s) := by
  have hfallen := ((updLane_configsKept l (fun L => L.struck o.target r) s rfl).trans
    (tellFault_ports l o r c (s.lane l) _).configsKept).trans (finishLane_avails l .missed .fault _).configsKept
  rw [laneFault_eq]
  exact .ite (hfallen.trans (reresolve_configsKept ..)) hfallen

theorem takeDone_configsKept (l : Fin 32) (seq : Byte) (s : State) : ConfigsKept s (takeDone l seq s) := by
  unfold takeDone; split
  · exact orderDone_configsKept ..
  · exact .of_tables rfl rfl

theorem takeFault_configsKept (l : Fin 32) (seq : Byte) (c : FabricCode) (s : State) : ConfigsKept s (takeFault l seq c s) := by
  unfold takeFault; split
  · exact (setOrder_configsKept ..).trans (laneFault_configsKept ..)
  · exact .of_tables rfl rfl

theorem dropOrder_configsKept (l : Fin 32) (s : State) : ConfigsKept s (dropOrder l s) := .ite (.of_tables rfl rfl) (.of_tables rfl rfl)

theorem takeAckExpiry_configsKept (l : Fin 32) (s : State) : ConfigsKept s (takeAckExpiry l s) := by
  unfold takeAckExpiry; split
  · refine .ite (.trans (.trans ?_ (setOrder_configsKept ..)) (laneFault_configsKept ..)) (.refl s)
    exact .ite (.refl s) (dropOrder_configsKept l s)
  · exact .refl s

theorem startSend_configsKept (s : State) : ConfigsKept s (startSend s) := by
  unfold startSend; split <;> exact .of_tables rfl rfl

theorem endSend_configsKept (s : State) : ConfigsKept s (endSend s) := by
  unfold endSend; split
  · exact .ite (.refl s) (.of_tables rfl rfl)
  · exact .refl s

/-! ## Commit points -/

theorem outCommit_configsKept (i : Fin 64) (s : State) : ConfigsKept s (outCommit i s) := by
  rcases outCommit_cases i s with ⟨st, r, -, e⟩ | ⟨l, x, T, a, e⟩ <;> rw [e]
  · exact (finish_avails ..).configsKept
  · exact ((commit_configsKept ..).trans (updAvail_avails ..).configsKept).trans (reresolve_configsKept ..)

theorem requestStep_configsKept (l : Fin 32) (b : Bool) (h : Handle) (T : Tick) (s : State) :
    ConfigsKept s (requestStep l b h T s).2 := (requestStep_resolves ..).configsKept (requestStep_break ..)

theorem fillCommit_configsKept (i : Fin 64) (f : Tick) (s : State) : ConfigsKept s (fillCommit i f s) := by
  unfold fillCommit; dsimp only; split
  · exact (requestStep_configsKept ..).trans (reportCommitted_avails ..).configsKept
  · exact (requestStep_configsKept ..).trans (updAvail_avails ..).configsKept
  · exact requestStep_configsKept ..

theorem inCommit_configsKept (i : Fin 64) (s : State) : ConfigsKept s (inCommit i s) := by
  have hgo (x : State) (l : Fin 32) (f : Avail → Avail) : ConfigsKept x (reresolve .ordinary l (x.updAvail i f)) :=
    (updAvail_avails ..).configsKept.trans (reresolve_configsKept ..)
  unfold inCommit; dsimp only; split
  · exact ((requestStep_configsKept ..).trans (hgo ..)).trans (reportCommitted_avails ..).configsKept
  · exact (requestStep_configsKept ..).trans (hgo ..)
  · exact requestStep_configsKept ..

theorem takeOutCommit_configsKept (i : Fin 64) (s : State) : ConfigsKept s (takeOutCommit i s) :=
  .ite (outCommit_configsKept i s) (.refl s)

theorem takeFillCommit_configsKept (i : Fin 64) (s : State) : ConfigsKept s (takeFillCommit i s) := by
  unfold takeFillCommit; split
  · exact .ite (fillCommit_configsKept ..) (.refl s)
  · exact .refl s

theorem takeInCommit_configsKept (i : Fin 64) (s : State) : ConfigsKept s (takeInCommit i s) :=
  .ite (inCommit_configsKept i s) (.refl s)

/-! ## Alerts and LANE RESET -/

theorem beginAlert_configsKept (a : Fin 4) (A : Alert) (c : BeginCause) (s : State) : ConfigsKept s (beginAlert a A c s) :=
  .of_tables rfl rfl

theorem endAlert_configsKept (a : Fin 4) (A : Alert) (r : EndReason) (e : Option (Fin 4)) (s : State) :
    ConfigsKept s (endAlert a A r e s) := .of_tables rfl rfl

theorem startAlert_configsKept (A : Alert) (s : State) : ConfigsKept s (startAlert A s).state := by
  unfold startAlert; split
  · exact (beginAlert_configsKept ..).trans (alertChange_configsKept ..)
  · split
    · exact (beginAlert_configsKept ..).trans (alertChange_configsKept ..)
    · split
      · exact .refl s
      · split
        · exact .refl s
        · exact ((endAlert_configsKept ..).trans (beginAlert_configsKept ..)).trans (alertChange_configsKept ..)

theorem alertStartAct_configsKept (p : Fin 4) (r : RawAlert) (s : State) : ConfigsKept s (alertStartAct p r s).state := by
  unfold alertStartAct; split
  · exact .refl s
  · exact startAlert_configsKept ..

theorem alertEndAct_configsKept (p : Fin 4) (b : Byte) (s : State) : ConfigsKept s (alertEndAct p b s).state := by
  unfold alertEndAct; split
  · exact .refl s
  · split
    · exact .refl s
    · split
      · exact .refl s
      · exact (endAlert_configsKept ..).trans (alertChange_configsKept ..)

theorem takeAlertExpiry_configsKept (a : Fin 4) (s : State) : ConfigsKept s (takeAlertExpiry a s) := by
  unfold takeAlertExpiry; split
  · exact .ite ((endAlert_configsKept ..).trans (alertChange_configsKept ..)) (.refl s)
  · exact .refl s

theorem laneResetAct_configsKept (b : Byte) (s : State) : ConfigsKept s (laneResetAct b s).state := by
  unfold laneResetAct; split
  · exact .refl s
  · split
    · exact ((updLane_configsKept _ _ _ rfl).trans (setLaneState_configsKept ..)).trans (reresolve_configsKept ..)
    · exact .refl s

/-! ## WRITE LANE (R18) -/

theorem enableLane_configsKept (l : Fin 32) (s : State) : ConfigsKept s (enableLane l s) :=
  (((updLane_configsKept l _ s rfl).trans (setLaneState_configsKept ..)).trans (commit_configsKept ..)).trans (reresolve_configsKept ..)

theorem prepareStop_configsKept (l : Fin 32) (s : State) : ConfigsKept s (prepareStop l s) := by
  unfold prepareStop; dsimp only; split
  · exact commit_configsKept ..
  · exact updLane_configsKept _ _ _ rfl

theorem disableLane_configsKept (l : Fin 32) (s : State) : ConfigsKept s (disableLane l s) := by
  have hstop := (((updLane_configsKept l (fun L => { L with planned := none }) s rfl).trans (setLaneState_configsKept l .stopping _)).trans
    (finishLane_avails l .cancelled .laneOff _).configsKept).trans (prepareStop_configsKept l _)
  unfold disableLane
  exact .ite (hstop.trans (reresolve_configsKept ..)) hstop

theorem enableConsequence_configsKept (l : Fin 32) (a b : Bool) (s : State) : ConfigsKept s (enableConsequence l a b s) := by
  unfold enableConsequence; split
  · exact enableLane_configsKept ..
  · exact disableLane_configsKept ..
  · exact disableLane_configsKept ..
  · exact .refl s

/-- After its new configuration is written, an accepted WRITE LANE writes no other one (R18). -/
theorem acceptLane_configsKept (l : Fin 32) (cfg : LaneConfig) (s : State) :
    ConfigsKept (s.updLane l fun L => { L with cfg, revision := L.revision + 1 }) (acceptLane l cfg s) := by
  unfold acceptLane
  exact .ite (enableConsequence_configsKept ..) ((enableConsequence_configsKept ..).trans (reresolve_configsKept ..))

theorem writeLaneAct_lanesSound (r : RawLane) {s : State} (hs : LanesSound s) : LanesSound (writeLaneAct r s).state := by
  unfold writeLaneAct; split
  · exact hs
  · rename_i l cfg e hr
    split
    · exact hs
    · exact hs
    · refine (acceptLane_configsKept l cfg s).lanesSound fun j => ?_
      rw [State.updLane_lane]; split
      · exact (laneWriteOf_eq_some hr).sound
      · exact hs j

/-! ## Windows (R160, R165) -/

/-- A window's run state as R158 lets it stand. -/
def Window.RunSound (W : Window) : Prop :=
  if W.isOpen then W.cfg.enable = true ∧ 1 ≤ W.remaining ∧ W.remaining ≤ 86400 else W.remaining = 0

theorem windowSound_iff (W : Window) : WindowSound W ↔ WindowConfigSound W.cfg ∧ W.RunSound := by
  unfold WindowSound WindowConfigSound Window.RunSound; tauto

theorem Window.counted_runSound {W : Window} (h : W.RunSound) : W.counted.RunSound := by
  unfold Window.counted; split
  · exact h
  · rename_i hopen
    have hopen : W.isOpen = true := by simpa using hopen
    rw [Window.RunSound, if_pos hopen] at h
    obtain ⟨hon, hpos, hle⟩ := h
    split
    · rfl
    · rename_i hmore
      rw [Window.RunSound, if_pos (by exact hopen)]
      exact ⟨hon, by dsimp only; omega, by dsimp only; omega⟩

/-- A treated window stays sound: an opened one takes its own duration (R160). -/
theorem Window.treated_sound {W : Window} (h : WindowSound W) (c : Calendar) : WindowSound (W.treated c) := by
  obtain ⟨hcfg, hrun⟩ := (windowSound_iff W).mp h
  refine (windowSound_iff _).mpr ⟨by rw [Window.treated_cfg]; exact hcfg, ?_⟩
  obtain ⟨-, -, -, -, hpos, hle⟩ := hcfg
  unfold Window.treated; split
  · exact hrun
  · rename_i hon
    split
    · exact ⟨by dsimp only; rw [Window.counted_cfg]; simpa using hon, hpos, hle⟩
    · exact Window.counted_runSound hrun

/-- A written window stays sound: an open one keeps no more seconds than its new duration (R165, R166). -/
theorem Window.written_sound {W : Window} (h : WindowSound W) {cfg : WindowConfig} (hcfg : WindowConfigSound cfg) :
    WindowSound (W.written cfg) := by
  obtain ⟨-, hrun⟩ := (windowSound_iff W).mp h
  rw [windowSound_iff]
  unfold Window.written; split
  · rename_i hshut
    rw [Window.RunSound, if_neg (by simp [hshut])] at hrun
    exact ⟨hcfg, by rw [Window.RunSound, if_neg (by simp [hshut])]; exact hrun⟩
  · rename_i hopen
    have hopen : W.isOpen = true := by simpa using hopen
    rw [Window.RunSound, if_pos hopen] at hrun
    obtain ⟨-, hpos, hle⟩ := hrun
    split
    · exact ⟨hcfg, rfl⟩
    · rename_i hon
      refine ⟨hcfg, ?_⟩
      obtain ⟨-, -, -, -, hduration, -⟩ := hcfg
      rw [Window.RunSound, if_pos (by exact hopen)]
      exact ⟨by simpa using hon, by dsimp only; omega, by dsimp only; omega⟩

/-- A second boundary treats every window and writes no lane's configuration (R160). -/
theorem takeBoundary_window (s : State) (w : Fin 16) :
    (takeBoundary s).window w = if s.boundaryDue then (s.window w).treated s.calendar.advance else s.window w := by
  unfold takeBoundary; split
  · rw [window_eq_of_windows (windowBoundary_windows _), treatWindows_window]; rfl
  · rfl

theorem takeBoundary_windowsSound {s : State} (hs : WindowsSound s) : WindowsSound (takeBoundary s) := fun w => by
  rw [takeBoundary_window]; split
  · exact Window.treated_sound (hs w) _
  · exact hs w

theorem takeBoundary_lanesSound {s : State} (hs : LanesSound s) : LanesSound (takeBoundary s) := fun l => by
  have hcfg : ((takeBoundary s).lane l).cfg = (s.lane l).cfg := congrArg Prod.fst ((takeBoundary_resolves s).lanes l)
  rw [hcfg]; exact hs l

theorem windowConsequence_configsKept (w : Fin 16) (old : Window) (s : State) : ConfigsKept s (windowConsequence w old s) := by
  unfold windowConsequence
  exact .ite ((raise_ports ..).configsKept.trans (windowChange_configsKept ..))
    (.ite ((raise_ports ..).configsKept.trans (windowChange_configsKept ..)) (.ite (raise_ports ..).configsKept (.refl s)))

/-- After its new record is written, an accepted WRITE WINDOW writes no configuration (R164). -/
theorem acceptWindow_configsKept (w : Fin 16) (cfg : WindowConfig) (s : State) :
    ConfigsKept (s.updWindow w fun W => W.written cfg) (acceptWindow w cfg s) := by
  unfold acceptWindow
  exact .ite (windowConsequence_configsKept ..) (.refl _)

theorem writeWindowAct_sound (r : RawWindow) (s : State) :
    (LanesSound s → LanesSound (writeWindowAct r s).state) ∧ (WindowsSound s → WindowsSound (writeWindowAct r s).state) := by
  unfold writeWindowAct; split
  · exact ⟨id, id⟩
  · rename_i w cfg e hr
    dsimp only; split
    · exact ⟨id, id⟩
    · refine ⟨fun hs => (acceptWindow_configsKept w cfg s).lanesSound hs, fun hs =>
        (acceptWindow_configsKept w cfg s).windowsSound fun v => ?_⟩
      rw [State.updWindow_window]; split
      · exact Window.written_sound (hs w) (windowWriteOf_eq_some hr).sound
      · exact hs v

/-! ## The clock and every command -/

theorem sweep_configsKept {n : Nat} (take : Fin n → State → State) (h : ∀ i s, ConfigsKept s (take i s)) (s : State) :
    ConfigsKept s (sweep take s) := sweep_keeps ConfigsKept .refl (fun _ _ _ => .trans) take h s

/-- Only the second boundary of a sweep writes windows (R160). -/
theorem settleTick_configsKept (s : State) : ConfigsKept (takeBoundary s) (settleTick s) := by
  unfold settleTick
  refine .trans ?_ (startSend_configsKept _)
  refine .trans ?_ (sweep_configsKept _ takeInCommit_configsKept _)
  refine .trans ?_ (sweep_configsKept _ takeFillCommit_configsKept _)
  refine .trans ?_ (sweep_configsKept _ takeOutCommit_configsKept _)
  refine .trans ?_ (sweep_configsKept _ (fun i s => (takeClaimClose_avails i s).configsKept) _)
  refine .trans ?_ (sweep_configsKept _ takeAckExpiry_configsKept _)
  refine .trans ?_ (sweep_configsKept _ (fun p s => (takeQuietExpiry_ports p s).configsKept) _)
  refine .trans ?_ (sweep_configsKept _ takeAlertExpiry_configsKept _)
  exact sweep_configsKept _ (fun n s => (takeSettle_array n s).scheduleKept.configsKept) _

theorem advanceTick_configsKept (s : State) : ConfigsKept s (advanceTick s) := .of_tables rfl rfl

theorem takeBoundary_soundKept (s : State) : SoundKept s (takeBoundary s) := ⟨takeBoundary_lanesSound, takeBoundary_windowsSound⟩

theorem takeRequest_soundKept (p : Fin 4) (r : Req) (act : State → Answer) (hact : ∀ x, SoundKept x (act x).state) (s : State) :
    SoundKept s (takeRequest p r act s) :=
  takeRequest_keeps SoundKept (fun _ _ h => h.configsKept.soundKept) (fun _ _ _ => .trans) p r act hact s

theorem released_soundKept (roles : Vector Role 4) (lines : BitVec 24) (q : List Instr) (s : State) :
    SoundKept s (State.released roles lines q) := by
  refine ⟨fun _ l => ?_, fun _ w => ?_⟩
  · rw [released_lane]; decide
  · rw [released_window]; simp [WindowSound]

theorem exec_soundKept (c : Instr) (s t : State) (h : exec c s = .next t) : SoundKept s t := by
  cases hc : setsSchedule c
  · exact (exec_scheduleKept c s t hc h).configsKept.soundKept
  · cases c <;> first | (cases hc; done) | (have ht := Host.Outcome.next.inj h; subst ht)
    case powerOnReset => exact released_soundKept ..
    case secondBoundary => exact takeBoundary_soundKept s
    case writeLane =>
      exact takeRequest_soundKept _ _ _ (fun x => ⟨writeLaneAct_lanesSound _, fun hs w => by
        rw [(writeLaneAct_break ..).window]; exact hs w⟩) s
    case laneReset => exact takeRequest_soundKept _ _ _ (fun x => (laneResetAct_configsKept _ x).soundKept) s
    case orderSendStart => exact (startSend_configsKept s).soundKept
    case orderSendEnd => exact (endSend_configsKept s).soundKept
    case done => exact (takeDone_configsKept _ _ s).soundKept
    case fault => exact (takeFault_configsKept _ _ _ s).soundKept
    case ackTimerExpiry => exact (takeAckExpiry_configsKept _ s).soundKept
    case outCommitPoint => exact (takeOutCommit_configsKept _ s).soundKept
    case fillCommitPoint => exact (takeFillCommit_configsKept _ s).soundKept
    case inCommitPoint => exact (takeInCommit_configsKept _ s).soundKept
    case writeWindow =>
      exact takeRequest_soundKept _ _ _ (fun x => ⟨(writeWindowAct_sound _ x).1, (writeWindowAct_sound _ x).2⟩) s
    case alertStart => exact takeRequest_soundKept _ _ _ (fun x => (alertStartAct_configsKept _ _ x).soundKept) s
    case alertEnd => exact takeRequest_soundKept _ _ _ (fun x => (alertEndAct_configsKept _ _ x).soundKept) s
    case alertExpiry => exact (takeAlertExpiry_configsKept _ s).soundKept
    case stationTick =>
      exact ((takeBoundary_soundKept s).trans (settleTick_configsKept s).soundKept).trans (advanceTick_configsKept _).soundKept

end Sys2Proof.Machine
end

section
/-! Lanes and windows: every command keeps their configurations in range. -/

namespace Sys2Proof.Certificates

open Sys2Proof.Machine

/-- Settles O40: only WRITE LANE, WRITE WINDOW, a second boundary and the reset write a configuration or a window, each within range. -/
theorem lanesAndWindowsSoundKept : Obligations.LanesAndWindowsSoundKept :=
  ⟨step_keeps LanesSound (fun _ _ hs => hs) fun c s t h => (exec_soundKept c s t h).lanes,
    step_keeps WindowsSound (fun _ _ hs => hs) fun c s t h => (exec_soundKept c s t h).windows⟩

end Sys2Proof.Certificates
end

section
/-! Reads of one record, and the refusals of WRITE LANE. -/

namespace Sys2Proof.Machine

/-- A read whose block answers from the state before the frame (R188). -/
theorem exec_read_eq {p : Fin 4} {r : Req} {s : State} (h : Accepts p r s) {act : State → Answer} {code : ReplyCode} {body : ReplyBody}
    (hports : ∀ (x : State) (P : Vector Port 4), (act { x with ports := P }).code = (act x).code ∧
      (act { x with ports := P }).body = (act x).body) (hstate : ∀ x, (act x).state = x)
    (heq : act s = { code, body, state := s }) : takeRequest p r act s = answer p r code body (goodFrame p s) := by
  rw [exec_read h act hports hstate, heq]

section Reads

variable (b : Byte) (h : RawHandle) (x : State) (P : Vector Port 4)

/-! Each read's block reads nothing of the port records. -/

theorem readLaneAct_ports : (readLaneAct b { x with ports := P }).code = (readLaneAct b x).code ∧
    (readLaneAct b { x with ports := P }).body = (readLaneAct b x).body := by
  unfold readLaneAct; cases toFin 32 b <;> exact ⟨rfl, rfl⟩

theorem readFeedAct_ports : (readFeedAct b { x with ports := P }).code = (readFeedAct b x).code ∧
    (readFeedAct b { x with ports := P }).body = (readFeedAct b x).body := by
  unfold readFeedAct; cases toFin 32 b <;> exact ⟨rfl, rfl⟩

theorem readPairAct_ports : (readPairAct b { x with ports := P }).code = (readPairAct b x).code ∧
    (readPairAct b { x with ports := P }).body = (readPairAct b x).body := by
  unfold readPairAct; cases toFin 6 b <;> exact ⟨rfl, rfl⟩

theorem readFilterAct_ports : (readFilterAct b { x with ports := P }).code = (readFilterAct b x).code ∧
    (readFilterAct b { x with ports := P }).body = (readFilterAct b x).body := by
  unfold readFilterAct; cases toFin 48 b <;> exact ⟨rfl, rfl⟩

theorem readLaneAvailsAct_ports : (readLaneAvailsAct b { x with ports := P }).code = (readLaneAvailsAct b x).code ∧
    (readLaneAvailsAct b { x with ports := P }).body = (readLaneAvailsAct b x).body := by
  unfold readLaneAvailsAct; cases toFin 32 b <;> exact ⟨rfl, rfl⟩

theorem readStandingAct_ports : (readStandingAct b { x with ports := P }).code = (readStandingAct b x).code ∧
    (readStandingAct b { x with ports := P }).body = (readStandingAct b x).body := by
  unfold readStandingAct; cases toFin 32 b <;> exact ⟨rfl, rfl⟩

theorem readWindowAct_ports : (readWindowAct b { x with ports := P }).code = (readWindowAct b x).code ∧
    (readWindowAct b { x with ports := P }).body = (readWindowAct b x).body := by
  unfold readWindowAct; cases toFin 16 b <;> exact ⟨rfl, rfl⟩

theorem readAvailAct_ports : (readAvailAct h { x with ports := P }).code = (readAvailAct h x).code ∧
    (readAvailAct h { x with ports := P }).body = (readAvailAct h x).body := by
  have hlookup : lookup h { x with ports := P } = lookup h x := rfl
  unfold readAvailAct; rw [hlookup]; cases lookup h x <;> exact ⟨rfl, rfl⟩

end Reads

/-- The slot that a handle names (R116). -/
theorem lookup_ok {h : RawHandle} {s : State} {i : Fin 64} (hi : h.slot.toNat = i.val) (hst : (s.avail i).state ≠ .empty)
    (hgen : (s.avail i).gen = h.gen) : lookup h s = .ok i := by
  unfold lookup; rw [toFin_eq_some.mpr hi]; exact if_neg (not_or.mpr ⟨hst, not_not.mpr hgen⟩)

theorem lookup_unknown {h : RawHandle} {s : State} {i : Fin 64} (hi : h.slot.toNat = i.val)
    (hne : (s.avail i).state = .empty ∨ (s.avail i).gen ≠ h.gen) : lookup h s = .error .unknown := by
  unfold lookup; rw [toFin_eq_some.mpr hi]; exact if_pos hne

theorem lookup_range {h : RawHandle} {s : State} (hi : 64 ≤ h.slot.toNat) : lookup h s = .error .range := by
  unfold lookup; rw [toFin_eq_none.mpr hi]

/-! ## The refusals of WRITE LANE (R18) -/

/-- An expected revision that is not the present one (R18, check 2). -/
theorem expected_any {e : Option Byte} {r : Byte} : e.any (fun v => decide (v ≠ r)) = true ↔ ∃ v, e = some v ∧ v ≠ r := by
  cases e <;> simp

/-- The grid or the path delay of a lane that is not OFF would change (R18, check 3). -/
def Lane.Regrids (L : Lane) (cfg : LaneConfig) : Prop :=
  L.state ≠ .off ∧ (cfg.cadence ≠ L.cfg.cadence ∨ cfg.phase ≠ L.cfg.phase ∨ cfg.pathDelay ≠ L.cfg.pathDelay)

/-- The refusals of WRITE LANE with fields in range, in their order (R18). -/
theorem laneRefusal_cases (L : Lane) (cfg : LaneConfig) (e : Option Byte) :
    ((∃ v, e = some v ∧ v ≠ L.revision) → laneRefusal L cfg e = some .stale) ∧
    ((¬∃ v, e = some v ∧ v ≠ L.revision) → L.Regrids cfg ∨ (L.state = .stopping ∧ cfg.enable = true) →
      laneRefusal L cfg e = some .busy) ∧
    ((¬∃ v, e = some v ∧ v ≠ L.revision) → ¬L.Regrids cfg → ¬(L.state = .stopping ∧ cfg.enable = true) →
      laneRefusal L cfg e = none) := by
  unfold laneRefusal
  refine ⟨fun h => if_pos (expected_any.mpr h), fun h hbusy => ?_, fun h hgrid hstop => ?_⟩
  · rw [if_neg (expected_any.not.mpr h)]
    rcases hbusy with hgrid | hstop
    · exact if_pos hgrid
    · rw [if_pos hstop]; exact ite_self _
  · exact (if_neg (expected_any.not.mpr h)).trans ((if_neg hgrid).trans (if_neg hstop))

theorem writeLaneAct_range {r : RawLane} (h : laneWriteOf r = none) (s : State) : writeLaneAct r s = refuse .range s := by
  unfold writeLaneAct; rw [h]

theorem writeLaneAct_stale {r : RawLane} {l : Fin 32} {cfg : LaneConfig} {e : Option Byte} (h : laneWriteOf r = some (l, cfg, e))
    {s : State} (hr : laneRefusal (s.lane l) cfg e = some .stale) :
    writeLaneAct r s = { code := .stale, body := .revision (s.lane l).revision, state := s } := by
  unfold writeLaneAct; rw [h]; dsimp only; rw [hr]

theorem writeLaneAct_busy {r : RawLane} {l : Fin 32} {cfg : LaneConfig} {e : Option Byte} (h : laneWriteOf r = some (l, cfg, e))
    {s : State} (hr : laneRefusal (s.lane l) cfg e = some .busy) : writeLaneAct r s = refuse .busy s := by
  unfold writeLaneAct; rw [h]; dsimp only; rw [hr]

theorem writeLaneAct_accepted {r : RawLane} {l : Fin 32} {cfg : LaneConfig} {e : Option Byte} (h : laneWriteOf r = some (l, cfg, e))
    {s : State} (hr : laneRefusal (s.lane l) cfg e = none) :
    writeLaneAct r s = { code := .ok, body := .revision ((s.lane l).revision + 1), state := acceptLane l cfg s } := by
  unfold writeLaneAct; rw [h]; dsimp only; rw [hr]

/-- A request that reaches its block, by what the block answers (R188). -/
theorem takeRequest_eq {p : Fin 4} {r : Req} {s : State} (h : Accepts p r s) {act : State → Answer} {code : ReplyCode}
    {body : ReplyBody} {t : State} (heq : act (goodFrame p s) = { code, body, state := t }) :
    takeRequest p r act s = answer p r code body t := by
  rw [takeRequest_of_accepts h, heq]

end Sys2Proof.Machine

namespace Sys2Proof.Certificates

open Sys2Proof.Machine

/-- Settles O24: each block reads one record and nothing of the port records. -/
theorem readsOfOneRecord : Obligations.ReadsOfOneRecord := by
  intro p b s
  refine ⟨fun h ha => ⟨fun hi => ?_, fun i hi => ⟨fun hne => ?_, fun hst hgen => ?_⟩⟩, fun ha => ⟨fun l hl => ?_, fun hb => ?_⟩,
    fun ha => ⟨fun f hf => ?_, fun hb => ?_⟩, fun ha => ⟨fun k hk => ?_, fun hb => ?_⟩, fun ha => ⟨fun i hi => ?_, fun hb => ?_⟩,
    fun ha => ⟨fun l hl => ?_, fun hb => ?_⟩, fun ha => ⟨fun l hl => ?_, fun hb => ?_⟩, fun ha => ⟨fun w hw => ?_, fun hb => ?_⟩⟩
  · exact congrArg _ (exec_read_eq ha (readAvailAct_ports h) (readAvailAct_state h) (by unfold readAvailAct; rw [lookup_range hi]; rfl))
  · exact congrArg _ (exec_read_eq ha (readAvailAct_ports h) (readAvailAct_state h)
      (by unfold readAvailAct; rw [lookup_unknown hi hne]; rfl))
  · exact congrArg _ (exec_read_eq ha (readAvailAct_ports h) (readAvailAct_state h)
      (by unfold readAvailAct; rw [lookup_ok hi hst hgen]))
  · exact congrArg _ (exec_read_eq ha (readLaneAct_ports b) (readLaneAct_state b) (by unfold readLaneAct; rw [toFin_eq_some.mpr hl]))
  · exact congrArg _ (exec_read_eq ha (readLaneAct_ports b) (readLaneAct_state b)
      (by unfold readLaneAct; rw [toFin_eq_none.mpr hb]; rfl))
  · exact congrArg _ (exec_read_eq ha (readFeedAct_ports b) (readFeedAct_state b)
      (by unfold readFeedAct; rw [toFin_eq_some.mpr hf]; rfl))
  · exact congrArg _ (exec_read_eq ha (readFeedAct_ports b) (readFeedAct_state b)
      (by unfold readFeedAct; rw [toFin_eq_none.mpr hb]; rfl))
  · exact congrArg _ (exec_read_eq ha (readPairAct_ports b) (readPairAct_state b) (by unfold readPairAct; rw [toFin_eq_some.mpr hk]))
  · exact congrArg _ (exec_read_eq ha (readPairAct_ports b) (readPairAct_state b)
      (by unfold readPairAct; rw [toFin_eq_none.mpr hb]; rfl))
  · exact congrArg _ (exec_read_eq ha (readFilterAct_ports b) (readFilterAct_state b)
      (by unfold readFilterAct; rw [toFin_eq_some.mpr hi]))
  · exact congrArg _ (exec_read_eq ha (readFilterAct_ports b) (readFilterAct_state b)
      (by unfold readFilterAct; rw [toFin_eq_none.mpr hb]; rfl))
  · exact congrArg _ (exec_read_eq ha (readLaneAvailsAct_ports b) (readLaneAvailsAct_state b)
      (by unfold readLaneAvailsAct; rw [toFin_eq_some.mpr hl]; rfl))
  · exact congrArg _ (exec_read_eq ha (readLaneAvailsAct_ports b) (readLaneAvailsAct_state b)
      (by unfold readLaneAvailsAct; rw [toFin_eq_none.mpr hb]; rfl))
  · exact congrArg _ (exec_read_eq ha (readStandingAct_ports b) (readStandingAct_state b)
      (by unfold readStandingAct; rw [toFin_eq_some.mpr hl]; rfl))
  · exact congrArg _ (exec_read_eq ha (readStandingAct_ports b) (readStandingAct_state b)
      (by unfold readStandingAct; rw [toFin_eq_none.mpr hb]; rfl))
  · exact congrArg _ (exec_read_eq ha (readWindowAct_ports b) (readWindowAct_state b)
      (by unfold readWindowAct; rw [toFin_eq_some.mpr hw]))
  · exact congrArg _ (exec_read_eq ha (readWindowAct_ports b) (readWindowAct_state b)
      (by unfold readWindowAct; rw [toFin_eq_none.mpr hb]; rfl))

/-- Settles O27: the bounds by the chain of checks, then the refusals in their order. -/
theorem writeLaneRefusals : Obligations.WriteLaneRefusals := by
  intro r
  refine ⟨laneWriteOf_eq_none r, fun l cfg e h => ?_, fun p s ha => ⟨fun hout => ?_, fun l cfg e h => ?_⟩⟩
  · obtain ⟨h1, h2, h3, h4, h5, h6, h7, h8, h9, h10, h11, h12, -⟩ := laneWriteOf_eq_some h
    exact ⟨h1, h2, h3, h4, h5, h6, h7, h8, h9, h10, h11, h12⟩
  · exact congrArg _ (takeRequest_eq ha (writeLaneAct_range ((laneWriteOf_eq_none r).mpr hout) _))
  · obtain ⟨hstale, hbusy, -⟩ := laneRefusal_cases (s.lane l) cfg e
    refine ⟨fun hs => ?_, fun hs hb => ?_⟩
    · have hr : laneRefusal ((goodFrame p s).lane l) cfg e = some .stale := by rw [goodFrame_lane]; exact hstale hs
      have hact := writeLaneAct_stale h hr
      rw [goodFrame_lane] at hact
      exact congrArg _ (takeRequest_eq ha hact)
    · have hr : laneRefusal ((goodFrame p s).lane l) cfg e = some .busy := by rw [goodFrame_lane]; exact hbusy hs hb
      exact congrArg _ (takeRequest_eq ha (writeLaneAct_busy h hr))

end Sys2Proof.Certificates
end

section
/-! SUPPORT. An accepted WRITE LANE (R18, R19), and the planned transition after a re-resolution, kind by kind (R29, R32, R36). -/

namespace Sys2Proof.Machine

/-! ## An accepted WRITE LANE -/

/-- A WRITE LANE that none of R18's checks refuses. -/
theorem exec_writeLane_accepted {p : Fin 4} {r : RawLane} {s : State} {l : Fin 32} {cfg : LaneConfig} {e : Option Byte}
    (ha : Accepts p .writeLane s) (h : laneWriteOf r = some (l, cfg, e)) (he : ∀ v ∈ e, v = (s.lane l).revision)
    (hgrid : ¬(s.lane l).Regrids cfg) (hstop : ¬((s.lane l).state = .stopping ∧ cfg.enable = true)) :
    exec (.writeLane p r) s =
      .next (answer p .writeLane .ok (.revision ((s.lane l).revision + 1)) (acceptLane l cfg (goodFrame p s))) := by
  have hfresh : ¬∃ v, e = some v ∧ v ≠ (s.lane l).revision := fun ⟨v, hv, hne⟩ => hne (he v hv)
  obtain ⟨-, -, haccept⟩ := laneRefusal_cases (s.lane l) cfg e
  have hr : laneRefusal ((goodFrame p s).lane l) cfg e = none := by rw [goodFrame_lane]; exact haccept hfresh hgrid hstop
  have hact := writeLaneAct_accepted h hr
  rw [goodFrame_lane] at hact
  exact congrArg _ (takeRequest_eq ha hact)

/-- A write that keeps enable has no consequence on the lane state (R19). -/
theorem enableConsequence_same (l : Fin 32) (b : Bool) (s : State) : enableConsequence l b b s = s := by
  unfold enableConsequence
  cases b <;> cases (s.lane l).state <;> rfl

theorem enableConsequence_enable {l : Fin 32} {s : State} (h : (s.lane l).state = .off) :
    enableConsequence l false true s = enableLane l s := by
  unfold enableConsequence; rw [h]

theorem enableConsequence_disable {l : Fin 32} {s : State} (h : (s.lane l).state = .run ∨ (s.lane l).state = .fault) :
    enableConsequence l true false s = disableLane l s := by
  unfold enableConsequence
  rcases h with h | h <;> rw [h]

/-- A lane's record with a new configuration (R18). -/
def Lane.written (L : Lane) (cfg : LaneConfig) : Lane := { L with cfg := cfg, revision := L.revision + 1 }

/-- An accepted WRITE LANE: the record, the consequence of its enable, and the re-resolution for a change of zone (R18, R19). -/
theorem acceptLane_eq (l : Fin 32) (cfg : LaneConfig) (s : State) :
    acceptLane l cfg s =
      let t := enableConsequence l (s.lane l).cfg.enable cfg.enable (s.updLane l fun L => L.written cfg)
      if cfg.zone = (s.lane l).cfg.zone then t else reresolve .ordinary l t := rfl

/-! ## The planned transition, kind by kind -/

section Plans

variable {L : Lane} {P : Planned} (x : Source) (b : Bool) (c : Committed)

theorem Lane.planUnneeded_of_none (h : L.planned = none) : L.planUnneeded x b = none := by
  unfold Lane.planUnneeded Lane.planLessOwner; rw [h]
  cases L.committed <;> rfl

theorem Lane.planUnneeded_of_owner (h : L.planned = some P) (hk : P.kind = .owner) : L.planUnneeded x b = none := by
  have hkind : L.planned.map Planned.kind = some .owner := by rw [h]; exact congrArg some hk
  unfold Lane.planUnneeded Lane.planLessOwner; rw [hkind]
  cases L.committed <;> rfl

theorem Lane.planUnneeded_of_kept (h : L.planned = some P) (hk : P.kind = .stop ∨ P.kind = .inStep ∨ (P.kind = .fill ∧ b = false)) :
    L.planUnneeded x b = some P := by
  have hkind : L.planned.map Planned.kind = some P.kind := by rw [h]; rfl
  unfold Lane.planUnneeded Lane.planLessOwner; rw [hkind]
  rcases hk with hk | hk | ⟨hk, rfl⟩ <;> rw [hk] <;> cases L.committed <;> exact h

theorem Lane.planUnneeded_of_preempted (h : L.planned = some P) (hk : P.kind = .fill) (hc : L.committed = some c) :
    L.planUnneeded x true = some (L.behind x c) := by
  have hkind : L.planned.map Planned.kind = some .fill := by rw [h]; exact congrArg some hk
  unfold Lane.planUnneeded; rw [hkind, hc]

theorem Lane.planNeeded_of_none (h : L.planned = none) : L.planNeeded x b c = some (L.behind x c) := by
  unfold Lane.planNeeded; rw [h]; rfl

theorem Lane.planNeeded_of_owner (h : L.planned = some P) (hk : P.kind = .owner) : L.planNeeded x b c = some (L.behind x c) := by
  have hkind : L.planned.map Planned.kind = some .owner := by rw [h]; exact congrArg some hk
  unfold Lane.planNeeded; rw [hkind]

theorem Lane.planNeeded_of_preempted (h : L.planned = some P) (hk : P.kind = .fill) :
    L.planNeeded x true c = some (L.behind x c) := by
  have hkind : L.planned.map Planned.kind = some .fill := by rw [h]; exact congrArg some hk
  unfold Lane.planNeeded; rw [hkind]

theorem Lane.planNeeded_of_kept (h : L.planned = some P) (hk : P.kind = .stop ∨ P.kind = .inStep ∨ (P.kind = .fill ∧ b = false)) :
    L.planNeeded x b c = some P := by
  have hkind : L.planned.map Planned.kind = some P.kind := by rw [h]; rfl
  unfold Lane.planNeeded; rw [hkind]
  rcases hk with hk | hk | ⟨hk, rfl⟩ <;> rw [hk] <;> exact h

end Plans

/-! ## A re-resolution as states (R29) -/

/-- A re-resolution that commits nothing: its first part, and the lane's planned transition. -/
theorem reresolve_planned {cause : ResolveCause} {l : Fin 32} {s : State}
    (h : ¬(s.lane l).Commits (resolve s l none).1 (resolve s l none).2 cause) :
    (s.lane l).Plans (resolve s l none).1 (resolve s l none).2 cause (preempting (s.lane l).owner (resolve s l none).1)
        ((reresolve cause l s).lane l).planned ∧
      reresolve cause l s =
        (setOwnerField l (resolve s l none).1 s).updLane l fun M => { M with planned := ((reresolve cause l s).lane l).planned } := by
  obtain ⟨P, heq, hplans⟩ := reresolve_plans h
  have hP : ((reresolve cause l s).lane l).planned = P := by rw [heq, State.updLane_lane_self]
  rw [hP]
  exact ⟨hplans, heq⟩

/-- What a re-resolution leaves of its lane, field by field. -/
theorem reresolve_rest (cause : ResolveCause) (l : Fin 32) (s : State) :
    ((reresolve cause l s).lane l).cfg = (s.lane l).cfg ∧ ((reresolve cause l s).lane l).revision = (s.lane l).revision ∧
      ((reresolve cause l s).lane l).state = (s.lane l).state ∧ ((reresolve cause l s).lane l).confirmed = (s.lane l).confirmed ∧
      ((reresolve cause l s).lane l).faultReason = (s.lane l).faultReason ∧
      ((reresolve cause l s).lane l).failedTarget = (s.lane l).failedTarget := by
  have h := reresolve_held cause l s
  simpa only [Lane.held, Prod.mk.injEq] using h

/-- A re-resolution of a lane with a committed order commits nothing (R32). -/
theorem Lane.not_commits {L : Lane} {c : Committed} (h : L.committed = some c) (o : Owner) (x : Source) (cause : ResolveCause) :
    ¬L.Commits o x cause := fun ⟨_, _, _, hc⟩ => by rw [h] at hc; cases hc

/-- The first part of a re-resolution where it preempts an avail in OUT: the owner field, then the avail's end with its notice (R29, R139). -/
theorem setOwnerField_ending {l : Fin 32} {o : Owner} {s : State} {h : Handle} (hpre : PreemptsOut l o s h) :
    setOwnerField l o s =
      raise (.availEnd { handle := h, lane := (s.avail h.slot).lane, eventId := (s.avail h.slot).eventId, tick := s.tick } .preempted
        (s.avail h.slot).outTick (s.avail h.slot).inTick (s.avail h.slot).frames (s.avail h.slot).holder s.tick) (s.avail h.slot).addressed
        ((ownerReplaced l o s).updAvail h.slot (Avail.ending .ended .preempted s.tick)) := by
  rw [setOwnerField_of_preempts hpre, finish_eq _ _ _ _ rfl, ownerReplaced_avail, ownerReplaced_tick]
  obtain ⟨-, -, hgen, -⟩ := hpre
  have hhandle : ({ slot := h.slot, gen := (s.avail h.slot).gen } : Handle) = h := by rw [hgen]
  simp only [finalNotice, headOf, hhandle]

/-- The avails after a re-resolution that preempts an avail in OUT (R29, R135). -/
theorem reresolve_avail_ending {cause : ResolveCause} {l : Fin 32} {s : State} {h : Handle}
    (hpre : PreemptsOut l (resolve s l none).1 s h) (i : Fin 64) :
    (reresolve cause l s).avail i = if i = h.slot then (s.avail h.slot).ending .ended .preempted s.tick else s.avail i := by
  have havail : (reresolve cause l s).avail i = (setOwnerField l (resolve s l none).1 s).avail i := by
    unfold State.avail; rw [reresolve_avails]
  rw [havail, setOwnerField_of_preempts hpre, finish_avail, ownerReplaced_avail, ownerReplaced_avail, ownerReplaced_tick]
  rfl

/-- The avails after a re-resolution that preempts none in OUT. -/
theorem reresolve_avails_of_not_preempts {cause : ResolveCause} {l : Fin 32} {s : State}
    (hno : ∀ h, ¬PreemptsOut l (resolve s l none).1 s h) : (reresolve cause l s).avails = s.avails := by
  rw [reresolve_avails, setOwnerField_of_not_preempts hno, ownerReplaced_avails]

end Sys2Proof.Machine
end

section
/-! Lanes: a WRITE LANE that keeps enable, and what a re-resolution does. -/

namespace Sys2Proof.Certificates

open Sys2Proof.Machine

/-! ## What a re-resolution does to the lane's order and its planned transition -/

section Resolution

variable {cause : ResolveCause} {l : Fin 32} {s : State}

theorem Lane.not_needs_iff (L : Lane) (x : Source) : ¬L.Needs x cause ↔ some x = L.reference ∧ cause ≠ .laneReset := by
  unfold Lane.Needs; tauto

/-- The second part of a re-resolution, on the state after its first (R29, R32). -/
theorem reresolve_second {first : State} (hfirst : setOwnerField l (resolve s l none).1 s = first) :
    ((s.lane l).Acts (resolve s l none).1 → (s.lane l).Needs (resolve s l none).2 cause →
      ¬(s.lane l).Spares (resolve s l none).2 cause → (s.lane l).committed = none →
      reresolve cause l s = commit l .owner (resolve s l none).2 (earliestEffect (s.lane l) s.tick) none first) ∧
    (¬(s.lane l).Acts (resolve s l none).1 ∨ (some (resolve s l none).2 = (s.lane l).reference ∧ cause ≠ .laneReset) ∨
      (s.lane l).Spares (resolve s l none).2 cause ∨ (s.lane l).committed ≠ none →
      reresolve cause l s = first.updLane l fun M => { M with planned := ((reresolve cause l s).lane l).planned }) := by
  subst hfirst
  refine ⟨fun hacts hneeds hspares hc => reresolve_commits ⟨hacts, hneeds, hspares, hc⟩, fun h => ?_⟩
  refine (reresolve_planned ?_).2
  rintro ⟨hacts, hneeds, hspares, hc⟩
  rcases h with h | h | h | h
  · exact h hacts
  · exact (Lane.not_needs_iff _ _).mpr h hneeds
  · exact hspares h
  · exact h hc

theorem reresolve_idle (h : ¬(s.lane l).Acts (resolve s l none).1) :
    (((reresolve cause l s).lane l).committed = (s.lane l).committed ∧ (reresolve cause l s).order l = s.order l) ∧
      ((reresolve cause l s).lane l).planned = (s.lane l).planLessOwner := by
  have hno : ¬(s.lane l).Commits (resolve s l none).1 (resolve s l none).2 cause := fun ⟨hacts, _⟩ => h hacts
  obtain ⟨hc, ho, -⟩ := reresolve_keeps hno
  exact ⟨⟨hc, ho⟩, (reresolve_planned hno).1.idle h⟩

theorem reresolve_unneeded (hacts : (s.lane l).Acts (resolve s l none).1) (h : ¬(s.lane l).Needs (resolve s l none).2 cause) :
    (((reresolve cause l s).lane l).committed = (s.lane l).committed ∧ (reresolve cause l s).order l = s.order l) ∧
      ((reresolve cause l s).lane l).planned =
        (s.lane l).planUnneeded (resolve s l none).2 (preempting (s.lane l).owner (resolve s l none).1) := by
  have hno : ¬(s.lane l).Commits (resolve s l none).1 (resolve s l none).2 cause := fun ⟨_, hneeds, _⟩ => h hneeds
  obtain ⟨hc, ho, -⟩ := reresolve_keeps hno
  exact ⟨⟨hc, ho⟩, (reresolve_planned hno).1.unneeded hacts h⟩

theorem reresolve_spared (hacts : (s.lane l).Acts (resolve s l none).1) (hneeds : (s.lane l).Needs (resolve s l none).2 cause)
    (h : (s.lane l).Spares (resolve s l none).2 cause) :
    (((reresolve cause l s).lane l).committed = (s.lane l).committed ∧ (reresolve cause l s).order l = s.order l) ∧
      ((reresolve cause l s).lane l).planned = (s.lane l).planned := by
  have hno : ¬(s.lane l).Commits (resolve s l none).1 (resolve s l none).2 cause := fun ⟨_, _, hspares, _⟩ => hspares h
  obtain ⟨hc, ho, -⟩ := reresolve_keeps hno
  exact ⟨⟨hc, ho⟩, (reresolve_planned hno).1.spared hacts hneeds h⟩

theorem reresolve_orders (h : (s.lane l).Commits (resolve s l none).1 (resolve s l none).2 cause) :
    ((reresolve cause l s).lane l).planned = none ∧ ((reresolve cause l s).lane l).committed =
      some ⟨(s.lane l).orderSeq, (resolve s l none).2, earliestEffect (s.lane l) s.tick, s.tick⟩ := by
  rw [reresolve_commits h, commit_lane_self, setOwnerField_lane_self, setOwnerField_tick]
  exact ⟨rfl, rfl⟩

theorem reresolve_behind {c : Committed} (hacts : (s.lane l).Acts (resolve s l none).1)
    (hneeds : (s.lane l).Needs (resolve s l none).2 cause) (hspares : ¬(s.lane l).Spares (resolve s l none).2 cause)
    (h : (s.lane l).committed = some c) :
    (((reresolve cause l s).lane l).committed = (s.lane l).committed ∧ (reresolve cause l s).order l = s.order l) ∧
      ((reresolve cause l s).lane l).planned =
        (s.lane l).planNeeded (resolve s l none).2 (preempting (s.lane l).owner (resolve s l none).1) c := by
  have hno := Lane.not_commits h (resolve s l none).1 (resolve s l none).2 cause
  obtain ⟨hc, ho, -⟩ := reresolve_keeps hno
  exact ⟨⟨hc, ho⟩, (reresolve_planned hno).1.needed hacts hneeds hspares c h⟩

theorem reresolve_avails_of_not_preempting (h : ¬((resolve s l none).1.Preempts ∧ ∃ a, (s.lane l).owner = .avail a)) :
    (reresolve cause l s).avails = s.avails :=
  reresolve_avails_of_not_preempts fun a ⟨hown, hpre, _⟩ => h ⟨hpre, a, hown⟩

end Resolution

/-! ## The clauses of the statement -/

section Clauses

variable (L : Lane) (x : Source) (b : Bool)

/-- The planned transition where the target needs none, kind by kind (R29; log entry 8). -/
theorem planUnneeded_clauses {preempted : Prop} (hb : b = true ↔ preempted) :
    (L.planned = none → L.planUnneeded x b = none) ∧ ∀ P ∈ L.planned,
      (P.kind = .owner → L.planUnneeded x b = none) ∧ (P.kind = .stop ∨ P.kind = .inStep → L.planUnneeded x b = some P) ∧
      (P.kind = .fill → (¬preempted → L.planUnneeded x b = some P) ∧
        (preempted → ∀ c ∈ L.committed, L.planUnneeded x b = some (L.behind x c))) := by
  refine ⟨Lane.planUnneeded_of_none x b, fun P hP => ⟨Lane.planUnneeded_of_owner x b hP, fun h => ?_, fun hk => ⟨fun hno => ?_, ?_⟩⟩⟩
  · exact Lane.planUnneeded_of_kept x b hP (h.imp_right .inl)
  · exact Lane.planUnneeded_of_kept x b hP (.inr (.inr ⟨hk, Bool.eq_false_iff.mpr fun e => hno (hb.mp e)⟩))
  · intro hpre c hc
    rw [hb.mpr hpre]
    exact Lane.planUnneeded_of_preempted x c hP hk hc

/-- The planned transition where the target needs one behind a committed order, kind by kind (R32, R36). -/
theorem planNeeded_clauses {preempted : Prop} (hb : b = true ↔ preempted) (c : Committed) :
    (L.planned = none → L.planNeeded x b c = some (L.behind x c)) ∧ ∀ P ∈ L.planned,
      (P.kind = .owner → L.planNeeded x b c = some (L.behind x c)) ∧
      (P.kind = .stop ∨ P.kind = .inStep → L.planNeeded x b c = some P) ∧
      (P.kind = .fill → (preempted → L.planNeeded x b c = some (L.behind x c)) ∧ (¬preempted → L.planNeeded x b c = some P)) := by
  refine ⟨Lane.planNeeded_of_none x b c, fun P hP => ⟨Lane.planNeeded_of_owner x b c hP, fun h => ?_, fun hk => ⟨fun hpre => ?_, ?_⟩⟩⟩
  · exact Lane.planNeeded_of_kept x b c hP (h.imp_right .inl)
  · rw [hb.mpr hpre]
    exact Lane.planNeeded_of_preempted x c hP hk
  · intro hno
    exact Lane.planNeeded_of_kept x b c hP (.inr (.inr ⟨hk, Bool.eq_false_iff.mpr fun e => hno (hb.mp e)⟩))

end Clauses

/-- Settles O28, part by part of a re-resolution. -/
theorem writeLaneConfig : Obligations.WriteLaneConfig := by
  refine ⟨fun p r s l cfg e ha hw he hstop hgrid hen => ?_, fun cause l s => ?_⟩
  · have hkeep : ¬(s.lane l).Regrids cfg := fun ⟨hoff, hne⟩ => by
      obtain ⟨hcad, hph, hpd⟩ := hgrid hoff
      simp [hcad, hph, hpd] at hne
    have hon : ¬((s.lane l).state = .stopping ∧ cfg.enable = true) := fun ⟨hs, h⟩ => by rw [hstop hs] at h; cases h
    refine (exec_writeLane_accepted ha hw he hkeep hon).trans ?_
    rw [acceptLane_eq, goodFrame_lane, hen, enableConsequence_same]
    rfl
  · obtain ⟨hcfg, -, hstate, hconfirmed, -⟩ := reresolve_rest cause l s
    have hpre := preempting_iff (s.lane l).owner (resolve s l none).1
    refine ⟨reresolve_break cause l s, (reresolve_oneLane cause l s).others, reresolve_owner cause l s, hstate,
      hconfirmed, hcfg, ?_, reresolve_avails_of_not_preempting, ⟨?_, ?_⟩, ?_, ?_, ?_⟩
    · intro h hown htake hgen hout
      have havail := reresolve_avail_ending (cause := cause) (h := h) (l := l) ⟨hown, htake, hgen, hout⟩
      exact ⟨(havail h.slot).trans (if_pos rfl), fun i hi => (havail i).trans (if_neg hi)⟩
    · intro hno
      have hfirst : setOwnerField l (resolve s l none).1 s = ownerReplaced l (resolve s l none).1 s := setOwnerField_of_not_preempts hno
      exact ⟨by rw [reresolve_ports, hfirst]; rfl, reresolve_second hfirst⟩
    · intro h hend
      have hfirst := setOwnerField_ending hend
      exact ⟨by rw [reresolve_ports, hfirst]; rfl, reresolve_second hfirst⟩
    · intro hidle
      exact reresolve_idle hidle
    · intro hacts href hcause
      have hneeds := (Lane.not_needs_iff (s.lane l) (resolve s l none).2).mpr ⟨href, hcause⟩
      obtain ⟨hkeeps, hplan⟩ := reresolve_unneeded hacts hneeds
      dsimp only
      rw [hplan]
      exact ⟨hkeeps, planUnneeded_clauses _ _ _ hpre⟩
    · intro hacts hneeds
      refine ⟨reresolve_spared hacts hneeds, fun hspares => ⟨fun hc => reresolve_orders ⟨hacts, hneeds, hspares, hc⟩, fun c hc => ?_⟩⟩
      obtain ⟨hkeeps, hplan⟩ := reresolve_behind hacts hneeds hspares hc
      dsimp only
      rw [hplan]
      exact ⟨hkeeps, planNeeded_clauses _ _ _ hpre c⟩

end Sys2Proof.Certificates
end

section
/-! SUPPORT. An enable, a disable and a reset of a lane as states (R21, R22, R25), and what a re-resolution keeps where it commits nothing. -/

namespace Sys2Proof.Machine

/-! ## The owner of a lane reads little (R28) -/

theorem outAvail_congr {s t : State} (h : t.avails = s.avails) (l : Fin 32) (w : Option Handle) : outAvail t l w = outAvail s l w := by
  unfold outAvail State.handleOf State.avail; rw [h]

theorem openWindow_congr {s t : State} (h : t.windows = s.windows) (k : WindowType) (l : Fin 32) :
    openWindow t k l = openWindow s k l := by
  unfold openWindow State.window; rw [h]

theorem coveringAlert_congr {s t : State} (ha : t.alerts = s.alerts) (hr : t.recency = s.recency) (z : Fin 16) :
    coveringAlert t z = coveringAlert s z := by
  unfold coveringAlert State.alert; rw [ha, hr]

/-- Two states with the same avails, windows and alerts resolve a lane alike (R28). -/
theorem resolve_congr {s t : State} {l : Fin 32} (h : BreakOnly s t) (havails : t.avails = s.avails)
    (hzone : (t.lane l).cfg.zone = (s.lane l).cfg.zone) (w : Option Handle) : resolve t l w = resolve s l w := by
  unfold resolve
  rw [coveringAlert_congr h.alerts h.recency, hzone, openWindow_congr h.windows, outAvail_congr havails]
  unfold State.window State.avail State.handleOf State.avail
  rw [h.windows, havails]

/-- Some avail is in OUT on the lane (R27, R137). -/
theorem ownerLeft_iff (s : State) (l : Fin 32) : ownerLeft s l = true ↔ ∃ i, (s.avail i).state = .out ∧ (s.avail i).lane = l := by
  simp [ownerLeft, outAvail, List.find?_isSome]

/-! ## What a re-resolution keeps where it commits nothing -/

/-- Lane l keeps its configuration, its state and its order; no other lane differs. -/
structure OrderKept (l : Fin 32) (s t : State) : Prop where
  one : OneLane l s t
  cfg : (t.lane l).cfg = (s.lane l).cfg
  revision : (t.lane l).revision = (s.lane l).revision
  state : (t.lane l).state = (s.lane l).state
  confirmed : (t.lane l).confirmed = (s.lane l).confirmed
  faultReason : (t.lane l).faultReason = (s.lane l).faultReason
  failedTarget : (t.lane l).failedTarget = (s.lane l).failedTarget
  committed : (t.lane l).committed = (s.lane l).committed
  orderSeq : (t.lane l).orderSeq = (s.lane l).orderSeq
  lastEffect : (t.lane l).lastEffect = (s.lane l).lastEffect

theorem OrderKept.refl (l : Fin 32) (s : State) : OrderKept l s s := ⟨.refl l s, rfl, rfl, rfl, rfl, rfl, rfl, rfl, rfl, rfl⟩

theorem OrderKept.trans {l : Fin 32} {s t u : State} (h : OrderKept l s t) (g : OrderKept l t u) : OrderKept l s u where
  one := h.one.trans g.one
  cfg := g.cfg.trans h.cfg
  revision := g.revision.trans h.revision
  state := g.state.trans h.state
  confirmed := g.confirmed.trans h.confirmed
  faultReason := g.faultReason.trans h.faultReason
  failedTarget := g.failedTarget.trans h.failedTarget
  committed := g.committed.trans h.committed
  orderSeq := g.orderSeq.trans h.orderSeq
  lastEffect := g.lastEffect.trans h.lastEffect

theorem OrderKept.ite {l : Fin 32} {s t u : State} {c : Prop} [Decidable c] (h : OrderKept l s t) (g : OrderKept l s u) :
    OrderKept l s (if c then t else u) := by
  split
  · exact h
  · exact g

theorem orderKept_of_avails {s t : State} (h : AvailsOnly s t) (l : Fin 32) : OrderKept l s t := by
  refine ⟨h.oneLane l, ?_, ?_, ?_, ?_, ?_, ?_, ?_, ?_, ?_⟩ <;> rw [h.lane]

/-- A re-resolution that commits nothing keeps the lane's order (R29). -/
theorem reresolve_orderKept {cause : ResolveCause} {l : Fin 32} {s : State}
    (h : ¬(s.lane l).Commits (resolve s l none).1 (resolve s l none).2 cause) : OrderKept l s (reresolve cause l s) := by
  obtain ⟨hcfg, hrev, hstate, hconfirmed, hreason, hfailed⟩ := reresolve_rest cause l s
  obtain ⟨hcommitted, -, hlast, hseq, -⟩ := reresolve_keeps h
  exact ⟨reresolve_oneLane cause l s, hcfg, hrev, hstate, hconfirmed, hreason, hfailed, hcommitted, hseq, hlast⟩

theorem reresolve_orderKept_of_committed {cause : ResolveCause} {l : Fin 32} {s : State} {c : Committed}
    (h : (s.lane l).committed = some c) : OrderKept l s (reresolve cause l s) :=
  reresolve_orderKept (Lane.not_commits h _ _ _)

/-- A lane in STOPPING takes no OWNER transition (R29). -/
theorem Lane.not_acts_of_stopping {L : Lane} (h : L.state = .stopping) (o : Owner) : ¬L.Acts o := by
  simp [Lane.Acts, h]

/-- An avail that is not in OUT is not touched by a re-resolution (R29, R135). -/
theorem reresolve_avail_of_not_out {cause : ResolveCause} {l : Fin 32} {s : State} {i : Fin 64} (h : (s.avail i).state ≠ .out) :
    (reresolve cause l s).avail i = s.avail i := by
  by_cases hpre : ∃ a, PreemptsOut l (resolve s l none).1 s a
  · obtain ⟨a, hpre⟩ := hpre
    have hout := hpre.2.2.2
    exact (reresolve_avail_ending hpre i).trans (if_neg fun e => h (by rw [e]; exact hout))
  · unfold State.avail
    rw [reresolve_avails_of_not_preempts (not_exists.mp hpre)]

/-- A lane in STOPPING as it was, but for its owner field (R22, R29). -/
structure StopKept (l : Fin 32) (s t : State) : Prop where
  kept : OrderKept l s t
  planned : (t.lane l).planned = (s.lane l).planned
  avail : ∀ i, (s.avail i).state ≠ .out → t.avail i = s.avail i

theorem StopKept.refl (l : Fin 32) (s : State) : StopKept l s s := ⟨.refl l s, rfl, fun _ _ => rfl⟩

theorem StopKept.trans {l : Fin 32} {s t u : State} (h : StopKept l s t) (g : StopKept l t u) : StopKept l s u :=
  ⟨h.kept.trans g.kept, g.planned.trans h.planned, fun i hi =>
    (g.avail i (by rw [h.avail i hi]; exact hi)).trans (h.avail i hi)⟩

/-- In STOPPING a re-resolution sets no transition, and a planned transition that is not an OWNER transition stays (R29). -/
theorem StopKept.reresolve {l : Fin 32} {s t : State} (h : StopKept l s t) (hstate : (s.lane l).state = .stopping)
    (hp : (s.lane l).planned.map Planned.kind ≠ some .owner) (cause : ResolveCause) : StopKept l s (reresolve cause l t) := by
  have hidle : ∀ o, ¬(t.lane l).Acts o := Lane.not_acts_of_stopping (h.kept.state.trans hstate)
  have hno : ¬(t.lane l).Commits (resolve t l none).1 (resolve t l none).2 cause := fun ⟨hacts, _⟩ => hidle _ hacts
  have hplan : ((Machine.reresolve cause l t).lane l).planned = (t.lane l).planned :=
    ((reresolve_planned hno).1.idle (hidle _)).trans (if_neg (by rw [h.planned]; exact hp))
  exact h.trans ⟨reresolve_orderKept hno, hplan, fun _ hi => reresolve_avail_of_not_out hi⟩

theorem StopKept.ite {l : Fin 32} {s t u : State} {c : Prop} [Decidable c] (h : StopKept l s t) (g : StopKept l s u) :
    StopKept l s (if c then t else u) := by
  split
  · exact h
  · exact g

/-! ## An enable, a disable and a reset (R21, R22, R25) -/

/-- A lane's record without a fault, in a state (R21, R25). -/
def Lane.running (L : Lane) : Lane := { L with state := .run, faultReason := none, failedTarget := none }

/-- A lane set to RUN, told with LANE_STATE(STATE) (R21, R25, R26). -/
def runLane (l : Fin 32) (s : State) : State :=
  raise (.laneState l .state .run (s.lane l).owner (s.lane l).confirmed none s.tick) [] (s.updLane l Lane.running)

theorem runLane_lane_self (l : Fin 32) (s : State) : (runLane l s).lane l = (s.lane l).running := by
  unfold runLane; rw [raise_lane, State.updLane_lane_self]

theorem runLane_oneLane (l : Fin 32) (s : State) : OneLane l s (runLane l s) :=
  (updLane_oneLane l _ s).trans (PortsOnly.oneLane (raise_ports ..) l)

theorem runLane_break (l : Fin 32) (s : State) : BreakOnly s (runLane l s) := rfl

theorem resetLane_eq (l : Fin 32) (s : State) : resetLane l s = reresolve .laneReset l (runLane l s) := by
  unfold resetLane; rw [setLaneState_updLane]; rfl

/-- An enable: RUN, the NET order at the earliest effect, then the re-resolution (R21). -/
theorem enableLane_eq (l : Fin 32) (s : State) :
    enableLane l s = reresolve .ordinary l (commit l .owner .net (earliestEffect (s.lane l) s.tick) none (runLane l s)) := by
  have hrun : setLaneState l .run (s.updLane l fun L => { L with faultReason := none, failedTarget := none }) = runLane l s := by
    rw [setLaneState_updLane]; rfl
  unfold enableLane; dsimp only
  rw [hrun, runLane_lane_self]; rfl

/-- A lane set to STOPPING, told with LANE_STATE(STATE) (R22, R26). -/
def stopLane (l : Fin 32) (s : State) : State :=
  raise (.laneState l .state .stopping (s.lane l).owner (s.lane l).confirmed (s.lane l).faultReason s.tick) []
    (s.updLane l fun L => { L with planned := none, state := .stopping })

theorem stopLane_lane_self (l : Fin 32) (s : State) : (stopLane l s).lane l = { s.lane l with planned := none, state := .stopping } := by
  unfold stopLane; rw [raise_lane, State.updLane_lane_self]

theorem stopLane_oneLane (l : Fin 32) (s : State) : OneLane l s (stopLane l s) :=
  (updLane_oneLane l _ s).trans (PortsOnly.oneLane (raise_ports ..) l)

/-- The avails of a lane that is disabled, each CANCELLED(LANE_OFF) (R137). -/
def cancelAvails (l : Fin 32) (s : State) : State := finishLane l .cancelled .laneOff (stopLane l s)

theorem cancelAvails_tick (l : Fin 32) (s : State) : (cancelAvails l s).tick = s.tick := (finishLane_avails ..).timeKept.tick

theorem cancelAvails_lane (l j : Fin 32) (s : State) : (cancelAvails l s).lane j = (stopLane l s).lane j := (finishLane_avails ..).lane j

/-- A disable: STOPPING, the avails' end, the stop order, and the re-resolution where an avail leaves OUT (R22, R27). -/
theorem disableLane_eq (l : Fin 32) (s : State) :
    disableLane l s =
      if ∃ i, (s.avail i).state = .out ∧ (s.avail i).lane = l then reresolve .ordinary l (prepareStop l (cancelAvails l s))
      else prepareStop l (cancelAvails l s) := by
  have hstop : setLaneState l .stopping (s.updLane l fun L => { L with planned := none }) = stopLane l s := by
    rw [setLaneState_updLane]; rfl
  unfold disableLane; dsimp only
  rw [hstop]
  exact if_congr (ownerLeft_iff s l) rfl rfl

/-- A stop order planned one period behind a committed order (R22). -/
def Lane.stopBehind (L : Lane) (c : Committed) : Planned :=
  { kind := .stop, target := .net, effect := addPeriods L.period L.cfg.phase c.effect 1, avail := none }

/-- Two lanes with the same grid and last effect have the same earliest effect (R30). -/
theorem earliestEffect_congr {L M : Lane} (hcad : M.cfg.cadence = L.cfg.cadence) (hph : M.cfg.phase = L.cfg.phase)
    (hlast : M.lastEffect = L.lastEffect) (now : Tick) : earliestEffect M now = earliestEffect L now := by
  unfold earliestEffect Lane.period; rw [hcad, hph, hlast]

theorem Lane.stopBehind_congr {L M : Lane} (hcad : M.cfg.cadence = L.cfg.cadence) (hph : M.cfg.phase = L.cfg.phase) (c : Committed) :
    M.stopBehind c = L.stopBehind c := by
  unfold Lane.stopBehind Lane.period; rw [hcad, hph]

theorem prepareStop_none {l : Fin 32} {s : State} (h : (s.lane l).committed = none) :
    prepareStop l s = commit l .stop .net (earliestEffect (s.lane l) s.tick) none s := by
  unfold prepareStop; simp only [h]

theorem prepareStop_some {l : Fin 32} {s : State} {c : Committed} (h : (s.lane l).committed = some c) :
    prepareStop l s = s.updLane l fun M => { M with planned := some ((s.lane l).stopBehind c) } := by
  unfold prepareStop; simp only [h]; exact updLane_congr rfl

theorem prepareStop_oneLane (l : Fin 32) (s : State) : OneLane l s (prepareStop l s) := by
  cases h : (s.lane l).committed with
  | none => rw [prepareStop_none h]; exact commit_oneLane ..
  | some c => rw [prepareStop_some h]; exact updLane_oneLane ..

theorem prepareStop_avail (l : Fin 32) (s : State) (i : Fin 64) : (prepareStop l s).avail i = s.avail i := by
  cases h : (s.lane l).committed with
  | none => rw [prepareStop_none h]; rfl
  | some c => rw [prepareStop_some h]; rfl

/-- A lane with its stop order holds an order, and no planned OWNER transition (R22). -/
theorem prepareStop_lane {l : Fin 32} {s : State} (hstate : (s.lane l).state = .stopping) :
    ((prepareStop l s).lane l).state = .stopping ∧ ((prepareStop l s).lane l).cfg = (s.lane l).cfg ∧
      ((prepareStop l s).lane l).revision = (s.lane l).revision ∧
      ((prepareStop l s).lane l).planned.map Planned.kind ≠ some .owner := by
  cases h : (s.lane l).committed with
  | none =>
    rw [prepareStop_none h, commit_lane_self]
    exact ⟨hstate, rfl, rfl, by simp [Lane.afterCommit]⟩
  | some c =>
    rw [prepareStop_some h, State.updLane_lane_self]
    exact ⟨hstate, rfl, rfl, by simp [Lane.stopBehind]⟩

/-- The endings of a lane's avails, each notice with the lane (R136, R137, R139). -/
theorem finishLane_fold (l : Fin 32) (st : AvailState) (r : FinalResult) (s : State) (hst : ({ state := st } : Avail).final = true) :
    finishLane l st r s = (List.finRange 64).foldl (fun x i =>
      if (s.avail i).live = true ∧ (s.avail i).lane = l then
        raise (finalNotice i { s.avail i with lane := l } st r s.tick) (s.avail i).addressed (x.updAvail i (Avail.ending st r s.tick))
      else x) s := by
  rw [finishLane_eq l st r s hst]
  congr 1
  funext x i
  unfold endIfOn
  split
  · rename_i h
    rw [← h.2]
  · rfl

theorem cancelAvails_eq (l : Fin 32) (s : State) :
    cancelAvails l s = (List.finRange 64).foldl (fun x i =>
      if (s.avail i).live = true ∧ (s.avail i).lane = l then
        raise (finalNotice i { s.avail i with lane := l } .cancelled .laneOff s.tick) (s.avail i).addressed
          (x.updAvail i (Avail.ending .cancelled .laneOff s.tick))
      else x) (stopLane l s) := finishLane_fold l .cancelled .laneOff (stopLane l s) rfl

/-- A live avail of the lane after the endings of a disable (R137). -/
theorem cancelAvails_avail {l : Fin 32} {s : State} {i : Fin 64} (hlive : (s.avail i).live = true) (hlane : (s.avail i).lane = l) :
    (cancelAvails l s).avail i = (s.avail i).ending .cancelled .laneOff s.tick :=
  (finishLane_avail l .cancelled .laneOff (stopLane l s) rfl i).trans (if_pos ⟨hlive, hlane⟩)

/-! ## An accepted WRITE LANE: the record, before its consequences (R18) -/

/-- The state with the lane's new configuration (R18). -/
def laneWritten (p : Fin 4) (l : Fin 32) (cfg : LaneConfig) (s : State) : State := (goodFrame p s).updLane l fun L => L.written cfg

section Written

variable (p : Fin 4) (l : Fin 32) (cfg : LaneConfig) (s : State)

theorem laneWritten_lane_self : (laneWritten p l cfg s).lane l = (s.lane l).written cfg := by
  unfold laneWritten; rw [State.updLane_lane_self, goodFrame_lane]

theorem laneWritten_tick : (laneWritten p l cfg s).tick = s.tick := goodFrame_tick p s

theorem laneWritten_avail (i : Fin 64) : (laneWritten p l cfg s).avail i = s.avail i := goodFrame_avail p s i

theorem laneWritten_oneLane : OneLane l s (laneWritten p l cfg s) :=
  (PortsOnly.oneLane (goodFrame_ports p s) l).trans (updLane_oneLane ..)

/-- The lane after an accepted WRITE LANE, its enable's consequence known (R18, R19). -/
theorem acceptLane_of_consequence {a b : Bool} {t : State} (ha : (s.lane l).cfg.enable = a) (hb : cfg.enable = b)
    (h : enableConsequence l a b (laneWritten p l cfg s) = t) :
    acceptLane l cfg (goodFrame p s) = if cfg.zone = (s.lane l).cfg.zone then t else reresolve .ordinary l t := by
  rw [acceptLane_eq, goodFrame_lane, ha, hb, ← h]; rfl

/-- An accepted WRITE LANE's answer touches lanes, orders, avails and ports only. -/
theorem answer_acceptLane_break (b : ReplyBody) : BreakOnly s (answer p .writeLane .ok b (acceptLane l cfg (goodFrame p s))) :=
  ((goodFrame_ports p s).break.trans (acceptLane_break ..)).trans (answer_ports ..).break

end Written

/-! ## LANE RESET (R25) -/

theorem laneResetAct_range {b : Byte} (h : 32 ≤ b.toNat) (s : State) : laneResetAct b s = refuse .range s := by
  unfold laneResetAct; rw [toFin_eq_none.mpr h]

theorem laneResetAct_busy {b : Byte} {l : Fin 32} {s : State} (h : b.toNat = l.val) (hne : (s.lane l).state ≠ .fault) :
    laneResetAct b s = refuse .busy s := by
  unfold laneResetAct; rw [toFin_eq_some.mpr h]; exact if_neg hne

theorem laneResetAct_ok {b : Byte} {l : Fin 32} {s : State} (h : b.toNat = l.val) (hf : (s.lane l).state = .fault) :
    laneResetAct b s = { code := .ok, body := .none, state := resetLane l s } := by
  unfold laneResetAct; rw [toFin_eq_some.mpr h]; exact if_pos hf

end Sys2Proof.Machine
end

section
/-! Lanes: enabled, disabled and reset. -/

namespace Sys2Proof.Certificates

open Sys2Proof.Machine

/-- Settles O29: the enable's order keeps both re-resolutions from committing. -/
theorem enableLane : Obligations.EnableLane := by
  intro p r s l cfg e ha hw he hoff hdis hen
  have hexec := exec_writeLane_accepted ha hw he (fun ⟨hne, _⟩ => hne hoff) fun ⟨hst, _⟩ => by rw [hoff] at hst; cases hst
  let effect := earliestEffect { s.lane l with cfg := cfg } s.tick
  let ordered := commit l .owner .net effect none (runLane l (laneWritten p l cfg s))
  let owned := reresolve .ordinary l ordered
  have hwritten := laneWritten_lane_self p l cfg s
  have htick := laneWritten_tick p l cfg s
  have haccept : acceptLane l cfg (goodFrame p s) = if cfg.zone = (s.lane l).cfg.zone then owned else reresolve .ordinary l owned := by
    refine acceptLane_of_consequence p l cfg s hdis hen ?_
    rw [enableConsequence_enable (by rw [hwritten]; exact hoff), enableLane_eq, hwritten, htick]; rfl
  have hlane : ordered.lane l = ((s.lane l).written cfg).running.afterCommit .net effect s.tick := by
    show (commit _ _ _ _ _ _).lane l = _
    rw [commit_lane_self, runLane_lane_self, hwritten]
    exact congrArg _ htick
  have howned : OrderKept l ordered owned := reresolve_orderKept_of_committed (by rw [hlane]; rfl)
  have hone : OneLane l s ordered := ((laneWritten_oneLane ..).trans (runLane_oneLane ..)).trans (commit_oneLane ..)
  have hkept : OrderKept l ordered (acceptLane l cfg (goodFrame p s)) := by
    rw [haccept]
    exact .ite howned (howned.trans (reresolve_orderKept_of_committed (howned.committed.trans (by rw [hlane]; rfl))))
  obtain ⟨hothers, hcfg, hrev, hstate, hconfirmed, hreason, hfailed, hcommitted, hseq, -⟩ :=
    hkept.trans (orderKept_of_avails (answer_ports p .writeLane .ok (.revision ((s.lane l).revision + 1)) _).avails l)
  rw [hlane] at hcfg hrev hstate hconfirmed hreason hfailed hcommitted hseq
  refine ⟨_, hexec, answer_acceptLane_break p l cfg s _, hstate, hcfg, hrev, hreason, hfailed, hcommitted, hseq, hconfirmed,
    (hone.trans hothers).others, ?_⟩
  have hrun : runLane l (laneWritten p l cfg s) = raise (.laneState l .state .run (s.lane l).owner (s.lane l).confirmed none s.tick) []
      ((goodFrame p s).updLane l fun L => (L.written cfg).running) := by
    unfold runLane
    rw [hwritten, htick]; unfold laneWritten
    rw [updLane_updLane]; rfl
  rw [haccept]
  simp only [owned, ordered, hrun]
  rfl

/-- Settles O30: in STOPPING no re-resolution sets a transition, and no avail of the lane is in OUT any more. -/
theorem disableLane : Obligations.DisableLane := by
  intro p r s l cfg e ha hw he hon hcad hph hpd hen hdis
  have hexec := exec_writeLane_accepted ha hw he (fun ⟨_, hne⟩ => by simp [hcad, hph, hpd] at hne) fun ⟨_, h⟩ => by rw [hdis] at h; cases h
  let written := laneWritten p l cfg s
  let cancelled := cancelAvails l written
  let stopped := prepareStop l cancelled
  let left := if ∃ i, (s.avail i).state = .out ∧ (s.avail i).lane = l then reresolve .ordinary l stopped else stopped
  have hwritten := laneWritten_lane_self p l cfg s
  have htick := laneWritten_tick p l cfg s
  have havail := laneWritten_avail p l cfg s
  have haccept : acceptLane l cfg (goodFrame p s) = if cfg.zone = (s.lane l).cfg.zone then left else reresolve .ordinary l left := by
    refine acceptLane_of_consequence p l cfg s hen hdis ?_
    rw [enableConsequence_disable (by rw [hwritten]; exact hon), disableLane_eq]
    simp only [havail]; rfl
  have hlane : cancelled.lane l = { (s.lane l).written cfg with planned := none, state := .stopping } := by
    show (cancelAvails l written).lane l = _
    rw [cancelAvails_lane, stopLane_lane_self, hwritten]
  have htickc : cancelled.tick = s.tick := (cancelAvails_tick l written).trans htick
  have heffect : earliestEffect (cancelled.lane l) cancelled.tick = earliestEffect (s.lane l) s.tick := by
    rw [htickc]
    exact earliestEffect_congr (by rw [hlane]; exact hcad) (by rw [hlane]; exact hph) (by rw [hlane]; rfl) _
  obtain ⟨hstate, hcfg, hrev, hplan⟩ := prepareStop_lane (l := l) (s := cancelled) (by rw [hlane])
  have hleft : StopKept l stopped left := .ite (StopKept.reresolve (.refl l _) hstate hplan _) (.refl l _)
  have hstop : StopKept l stopped (acceptLane l cfg (goodFrame p s)) := by
    rw [haccept]
    exact .ite hleft (hleft.reresolve hstate hplan _)
  have hports := answer_ports p .writeLane .ok (.revision ((s.lane l).revision + 1)) (acceptLane l cfg (goodFrame p s))
  have hone : OneLane l s stopped :=
    (((laneWritten_oneLane ..).trans (stopLane_oneLane ..)).trans ((finishLane_avails ..).oneLane l)).trans (prepareStop_oneLane ..)
  have hkept := hstop.kept.trans (orderKept_of_avails hports.avails l)
  have hplanned : ((answer p .writeLane .ok (.revision ((s.lane l).revision + 1)) (acceptLane l cfg (goodFrame p s))).lane l).planned =
      (stopped.lane l).planned := by rw [hports.avails.lane, hstop.planned]
  refine ⟨_, hexec, answer_acceptLane_break p l cfg s _, hkept.state.trans hstate, ?_, ?_, fun hc => ?_, fun c hc => ?_,
    fun i hlive hon => ?_, (hone.trans hkept.one).others, ?_⟩
  · rw [hkept.cfg, hcfg, hlane]; rfl
  · rw [hkept.revision, hrev, hlane]; rfl
  · rw [hplanned, hkept.committed]
    show ((prepareStop l cancelled).lane l).planned = _ ∧ ((prepareStop l cancelled).lane l).committed = _
    rw [prepareStop_none (by rw [hlane]; exact hc), heffect, commit_lane_self, hlane, htickc]
    exact ⟨rfl, rfl⟩
  · rw [hplanned, hkept.committed]
    show ((prepareStop l cancelled).lane l).committed = _ ∧ ((prepareStop l cancelled).lane l).planned = _
    rw [prepareStop_some (by rw [hlane]; exact hc), State.updLane_lane_self, hlane]
    exact ⟨hc, congrArg some (Lane.stopBehind_congr hcad hph c)⟩
  · have hcancelled : stopped.avail i = (s.avail i).ending .cancelled .laneOff s.tick := by
      show (prepareStop l cancelled).avail i = _
      rw [prepareStop_avail, cancelAvails_avail (by rw [havail]; exact hlive) (by rw [havail]; exact hon), havail, htick]
    have hout : (stopped.avail i).state ≠ .out := by rw [hcancelled]; exact AvailState.noConfusion
    rw [hports.avail, hstop.avail i hout]
    exact hcancelled
  · have hstopping : stopLane l written = raise (.laneState l .state .stopping (s.lane l).owner (s.lane l).confirmed (s.lane l).faultReason s.tick) []
        ((goodFrame p s).updLane l fun L => { L.written cfg with planned := none, state := .stopping }) := by
      show stopLane l (laneWritten p l cfg s) = _
      unfold stopLane
      rw [hwritten, htick]; unfold laneWritten
      rw [updLane_updLane]; rfl
    have hcancel := cancelAvails_eq l written
    simp only [show written.avail = s.avail from funext havail, show written.tick = s.tick from htick, hstopping] at hcancel
    have hstopped : stopped = match (s.lane l).committed with
        | none => commit l .stop .net (earliestEffect (s.lane l) s.tick) none cancelled
        | some c => cancelled.updLane l fun M => { M with planned := some ((s.lane l).stopBehind c) } := by
      cases hc : (s.lane l).committed with
      | none =>
        refine (prepareStop_none (by rw [hlane]; exact hc)).trans ?_
        rw [heffect]
      | some c =>
        refine (prepareStop_some (c := c) (by rw [hlane]; exact hc)).trans ?_
        rw [hlane, Lane.stopBehind_congr hcad hph]
    rw [haccept]
    simp only [left, hstopped]
    rw [show cancelled = _ from hcancel]
    rfl

/-- Settles O31: a reset lane in RUN without an order commits its owner's target. -/
theorem laneReset : Obligations.LaneReset := by
  intro p b s ha
  refine ⟨fun hb => congrArg _ (takeRequest_eq ha (laneResetAct_range hb _)), fun l hl => ⟨fun hne => ?_, fun hf => ?_⟩⟩
  · exact congrArg _ (takeRequest_eq ha (laneResetAct_busy hl (by rw [goodFrame_lane]; exact hne)))
  let ran := runLane l (goodFrame p s)
  have hexec : exec (.laneReset p b) s = .next (answer p .laneReset .ok .none (reresolve .laneReset l ran)) := by
    have hact := laneResetAct_ok hl (s := goodFrame p s) (by rw [goodFrame_lane]; exact hf)
    rw [resetLane_eq] at hact
    exact congrArg _ (takeRequest_eq ha hact)
  have hran : ran.lane l = (s.lane l).running := by
    show (runLane _ _).lane l = _
    rw [runLane_lane_self, goodFrame_lane]
  have hbreak : BreakOnly s ran := (goodFrame_ports p s).break.trans (runLane_break ..)
  have havails : ran.avails = s.avails := by
    show (goodFrame p s).avails = _
    rw [goodFrame_frame]
  have hresolve : resolve ran l none = resolve s l none := resolve_congr hbreak havails (by rw [hran]; rfl) none
  have hone : OneLane l s (reresolve .laneReset l ran) :=
    ((PortsOnly.oneLane (goodFrame_ports p s) l).trans (runLane_oneLane ..)).trans (reresolve_oneLane ..)
  obtain ⟨hcfg, hrev, hstate, -, hreason, -⟩ := reresolve_rest .laneReset l ran
  rw [hran] at hcfg hrev hstate hreason
  have hlane := (answer_ports p .laneReset .ok .none (reresolve .laneReset l ran)).avails.lane l
  refine ⟨_, hexec, (hbreak.trans (reresolve_break ..)).trans (answer_ports ..).break, ?_⟩
  rw [hlane]
  refine ⟨hstate, hcfg, hrev, hreason, ?_, fun hc => ?_, (hone.trans (PortsOnly.oneLane (answer_ports ..) l)).others, ?_⟩
  · rw [reresolve_owner, hresolve]
  · have hcommits : (ran.lane l).Commits (resolve ran l none).1 (resolve ran l none).2 .laneReset := by
      rw [hran]
      exact ⟨.inl rfl, .inr rfl, (fun ⟨h, _⟩ => by cases h), hc⟩
    have htick : ran.tick = s.tick := goodFrame_tick p s
    rw [(reresolve_orders hcommits).2, hran, hresolve, htick]; rfl
  · have hform : ran = raise (.laneState l .state .run (s.lane l).owner (s.lane l).confirmed none s.tick) []
        ((goodFrame p s).updLane l Lane.running) := by
      show runLane l (goodFrame p s) = _
      unfold runLane; rw [goodFrame_lane, goodFrame_tick]
    rw [hform]; rfl

end Sys2Proof.Certificates
end

section
/-! Lanes: the owner of a lane and its target. -/

namespace Sys2Proof.Machine

/-! ## The alert that owns the lanes of a zone (R28, R171) -/

/-- One alert of the recency order against the best before it (R28). -/
def betterAlert (s : State) (zone : Fin 16) (best : Option (Fin 4 × Alert)) (a : Fin 4) : Option (Fin 4 × Alert) :=
  match s.alert a with
  | none => best
  | some A =>
    if A.covers zone then
      match best with
      | none => some (a, A)
      | some (_, B) => if B.level ≤ A.level then some (a, A) else best
    else best

theorem coveringAlert_eq (s : State) (zone : Fin 16) : coveringAlert s zone = s.recency.foldl (betterAlert s zone) none := rfl

/-- The best alert of a recency order: none covers the zone, or it is of the highest level and the last among equals (R28). -/
def BestOf (s : State) (zone : Fin 16) (order : List (Fin 4)) : Option (Fin 4 × Alert) → Prop
  | none => ∀ b ∈ order, ∀ B ∈ s.alert b, B.covers zone = false
  | some (a, A) => ∃ before after, order = before ++ a :: after ∧ s.alert a = some A ∧ A.covers zone = true ∧
      (∀ b ∈ before, ∀ B ∈ s.alert b, B.covers zone = true → B.level ≤ A.level) ∧
      ∀ b ∈ after, ∀ B ∈ s.alert b, B.covers zone = true → B.level < A.level

variable {s : State} {zone : Fin 16} {order : List (Fin 4)} {a : Fin 4}

/-- An alert that does not count leaves the best as it is. -/
theorem BestOf.snoc_of_not_covers {best : Option (Fin 4 × Alert)} (h : BestOf s zone order best)
    (hno : ∀ B ∈ s.alert a, B.covers zone = false) : BestOf s zone (order ++ [a]) best := by
  cases best with
  | none =>
    intro b hb B hB
    rcases List.mem_append.mp hb with hb | hb
    · exact h b hb B hB
    · cases List.mem_singleton.mp hb; exact hno B hB
  | some best =>
    obtain ⟨c, C⟩ := best
    obtain ⟨before, after, rfl, hC, hcov, hbefore, hafter⟩ := h
    refine ⟨before, after ++ [a], by simp, hC, hcov, hbefore, fun b hb B hB hcovB => ?_⟩
    rcases List.mem_append.mp hb with hb | hb
    · exact hafter b hb B hB hcovB
    · cases List.mem_singleton.mp hb; rw [hno B hB] at hcovB; cases hcovB

/-- An alert at least as high as the best before it takes its place. -/
theorem BestOf.snoc_of_higher {best : Option (Fin 4 × Alert)} (h : BestOf s zone order best) {A : Alert} (hA : s.alert a = some A)
    (hcov : A.covers zone = true) (hhigh : ∀ c C, best = some (c, C) → C.level ≤ A.level) :
    BestOf s zone (order ++ [a]) (some (a, A)) := by
  refine ⟨order, [], rfl, hA, hcov, ?_, by simp⟩
  cases best with
  | none => intro b hb B hB hcovB; rw [h b hb B hB] at hcovB; cases hcovB
  | some best =>
    obtain ⟨c, C⟩ := best
    obtain ⟨before, after, rfl, hC, -, hbefore, hafter⟩ := h
    have hle := hhigh c C rfl
    intro b hb B hB hcovB
    rcases List.mem_append.mp hb with hb | hb
    · exact le_trans (hbefore b hb B hB hcovB) hle
    · rcases List.mem_cons.mp hb with rfl | hb
      · rw [hC] at hB; cases hB; exact hle
      · exact le_trans (le_of_lt (hafter b hb B hB hcovB)) hle

/-- An alert lower than the best before it leaves the best as it is. -/
theorem BestOf.snoc_of_lower {c : Fin 4} {C A : Alert} (h : BestOf s zone order (some (c, C))) (hA : s.alert a = some A)
    (hlow : A.level < C.level) : BestOf s zone (order ++ [a]) (some (c, C)) := by
  obtain ⟨before, after, rfl, hC, hcov, hbefore, hafter⟩ := h
  refine ⟨before, after ++ [a], by simp, hC, hcov, hbefore, fun b hb B hB hcovB => ?_⟩
  rcases List.mem_append.mp hb with hb | hb
  · exact hafter b hb B hB hcovB
  · cases List.mem_singleton.mp hb; rw [hA] at hB; cases hB; exact hlow

theorem BestOf.snoc {best : Option (Fin 4 × Alert)} (h : BestOf s zone order best) (a : Fin 4) :
    BestOf s zone (order ++ [a]) (betterAlert s zone best a) := by
  unfold betterAlert
  cases hA : s.alert a with
  | none => exact h.snoc_of_not_covers (by simp [hA])
  | some A =>
    by_cases hcov : A.covers zone = true
    · simp only [hcov, if_true]
      cases best with
      | none => exact h.snoc_of_higher hA hcov (by simp)
      | some best =>
        obtain ⟨c, C⟩ := best
        by_cases hle : C.level ≤ A.level
        · simp only [hle, if_true]
          exact h.snoc_of_higher hA hcov fun _ _ e => by cases e; exact hle
        · simp only [hle, if_false]
          exact h.snoc_of_lower hA (not_le.mp hle)
    · simp only [hcov]
      exact h.snoc_of_not_covers fun B hB => by rw [hA] at hB; cases hB; exact Bool.eq_false_iff.mpr hcov

theorem coveringAlert_best (s : State) (zone : Fin 16) : BestOf s zone s.recency (coveringAlert s zone) := by
  rw [coveringAlert_eq]
  suffices h : ∀ xs : List (Fin 4), BestOf s zone xs (xs.foldl (betterAlert s zone) none) from h _
  intro xs
  induction xs using List.reverseRecOn with
  | nil => intro b hb; cases hb
  | append_singleton xs a ih => rw [List.foldl_append]; exact ih.snoc a

theorem coveringAlert_eq_none (h : ∀ b ∈ s.recency, ∀ B ∈ s.alert b, B.covers zone = false) : coveringAlert s zone = none := by
  cases hbest : coveringAlert s zone with
  | none => rfl
  | some best =>
    obtain ⟨a, A⟩ := best
    have hcov := coveringAlert_best s zone
    rw [hbest] at hcov
    obtain ⟨before, after, hrec, hA, hcovA, -⟩ := hcov
    have hno := h a (by simp [hrec]) A hA
    rw [hcovA] at hno; cases hno

theorem coveringAlert_isSome {b : Fin 4} {B : Alert} (hb : b ∈ s.recency) (hB : s.alert b = some B) (hcov : B.covers zone = true) :
    ∃ a A, coveringAlert s zone = some (a, A) := by
  cases hbest : coveringAlert s zone with
  | some best => exact ⟨best.1, best.2, rfl⟩
  | none =>
    have hnone := coveringAlert_best s zone
    rw [hbest] at hnone
    have hno := hnone b hb B hB
    rw [hcov] at hno; cases hno

/-! ## The lowest of its kind (R28) -/

theorem find?_finRange_eq_some {n : Nat} {p : Fin n → Bool} {i : Fin n} (hi : p i = true) (hlow : ∀ j < i, p j = false) :
    (List.finRange n).find? p = some i := by
  rw [List.find?_eq_some_iff_getElem]
  refine ⟨hi, i.val, by simp, by simp, fun j hj => ?_⟩
  have := hlow ⟨j, by omega⟩ hj
  simpa using this

theorem find?_finRange_eq_none {n : Nat} {p : Fin n → Bool} (h : ∀ i, p i = false) : (List.finRange n).find? p = none :=
  List.find?_eq_none.mpr fun i _ => by simp [h i]

/-- An open window of the type that includes the lane (R28, R124). -/
def Window.Takes (W : Window) (k : WindowType) (l : Fin 32) : Prop := W.isOpen = true ∧ W.cfg.type = k ∧ W.cfg.lanes.getLsbD l.val = true

theorem openWindow_eq_some {k : WindowType} {l : Fin 32} {w : Fin 16} (h : (s.window w).Takes k l)
    (hlow : ∀ v < w, ¬(s.window v).Takes k l) : openWindow s k l = some w := by
  refine find?_finRange_eq_some (by simpa [Window.Takes, and_assoc] using h) fun v hv => ?_
  have := hlow v hv
  rw [Bool.eq_false_iff]
  simpa [Window.Takes, and_assoc] using this

theorem openWindow_eq_none {k : WindowType} {l : Fin 32} (h : ∀ w, ¬(s.window w).Takes k l) : openWindow s k l = none :=
  find?_finRange_eq_none fun w => by
    rw [Bool.eq_false_iff]
    simpa [Window.Takes, and_assoc] using h w

/-- An avail in OUT on the lane, one avail left out (R28, R35). -/
def OutOn (s : State) (l : Fin 32) (w : Option Handle) (i : Fin 64) : Prop :=
  (s.avail i).state = .out ∧ (s.avail i).lane = l ∧ w ≠ some (s.handleOf i)

theorem outOn_iff {l : Fin 32} {w : Option Handle} {i : Fin 64} :
    (decide ((s.avail i).state = .out) && decide ((s.avail i).lane = l) && decide (some (s.handleOf i) ≠ w)) = true ↔ OutOn s l w i := by
  rw [OutOn, ne_comm (a := w)]
  simp [and_assoc]

theorem outAvail_eq_some {l : Fin 32} {w : Option Handle} {i : Fin 64} (h : OutOn s l w i) (hlow : ∀ j < i, ¬OutOn s l w j) :
    outAvail s l w = some i :=
  find?_finRange_eq_some (outOn_iff.mpr h) fun j hj => Bool.eq_false_iff.mpr (outOn_iff.not.mpr (hlow j hj))

theorem outAvail_eq_none {l : Fin 32} {w : Option Handle} (h : ∀ i, ¬OutOn s l w i) : outAvail s l w = none :=
  find?_finRange_eq_none fun i => Bool.eq_false_iff.mpr (outOn_iff.not.mpr (h i))

/-! ## The owner and its target, rank by rank (R28) -/

variable {l : Fin 32} {w : Option Handle}

theorem resolve_of_alert {A : Alert} (h : coveringAlert s (s.lane l).cfg.zone = some (a, A)) :
    resolve s l w = (.alert a, A.source) := by
  unfold resolve; rw [h]

theorem resolve_of_window {v : Fin 16} (h : coveringAlert s (s.lane l).cfg.zone = none) (hv : openWindow s .insert l = some v) :
    resolve s l w = (.window v, (s.window v).cfg.source) := by
  unfold resolve; rw [h, hv]

theorem resolve_of_avail {i : Fin 64} (h : coveringAlert s (s.lane l).cfg.zone = none) (hv : openWindow s .insert l = none)
    (hi : outAvail s l w = some i) : resolve s l w = (.avail (s.handleOf i), (s.avail i).target) := by
  unfold resolve; rw [h, hv, hi]

theorem resolve_of_network (h : coveringAlert s (s.lane l).cfg.zone = none) (hv : openWindow s .insert l = none)
    (hi : outAvail s l w = none) : resolve s l w = (.network, .net) := by
  unfold resolve; rw [h, hv, hi]

/-- The target of an avail with a holder (R28). -/
theorem Avail.target_of_holder {a : Avail} {h : Claim} (hh : a.holder = some h) :
    a.target = if a.fillStep = .committed ∨ a.fillStep = .confirmed then .fill else h.source := by
  unfold Avail.target; rw [hh]
  cases a.fillStep <;> simp

end Sys2Proof.Machine

namespace Sys2Proof.Certificates

open Sys2Proof.Machine

/-- Settles O32, rank by rank. -/
theorem ownerPrecedence : Obligations.OwnerPrecedence := by
  refine fun s l w => ⟨fun ⟨b, hb, B, hB, hcov⟩ => ?_, fun hno => ?_⟩
  · obtain ⟨a, A, hbest⟩ := coveringAlert_isSome hb hB hcov
    have h := coveringAlert_best s (s.lane l).cfg.zone
    rw [hbest] at h
    obtain ⟨before, after, hrec, hA, hcovA, hbefore, hafter⟩ := h
    exact ⟨before, a, after, hrec, A, hA, hcovA, resolve_of_alert hbest, hbefore, hafter⟩
  · have hc : coveringAlert s (s.lane l).cfg.zone = none := coveringAlert_eq_none hno
    refine ⟨fun v hv hlow => resolve_of_window hc (openWindow_eq_some hv hlow), fun hnone => ?_⟩
    have hv : openWindow s .insert l = none := openWindow_eq_none hnone
    refine ⟨fun i h hi hlow hh => ?_, fun hout => resolve_of_network hc hv (outAvail_eq_none hout)⟩
    rw [← Avail.target_of_holder hh]
    exact resolve_of_avail hc hv (outAvail_eq_some hi hlow)

end Sys2Proof.Certificates
end

section
/-! SUPPORT. A matched DONE, part by part: the end of a stop, the step-done, and the planned transition (R23, R33, R45, R51). -/

namespace Sys2Proof.Machine

/-! ## The end of a stop (R23) -/

theorem endStop_stop {l : Fin 32} {k : StepKind} {s : State} (h : (s.lane l).state = .stopping ∧ k = .stop) :
    endStop l k s = raise (.laneState l .state .off (s.lane l).owner (s.lane l).confirmed (s.lane l).faultReason s.tick) []
      (s.updLane l fun L => { L with planned := none, state := .off }) := by
  unfold endStop; rw [if_pos h, setLaneState_updLane]

theorem endStop_other {l : Fin 32} {k : StepKind} {s : State} (h : (s.lane l).state ≠ .stopping ∨ k ≠ .stop) : endStop l k s = s :=
  if_neg fun ⟨hst, hk⟩ => h.elim (fun hne => hne hst) fun hne => hne hk

/-! ## The step-done (R51) -/

/-- What a step-done does, from the avail's record and the tick (R125, R126, R128, R129). -/
def doneStep (kind : StepKind) (h : Handle) (x : Source) (a : Avail) (now : Tick) (s : State) : State :=
  let head : AvailHead := { handle := h, lane := a.lane, eventId := a.eventId, tick := now }
  if a.gen ≠ h.gen then s
  else match kind with
    | .out => if a.airing = true ∨ a.final = true then raise (.spliceOut head a.holder a.outTick a.state) a.addressed s else s
    | .fill => if a.airing then s.updAvail h.slot fun a => { a with fillStep := .confirmed } else s
    | .inStep =>
      if a.state = .returning then
        let r : FinalResult := if a.released then .released else .returned
        raise (.availEnd head r a.outTick a.inTick a.frames a.holder now) a.addressed
          ((raise (.spliceIn head x a.inTick a.frames r) a.addressed s).updAvail h.slot (Avail.ending .ended r now))
      else s
    | .owner | .stop => s

/-- A step-done of an empty slot does nothing. -/
theorem doneStep_empty (kind : StepKind) (h : Handle) (x : Source) (a : Avail) (now : Tick) (s : State) (he : a.state = .empty) :
    doneStep kind h x a now s = s := by
  have hairing : a.airing = false := by unfold Avail.airing; rw [he]
  have hfinal : a.final = false := by unfold Avail.final; rw [he]
  unfold doneStep; dsimp only; split
  · rfl
  · cases kind <;> simp [hairing, hfinal, he]

theorem stepDone_eq (kind : StepKind) (h : Handle) (x : Source) (s : State) :
    stepDone kind h x s = doneStep kind h x (s.avail h.slot) s.tick s := by
  by_cases hgen : (s.avail h.slot).gen = h.gen
  · by_cases he : (s.avail h.slot).state = .empty
    · rw [doneStep_empty _ _ _ _ _ _ he]; exact if_pos (.inr he)
    · have hhandle : headOf h.slot (s.avail h.slot) s.tick =
          { handle := h, lane := (s.avail h.slot).lane, eventId := (s.avail h.slot).eventId, tick := s.tick } := by
        unfold headOf; rw [hgen]
      have hne : ¬((s.avail h.slot).gen ≠ h.gen ∨ (s.avail h.slot).state = .empty) := by simp [hgen, he]
      unfold stepDone doneStep; dsimp only
      rw [if_neg hne, if_neg (not_not_intro hgen), head_eq, hhandle]
      cases kind with
      | inStep =>
        dsimp only
        split
        · rw [finish_eq _ _ _ _ rfl, raise_avail, raise_tick]
          show raise (.availEnd (headOf _ _ _) _ _ _ _ _ _) _ _ = _
          rw [hhandle]
        · rfl
      | _ => rfl
  · unfold stepDone doneStep; dsimp only
    rw [if_pos (.inl hgen), if_pos hgen]

/-! ## A report of a committed step (R126, R127) -/

/-- The report of a committed FILL step, from the avail's record before it (R126, R139). -/
def reportedFill (h : Handle) (e : Tick) (b : Avail) (now : Tick) (s : State) : State :=
  let v := s.updAvail h.slot fun a => { a with fillStep := .committed }
  if b.gen ≠ h.gen ∨ b.live = false then s
  else match b.fillTick with
    | none => v
    | some f =>
      if later e f then
        raise (.availRetimed { handle := h, lane := b.lane, eventId := b.eventId, tick := now } .step b.state b.outTick b.inTick b.frames
          b.provisional b.claimClose (some e)) b.addressed (v.updAvail h.slot fun a => { a with fillTick := some e })
      else v

theorem reportCommitted_fill (h : Handle) (e : Tick) (s : State) :
    reportCommitted true h e s = reportedFill h e (s.avail h.slot) s.tick s := by
  unfold reportCommitted reportedFill; dsimp only
  by_cases hgone : (s.avail h.slot).gen ≠ h.gen ∨ (s.avail h.slot).live = false
  · rw [if_pos hgone, if_pos hgone]
  · rw [if_neg hgone, if_neg hgone, if_pos rfl]
    have hgen : (s.avail h.slot).gen = h.gen := not_not.mp fun hne => hgone (.inl hne)
    cases (s.avail h.slot).fillTick with
    | none => rfl
    | some f =>
      dsimp only
      split
      · unfold raiseRetimed
        simp only [head_eq, headOf, State.updAvail_avail_self, State.updAvail_tick, hgen]
        rfl
      · rfl

theorem reportCommitted_in (h : Handle) (e : Tick) (s : State) :
    reportCommitted false h e s =
      if (s.avail h.slot).gen = h.gen ∧ (s.avail h.slot).live = true ∧ later e (s.avail h.slot).inTick = true then
        moveIn h.slot e .step false s
      else s := by
  unfold reportCommitted; dsimp only
  by_cases hgen : (s.avail h.slot).gen = h.gen <;> by_cases hlive : (s.avail h.slot).live = true <;> simp [hgen, hlive]

/-! ## The planned transition at a DONE (R33) -/

section Planned

variable {l : Fin 32} {s : State} {P : Planned}

theorem handlePlanned_none (h : (s.lane l).planned = none) : handlePlanned l s = s := by
  unfold handlePlanned; simp only [h]

theorem handlePlanned_owner (h : (s.lane l).planned = some P) (hk : P.kind = .owner) :
    handlePlanned l s =
      if some P.target = (s.lane l).confirmed then s.updLane l fun L => { L with planned := none }
      else commit l .owner P.target (earliestEffect (s.lane l) s.tick) none s := by
  unfold handlePlanned; simp only [h, hk]

theorem handlePlanned_stop (h : (s.lane l).planned = some P) (hk : P.kind = .stop) :
    handlePlanned l s = commit l .stop .net (earliestEffect (s.lane l) s.tick) none s := by
  unfold handlePlanned; simp only [h, hk]

theorem handlePlanned_fill (h : (s.lane l).planned = some P) (hk : P.kind = .fill) :
    handlePlanned l s =
      let e := maxTick P.effect (earliestEffect (s.lane l) s.tick)
      let u := commit l .fill .fill e P.avail s
      match P.avail with
      | none => u
      | some h => reportedFill h e (s.avail h.slot) s.tick u := by
  unfold handlePlanned; simp only [h, hk]
  cases P.avail with
  | none => rfl
  | some a => exact reportCommitted_fill ..

theorem handlePlanned_in (h : (s.lane l).planned = some P) (hk : P.kind = .inStep) :
    handlePlanned l s =
      let e := maxTick P.effect (earliestEffect (s.lane l) s.tick)
      let u := commit l .inStep (resolve s l P.avail).2 e P.avail s
      match P.avail with
      | none => u
      | some h =>
        if (s.avail h.slot).gen = h.gen ∧ (s.avail h.slot).live = true ∧ later e (s.avail h.slot).inTick = true then
          moveIn h.slot e .step false u
        else u := by
  unfold handlePlanned; simp only [h, hk]
  cases P.avail with
  | none => rfl
  | some a => exact reportCommitted_in ..

/-- The planned transition, committed or not, leaves the lane's state and its confirmed source. -/
theorem handlePlanned_lane (l : Fin 32) (s : State) :
    OneLane l s (handlePlanned l s) ∧ ((handlePlanned l s).lane l).confirmed = (s.lane l).confirmed ∧
      ((handlePlanned l s).lane l).state = (s.lane l).state := by
  have hcommit (k : StepKind) (x : Source) (e : Tick) (a : Option Handle) (t : State) (h : AvailsOnly (commit l k x e a s) t) :
      OneLane l s t ∧ (t.lane l).confirmed = (s.lane l).confirmed ∧ (t.lane l).state = (s.lane l).state := by
    rw [h.lane, commit_lane_self]
    exact ⟨(commit_oneLane ..).trans (h.oneLane l), rfl, rfl⟩
  unfold handlePlanned; dsimp only; split
  · exact ⟨.refl l s, rfl, rfl⟩
  · split
    · split
      · exact ⟨updLane_oneLane .., by rw [State.updLane_lane_self], by rw [State.updLane_lane_self]⟩
      · exact hcommit _ _ _ _ _ (.refl _)
    · exact hcommit _ _ _ _ _ (.refl _)
    all_goals
      split
      · exact hcommit _ _ _ _ _ (reportCommitted_avails ..)
      · exact hcommit _ _ _ _ _ (.refl _)

end Planned

/-! ## The whole of a matched DONE (R45) -/

/-- A matched DONE of an order that ends no stop, before the planned transition (R45, R51). -/
def doneBase (l : Fin 32) (o : Outstanding) (s : State) : State :=
  match o.avail with
  | none => settleOrder l o s
  | some h => doneStep o.kind h o.target (s.avail h.slot) s.tick (settleOrder l o s)

theorem settleOrder_tick (l : Fin 32) (o : Outstanding) (s : State) : (settleOrder l o s).tick = s.tick :=
  (tellSource_ports ..).timeKept.tick

theorem settleOrder_avail (l : Fin 32) (o : Outstanding) (s : State) (i : Fin 64) : (settleOrder l o s).avail i = s.avail i :=
  (tellSource_ports ..).avail i

theorem stepDone_settled (l : Fin 32) (o : Outstanding) (h : Handle) (s : State) :
    stepDone o.kind h o.target (settleOrder l o s) = doneStep o.kind h o.target (s.avail h.slot) s.tick (settleOrder l o s) := by
  rw [stepDone_eq, settleOrder_avail, settleOrder_tick]

theorem doneBase_avails (l : Fin 32) (o : Outstanding) (s : State) : AvailsOnly (settleOrder l o s) (doneBase l o s) := by
  unfold doneBase; split
  · exact .refl _
  · rw [← stepDone_settled]; exact stepDone_avails ..

theorem orderDone_other {l : Fin 32} {o : Outstanding} {s : State} (h : (s.lane l).state ≠ .stopping ∨ o.kind ≠ .stop) :
    orderDone l o s = handlePlanned l (doneBase l o s) := by
  have hstop : endStop l o.kind (settleOrder l o s) = settleOrder l o s := endStop_other (by rw [settleOrder_lane_self]; exact h)
  rw [orderDone_eq, hstop]
  unfold doneBase
  cases o.avail with
  | none => rfl
  | some a => exact congrArg _ (stepDone_settled l o a s)

theorem stepDone_stop (h : Handle) (x : Source) (s : State) : stepDone .stop h x s = s := ite_self _

theorem orderDone_stop {l : Fin 32} {o : Outstanding} {s : State} (hst : (s.lane l).state = .stopping) (hk : o.kind = .stop) :
    orderDone l o s = raise (.laneState l .state .off (s.lane l).owner (some o.target) (s.lane l).faultReason s.tick) []
      ((settleOrder l o s).updLane l fun L => { L with planned := none, state := .off }) := by
  have hstop := endStop_stop (l := l) (k := o.kind) (s := settleOrder l o s) (by rw [settleOrder_lane_self]; exact ⟨hst, hk⟩)
  have hdone : (match o.avail with
      | some h => stepDone o.kind h o.target (endStop l o.kind (settleOrder l o s))
      | none => endStop l o.kind (settleOrder l o s)) = endStop l o.kind (settleOrder l o s) := by
    rw [hk]; cases o.avail with
    | none => rfl
    | some h => exact stepDone_stop ..
  rw [settleOrder_lane_self, settleOrder_tick] at hstop
  refine (orderDone_eq l o s).trans ((congrArg (handlePlanned l) hdone).trans ?_)
  rw [hstop]
  exact handlePlanned_none (by rw [raise_lane, State.updLane_lane_self])

theorem matched_of_order {l : Fin 32} {seq : Byte} {s : State} {o : Outstanding} (ho : s.order l = some o) (hseq : o.seq = seq)
    (hsent : o.sent = true) : matched l seq s = some o := by
  unfold matched; rw [ho]; exact if_pos ⟨hseq, hsent⟩

theorem takeDone_matched {l : Fin 32} {seq : Byte} {s : State} {o : Outstanding} (h : matched l seq s = some o) :
    takeDone l seq s = orderDone l o s := by
  unfold takeDone; rw [h]

end Sys2Proof.Machine
end

section
/-! Lanes: a matched DONE. -/

namespace Sys2Proof.Certificates

open Sys2Proof.Machine

/-- Settles O33: the order settled, its step-done, then the planned transition by its kind. -/
theorem doneMatched : Obligations.DoneMatched := by
  intro l seq o s ho hseq hsent
  have hexec : exec (.done l seq) s = .next (orderDone l o s) := congrArg _ (takeDone_matched (matched_of_order ho hseq hsent))
  refine ⟨_, hexec, orderDone_break .., ?_⟩
  by_cases hend : (s.lane l).state = .stopping ∧ o.kind = .stop
  · obtain ⟨hst, hk⟩ := hend
    have hno : ¬((s.lane l).state ≠ .stopping ∨ o.kind ≠ .stop) := by simp [hst, hk]
    rw [orderDone_stop hst hk, raise_lane, State.updLane_lane_self, settleOrder_lane_self]
    have hone := ((settleOrder_oneLane l o s).trans (updLane_oneLane l (fun L => { L with planned := none, state := .off }) _)).trans
      (PortsOnly.oneLane (raise_ports (.laneState l .state .off (s.lane l).owner (some o.target) (s.lane l).faultReason s.tick) [] _) l)
    exact ⟨rfl, fun _ _ => ⟨rfl, rfl, rfl, settleOrder_order l o s⟩, fun h => (hno h).elim, hone.others, fun _ _ => rfl, fun h => (hno h).elim⟩
  · have hother : (s.lane l).state ≠ .stopping ∨ o.kind ≠ .stop := by tauto
    have hlane : (doneBase l o s).lane l = (s.lane l).settled o.target := by rw [(doneBase_avails ..).lane, settleOrder_lane_self]
    have htick : (doneBase l o s).tick = s.tick := (doneBase_avails ..).timeKept.tick.trans (settleOrder_tick ..)
    have heffect : earliestEffect ((doneBase l o s).lane l) (doneBase l o s).tick = earliestEffect (s.lane l) s.tick := by
      rw [hlane, htick]; rfl
    obtain ⟨hone, hconfirmed, hstate⟩ := handlePlanned_lane l (doneBase l o s)
    rw [hlane] at hconfirmed hstate
    have horder : (doneBase l o s).order l = none := ((doneBase_avails ..).order l).trans (settleOrder_order l o s)
    have hqueue : (doneBase l o s).orderQueue = s.orderQueue :=
      (doneBase_avails ..).orderQueue.trans (tellSource_ports ..).avails.orderQueue
    rw [orderDone_other hother]
    refine ⟨hconfirmed, fun hst hk => (hend ⟨hst, hk⟩).elim, fun _ => ⟨hstate, fun hp => ?_, fun P hP hk => ?_⟩,
      (((settleOrder_oneLane l o s).trans ((doneBase_avails ..).oneLane l)).trans hone).others, fun hst hk => (hend ⟨hst, hk⟩).elim,
      fun _ => ⟨fun hp => ?_, fun P hP => ⟨fun hk => ?_, fun hk => ?_, fun hk => ?_, fun hk => ?_⟩⟩⟩
    · have hplan : ((doneBase l o s).lane l).planned = none := by rw [hlane]; exact hp
      rw [handlePlanned_none hplan, hlane]
      exact ⟨rfl, horder, hqueue⟩
    · have hplan : ((doneBase l o s).lane l).planned = some P := by rw [hlane]; exact hP
      rw [handlePlanned_owner hplan hk, heffect, hlane]
      refine ⟨?_, fun htarget => ?_, fun htarget => ?_⟩
      · split
        · rw [State.updLane_lane_self]
        · rw [commit_lane_self]; rfl
      · rw [if_pos (by rw [htarget]; rfl), State.updLane_lane_self, hlane]
        exact ⟨rfl, horder⟩
      · split
        · rename_i e; exact (htarget (Option.some.inj e)).elim
        · rw [commit_lane_self, hlane, htick]; rfl
    · exact handlePlanned_none (by rw [hlane]; exact hp)
    · rw [handlePlanned_owner (by rw [hlane]; exact hP) hk, heffect, hlane]
      exact if_congr Option.some_inj rfl rfl
    · rw [handlePlanned_stop (by rw [hlane]; exact hP) hk, heffect]; rfl
    · rw [handlePlanned_fill (by rw [hlane]; exact hP) hk, heffect, htick]; rfl
    · rw [handlePlanned_in (by rw [hlane]; exact hP) hk, heffect]; rfl

end Sys2Proof.Certificates
end

section
/-! SUPPORT. What a lane fault leaves of its lane, re-resolved or not (R24, R49), and an order whose acknowledgement timer expires (R48). -/

namespace Sys2Proof.Machine

/-! ## The owner in two states (R28) -/

/-- An alert that owns a lane owns it in every state with the same alerts (R28). -/
theorem resolve_alert_congr {s t : State} {l : Fin 32} {w : Option Handle} (ha : t.alerts = s.alerts) (hr : t.recency = s.recency)
    (hzone : (t.lane l).cfg.zone = (s.lane l).cfg.zone) (h : ∃ a, (resolve s l w).1 = .alert a) : resolve t l w = resolve s l w := by
  have hcov : coveringAlert t (t.lane l).cfg.zone = coveringAlert s (s.lane l).cfg.zone := by rw [coveringAlert_congr ha hr, hzone]
  cases hbest : coveringAlert s (s.lane l).cfg.zone with
  | some best => rw [resolve_of_alert (a := best.1) (A := best.2) hbest, resolve_of_alert (hcov.trans hbest)]
  | none =>
    obtain ⟨a, ha⟩ := h
    unfold resolve at ha; rw [hbest] at ha
    dsimp only at ha
    split at ha
    · cases ha
    · split at ha <;> cases ha

/-- An owner that preempts owns the lane in every state with the same alerts and windows (R28, R29). -/
theorem resolve_congr_of_preempts {s t : State} {l : Fin 32} {w : Option Handle} (h : BreakOnly s t)
    (hzone : (t.lane l).cfg.zone = (s.lane l).cfg.zone) (hpre : (resolve s l w).1.Preempts) : resolve t l w = resolve s l w := by
  rcases hpre with halert | ⟨v, hv⟩
  · exact resolve_alert_congr h.alerts h.recency hzone halert
  · have hcov : coveringAlert t (t.lane l).cfg.zone = coveringAlert s (s.lane l).cfg.zone := by
      rw [coveringAlert_congr h.alerts h.recency, hzone]
    have hopen := openWindow_congr h.windows .insert l
    cases hbest : coveringAlert s (s.lane l).cfg.zone with
    | some best => rw [resolve_of_alert (a := best.1) (A := best.2) hbest, resolve_of_alert (hcov.trans hbest)]
    | none =>
      cases hwin : openWindow s .insert l with
      | some v => rw [resolve_of_window hbest hwin, resolve_of_window (hcov.trans hbest) (hopen.trans hwin), h.window]
      | none =>
        unfold resolve at hv; rw [hbest, hwin] at hv
        dsimp only at hv
        split at hv <;> cases hv

/-- A re-resolution leaves the owner that it took (R28, R29). -/
theorem resolve_reresolve (cause : ResolveCause) (l : Fin 32) (s : State) :
    resolve (reresolve cause l s) l none = resolve s l none := by
  obtain ⟨hcfg, -⟩ := reresolve_rest cause l s
  have hzone : ((reresolve cause l s).lane l).cfg.zone = (s.lane l).cfg.zone := congrArg LaneConfig.zone hcfg
  by_cases hpre : ∃ h, PreemptsOut l (resolve s l none).1 s h
  · obtain ⟨h, -, htakes, -⟩ := hpre
    exact resolve_congr_of_preempts (reresolve_break cause l s) hzone htakes
  · exact resolve_congr (reresolve_break cause l s) (reresolve_avails_of_not_preempts (not_exists.mp hpre)) hzone none

/-! ## A lane fault, before its re-resolution (R49) -/

/-- The state after a lane fault's notices and endings (R49, R136). -/
def fallen (l : Fin 32) (o : Outstanding) (reason : FaultReason) (code : Option FabricCode) (s : State) : State :=
  finishLane l .missed .fault (tellFault l o reason code (s.lane l) (s.updLane l fun L => L.struck o.target reason))

section Fallen

variable (l : Fin 32) (o : Outstanding) (reason : FaultReason) (code : Option FabricCode) (s : State)

theorem laneFault_fallen :
    laneFault l o reason code s =
      if faultedState (s.lane l).state = .fault then reresolve .ordinary l (fallen l o reason code s) else fallen l o reason code s :=
  laneFault_eq ..

theorem fallen_avails : AvailsOnly (s.updLane l fun L => L.struck o.target reason) (fallen l o reason code s) :=
  (tellFault_ports ..).avails.trans (finishLane_avails ..)

theorem fallen_lane_self : (fallen l o reason code s).lane l = (s.lane l).struck o.target reason := by
  rw [(fallen_avails l o reason code s).lane, State.updLane_lane_self]

theorem fallen_order (j : Fin 32) : (fallen l o reason code s).order j = s.order j := (fallen_avails l o reason code s).order j

theorem fallen_orderQueue : (fallen l o reason code s).orderQueue = s.orderQueue := (fallen_avails l o reason code s).orderQueue

theorem fallen_tick : (fallen l o reason code s).tick = s.tick := (fallen_avails l o reason code s).timeKept.tick

theorem fallen_oneLane : OneLane l s (fallen l o reason code s) :=
  (updLane_oneLane ..).trans ((fallen_avails l o reason code s).oneLane l)

theorem fallen_break : BreakOnly s (fallen l o reason code s) := (updLane_break ..).trans (fallen_avails l o reason code s).break

theorem fallen_avail {i : Fin 64} (hlive : (s.avail i).live = true) (hlane : (s.avail i).lane = l) :
    (fallen l o reason code s).avail i = (s.avail i).ending .missed .fault s.tick := by
  unfold fallen
  have hsame : ∀ i, (tellFault l o reason code (s.lane l) (s.updLane l fun L => L.struck o.target reason)).avail i = s.avail i :=
    (tellFault_ports ..).avail
  rw [finishLane_avail _ _ _ _ rfl, hsame, if_pos ⟨hlive, hlane⟩, (tellFault_ports ..).timeKept.tick]; rfl

/-- The notices of a lane fault and of its avails, written out (R49, R50, R136, R139). -/
theorem fallen_eq :
    fallen l o reason code s = (List.finRange 64).foldl (fun x i =>
      if (s.avail i).live = true ∧ (s.avail i).lane = l then
        raise (finalNotice i { s.avail i with lane := l } .missed .fault s.tick) (s.avail i).addressed
          (x.updAvail i (Avail.ending .missed .fault s.tick))
      else x) (tellFault l o reason code (s.lane l) (s.updLane l fun L => L.struck o.target reason)) := by
  have htold := tellFault_ports l o reason code (s.lane l) (s.updLane l fun L => L.struck o.target reason)
  have hsame : (tellFault l o reason code (s.lane l) (s.updLane l fun L => L.struck o.target reason)).avail = s.avail := funext htold.avail
  have htick : (tellFault l o reason code (s.lane l) (s.updLane l fun L => L.struck o.target reason)).tick = s.tick := htold.timeKept.tick
  unfold fallen
  rw [finishLane_fold _ _ _ _ rfl, hsame, htick]

/-- An alert owns the fallen lane exactly where it owned it before the fault. -/
theorem fallen_resolve_alert :
    (∃ a, (resolve (fallen l o reason code s) l none).1 = .alert a) ↔ ∃ a, (resolve s l none).1 = .alert a := by
  have hb := fallen_break l o reason code s
  have hzone : ((fallen l o reason code s).lane l).cfg.zone = (s.lane l).cfg.zone := by rw [fallen_lane_self]; rfl
  refine ⟨fun h => ?_, fun h => ?_⟩
  · rw [resolve_alert_congr hb.alerts.symm hb.recency.symm hzone.symm h]; exact h
  · rw [resolve_alert_congr hb.alerts hb.recency hzone h]; exact h

end Fallen

/-! ## What a lane fault leaves of its lane (R24, R49) -/

/-- What a lane's record and orders are after a lane fault, the queue before it known (R24, R49, R136). -/
structure AfterFault (l : Fin 32) (o : Outstanding) (reason : FaultReason) (queue : List OrderMsg) (s t : State) : Prop where
  confirmed : (t.lane l).confirmed = none
  faultReason : (t.lane l).faultReason = some reason
  failedTarget : (t.lane l).failedTarget = some o.target
  planned : (t.lane l).planned = none
  lastEffect : (t.lane l).lastEffect = if (t.lane l).committed = none then (s.lane l).lastEffect else (t.lane l).committed.map Committed.effect
  state : (t.lane l).state = faultedState (s.lane l).state
  still : faultedState (s.lane l).state ≠ .fault → (t.lane l).committed = none ∧ t.order l = none
  owner : faultedState (s.lane l).state = .fault → (t.lane l).owner = (resolve t l none).1
  spared : (∀ a, (resolve s l none).1 ≠ .alert a) ∨ (resolve s l none).2 = o.target → (t.lane l).committed = none ∧ t.order l = none
  ordered : faultedState (s.lane l).state = .fault → (∃ a, (resolve s l none).1 = .alert a) → (resolve s l none).2 ≠ o.target →
    (t.lane l).committed =
      some ⟨(s.lane l).orderSeq, (resolve s l none).2, earliestEffect (s.lane l) s.tick, s.tick⟩
  avail : ∀ i, (s.avail i).live = true → (s.avail i).lane = l → t.avail i = (s.avail i).ending .missed .fault s.tick
  one : OneLane l s t
  orderQueue : t.orderQueue = queue ++ (match (t.lane l).committed with
    | none => []
    | some c => [({ lane := l, seq := c.seq, target := c.target, effect := c.effect } : OrderMsg)])

variable {l : Fin 32} {o : Outstanding} {reason : FaultReason} {code : Option FabricCode} {s : State}

/-- A lane that does not come to FAULT is left as it fell. -/
theorem fallen_after (horder : s.order l = none) (hst : faultedState (s.lane l).state ≠ .fault) :
    AfterFault l o reason s.orderQueue s (fallen l o reason code s) := by
  have hlane := fallen_lane_self l o reason code s
  have ho := (fallen_order l o reason code s l).trans horder
  have hc : ((fallen l o reason code s).lane l).committed = none := by rw [hlane]; rfl
  have hq : (fallen l o reason code s).orderQueue = s.orderQueue := fallen_orderQueue ..
  exact {
    confirmed := by rw [hlane]; rfl
    faultReason := by rw [hlane]; rfl
    failedTarget := by rw [hlane]; rfl
    planned := by rw [hlane]; rfl
    lastEffect := by rw [if_pos hc, hlane]; rfl
    state := by rw [hlane]; rfl
    still := fun _ => ⟨hc, ho⟩
    owner := fun h => (hst h).elim
    spared := fun _ => ⟨hc, ho⟩
    ordered := fun h => (hst h).elim
    avail := fun i => fallen_avail l o reason code s
    one := fallen_oneLane ..
    orderQueue := by rw [hc, hq]; simp }

/-- Whether the re-resolution of a fallen lane in FAULT commits an order (R24). -/
theorem fallen_commits_iff (hst : faultedState (s.lane l).state = .fault) (x : Source) (w : Owner) :
    ((fallen l o reason code s).lane l).Commits w x .ordinary ↔ (∃ a, w = .alert a) ∧ x ≠ o.target := by
  rw [fallen_lane_self]
  unfold Lane.Commits Lane.Acts Lane.Needs Lane.Spares Lane.reference Lane.struck
  dsimp only
  rw [hst]
  simp only [reduceCtorEq, false_or, true_and, ne_eq, not_false_eq_true, and_true, or_false, Option.some.injEq]
  tauto

/-- A re-resolution that commits nothing plans nothing on a lane without an order and without a plan (R29). -/
theorem Lane.Plans.eq_none {L : Lane} {w : Owner} {x : Source} {cause : ResolveCause} {b : Bool} {P : Option Planned}
    (h : L.Plans w x cause b P) (hno : ¬L.Commits w x cause) (hc : L.committed = none) (hp : L.planned = none) : P = none := by
  by_cases hacts : L.Acts w
  · by_cases hneeds : L.Needs x cause
    · by_cases hspares : L.Spares x cause
      · rw [h.spared hacts hneeds hspares, hp]
      · exact (hno ⟨hacts, hneeds, hspares, hc⟩).elim
    · rw [h.unneeded hacts hneeds, Lane.planUnneeded_of_none _ _ hp]
  · rw [h.idle hacts]; unfold Lane.planLessOwner; rw [hp]; exact ite_self _

/-- A lane in FAULT is re-resolved, and its order, if any, is the alert's (R24). -/
theorem reresolve_fallen_after (horder : s.order l = none) (hst : faultedState (s.lane l).state = .fault) :
    AfterFault l o reason s.orderQueue s (reresolve .ordinary l (fallen l o reason code s)) := by
  have hlane := fallen_lane_self l o reason code s
  have htick := fallen_tick l o reason code s
  obtain ⟨-, -, hstate, hconfirmed, hreason, hfailed⟩ := reresolve_rest .ordinary l (fallen l o reason code s)
  rw [hlane] at hstate hconfirmed hreason hfailed
  have halert := fallen_resolve_alert l o reason code s
  have hresolve (h : ∃ a, (resolve s l none).1 = .alert a) : resolve (fallen l o reason code s) l none = resolve s l none :=
    resolve_alert_congr (fallen_break ..).alerts (fallen_break ..).recency (by rw [hlane]; rfl) h
  have hiff := fallen_commits_iff (o := o) (reason := reason) (code := code) hst
    (resolve (fallen l o reason code s) l none).2 (resolve (fallen l o reason code s) l none).1
  have howner : ((reresolve .ordinary l (fallen l o reason code s)).lane l).owner =
      (resolve (reresolve .ordinary l (fallen l o reason code s)) l none).1 := by rw [reresolve_owner, resolve_reresolve]
  have hone : OneLane l s (reresolve .ordinary l (fallen l o reason code s)) := (fallen_oneLane ..).trans (reresolve_oneLane ..)
  have havail (i : Fin 64) (hlive : (s.avail i).live = true) (hon : (s.avail i).lane = l) :
      (reresolve .ordinary l (fallen l o reason code s)).avail i = (s.avail i).ending .missed .fault s.tick := by
    have hend := fallen_avail l o reason code s hlive hon
    have hout : ((fallen l o reason code s).avail i).state ≠ .out := by rw [hend]; exact AvailState.noConfusion
    exact (reresolve_avail_of_not_out hout).trans hend
  by_cases hcom : ((fallen l o reason code s).lane l).Commits (resolve (fallen l o reason code s) l none).1
      (resolve (fallen l o reason code s) l none).2 .ordinary
  · obtain ⟨hfell, htarget⟩ := hiff.mp hcom
    have hown := halert.mp hfell
    have hsame := hresolve hown
    rw [hsame] at htarget
    have heq := reresolve_commits hcom
    have hrec : (reresolve .ordinary l (fallen l o reason code s)).lane l = Lane.afterCommit
        { (s.lane l).struck o.target reason with owner := (resolve s l none).1 } (resolve s l none).2 (earliestEffect (s.lane l) s.tick) s.tick := by
      rw [heq, commit_lane_self, setOwnerField_lane_self, setOwnerField_tick, hlane, htick, hsame]; rfl
    have hq : (reresolve .ordinary l (fallen l o reason code s)).orderQueue =
        s.orderQueue ++ [⟨l, (s.lane l).orderSeq, (resolve s l none).2, earliestEffect (s.lane l) s.tick⟩] := by
      rw [heq, commit_orderQueue, setOwnerField_orderQueue, fallen_orderQueue, setOwnerField_lane_self, hlane, htick, hsame]; rfl
    exact {
      confirmed := hconfirmed
      faultReason := hreason
      failedTarget := hfailed
      planned := by rw [hrec]; rfl
      lastEffect := by rw [hrec]; rfl
      state := hstate
      still := fun h => (h hst).elim
      owner := fun _ => howner
      spared := fun h => (h.elim (fun hno => hno _ hown.choose_spec) fun e => htarget e).elim
      ordered := fun _ _ _ => by rw [hrec]; rfl
      avail := havail
      one := hone
      orderQueue := by rw [hq, hrec]; rfl }
  · have hkept := reresolve_orderKept hcom
    obtain ⟨hcommitted, horderKept, hlast, -, hqueue⟩ := reresolve_keeps hcom
    have hc : ((reresolve .ordinary l (fallen l o reason code s)).lane l).committed = none := by rw [hcommitted, hlane]; rfl
    have ho : (reresolve .ordinary l (fallen l o reason code s)).order l = none := by rw [horderKept, fallen_order, horder]
    exact {
      confirmed := hconfirmed
      faultReason := hreason
      failedTarget := hfailed
      planned := (reresolve_planned hcom).1.eq_none hcom (by rw [hlane]; rfl) (by rw [hlane]; rfl)
      lastEffect := by rw [if_pos hc, hlast, hlane]; rfl
      state := hstate
      still := fun _ => ⟨hc, ho⟩
      owner := fun _ => howner
      spared := fun _ => ⟨hc, ho⟩
      ordered := fun _ hown htarget => (hcom (hiff.mpr ⟨halert.mpr hown, by rw [hresolve hown]; exact htarget⟩)).elim
      avail := havail
      one := hone
      orderQueue := by rw [hqueue, fallen_orderQueue, hc]; simp }

theorem laneFault_after (horder : s.order l = none) : AfterFault l o reason s.orderQueue s (laneFault l o reason code s) := by
  rw [laneFault_fallen]
  split
  · rename_i hst; exact reresolve_fallen_after horder hst
  · rename_i hst; exact fallen_after horder hst

/-- A lane fault told of the state before its order was removed. -/
theorem AfterFault.of_same {queue : List OrderMsg} {b t : State} (h : AfterFault l o reason queue b t) (hlane : b.lane l = s.lane l)
    (havail : b.avail = s.avail) (htick : b.tick = s.tick) (hresolve : resolve b l none = resolve s l none) (hone : OneLane l s b) :
    AfterFault l o reason queue s t := by
  obtain ⟨h1, h2, h3, h4, h5, h6, h7, h8, h9, h10, h11, h12, h13⟩ := h
  rw [hlane, htick] at h10
  rw [hlane] at h5 h6 h7 h8
  rw [hresolve] at h9 h10
  rw [havail, htick] at h11
  exact ⟨h1, h2, h3, h4, h5, h6, h7, h8, h9, h10, h11, hone.trans h12, h13⟩

/-! ## The acknowledgement timer (R48) -/

theorem dropOrder_eq (l : Fin 32) (s : State) :
    dropOrder l s = { s with orderQueue := s.orderQueue.filter fun m => decide (m.lane ≠ l), sending := (dropOrder l s).sending } := by
  unfold dropOrder; dsimp only; split <;> rfl

/-- The ORDER of the lane stands at the head of the queue of a busy link (R39, R48). -/
theorem beingSent_iff (l : Fin 32) (s : State) :
    beingSent l s = true ↔ s.sending ≠ none ∧ ∃ m rest, s.orderQueue = m :: rest ∧ m.lane = l := by
  unfold beingSent
  cases s.sending <;> cases s.orderQueue <;> simp

theorem dropOrder_sending_of_sent {l : Fin 32} {s : State} (h : beingSent l s = true) :
    (dropOrder l s).sending = if (s.orderQueue.filter fun m => decide (m.lane ≠ l)) = [] then none else some s.tick := by
  unfold dropOrder; rw [if_pos h]; rfl

theorem dropOrder_sending_of_not_sent {l : Fin 32} {s : State} (h : beingSent l s ≠ true) : (dropOrder l s).sending = s.sending := by
  unfold dropOrder; rw [if_neg h]

theorem takeFault_matched {l : Fin 32} {seq : Byte} {c : FabricCode} {s : State} {o : Outstanding} (h : matched l seq s = some o) :
    takeFault l seq c s = laneFault l o .fabric (some c) (s.setOrder l none) := by
  unfold takeFault; rw [h]

/-- The state that an expiry's lane fault starts from (R48). -/
def expired (l : Fin 32) (o : Outstanding) (s : State) : State := (if o.sent then s else dropOrder l s).setOrder l none

theorem takeAckExpiry_due {l : Fin 32} {s : State} {o : Outstanding} (ho : s.order l = some o) (hdue : o.ackExpiry = s.tick) :
    takeAckExpiry l s = laneFault l o .timeout none (expired l o s) := by
  have h : ackDue l s = true := by unfold ackDue; rw [ho]; exact decide_eq_true hdue
  unfold takeAckExpiry; rw [ho]; exact if_pos h

theorem expired_eq (l : Fin 32) (o : Outstanding) (s : State) :
    expired l o s = ({ s with
      orderQueue := if o.sent then s.orderQueue else s.orderQueue.filter fun m => decide (m.lane ≠ l)
      sending := (expired l o s).sending } : State).setOrder l none := by
  unfold expired
  split
  · rfl
  · exact congrArg (fun x => State.setOrder x l none) (dropOrder_eq l s)

end Sys2Proof.Machine
end

section
/-! Lanes: a lane fault. -/

namespace Sys2Proof.Certificates

open Sys2Proof.Machine

/-- The clauses of the statement on the lane's record, by the state that the lane had. -/
theorem afterFault_clauses {l : Fin 32} {o : Outstanding} {reason : FaultReason} {queue : List OrderMsg} {s t : State}
    (h : AfterFault l o reason queue s t) :
    (t.lane l).confirmed = none ∧ (t.lane l).faultReason = some reason ∧ (t.lane l).failedTarget = some o.target ∧
      (t.lane l).planned = none ∧ (t.lane l).lastEffect = (if (t.lane l).committed = none then (s.lane l).lastEffect
        else (t.lane l).committed.map Committed.effect) ∧
      ((s.lane l).state = .run → (t.lane l).state = .fault) ∧ ((s.lane l).state = .fault → (t.lane l).state = .fault) ∧
      ((s.lane l).state = .stopping → (t.lane l).state = .off ∧ (t.lane l).committed = none ∧ (t.lane l).planned = none ∧ t.order l = none) ∧
      ((s.lane l).state = .run ∨ (s.lane l).state = .fault →
        (t.lane l).owner = (resolve t l none).1 ∧
        ((∀ a, (resolve s l none).1 ≠ .alert a) ∨ (resolve s l none).2 = o.target → (t.lane l).committed = none ∧ t.order l = none) ∧
        ((∃ a, (resolve s l none).1 = .alert a) → (resolve s l none).2 ≠ o.target → (t.lane l).committed =
          some { seq := (s.lane l).orderSeq, target := (resolve s l none).2, effect := earliestEffect (s.lane l) s.tick, commit := s.tick })) ∧
      (∀ i, (s.avail i).live = true → (s.avail i).lane = l →
        t.avail i = { s.avail i with state := .missed, result := some .fault, finalTick := some s.tick, claims := [] }) ∧
      ∀ j, j ≠ l → t.lane j = s.lane j ∧ t.order j = s.order j := by
  refine ⟨h.confirmed, h.faultReason, h.failedTarget, h.planned, h.lastEffect, fun hst => ?_, fun hst => ?_, fun hst => ?_, fun hst => ?_,
    h.avail, h.one.others⟩
  · rw [h.state, hst]; rfl
  · rw [h.state, hst]; rfl
  · have hoff : faultedState (s.lane l).state = .off := by rw [hst]; rfl
    obtain ⟨hc, ho⟩ := h.still (by rw [hoff]; exact LaneState.noConfusion)
    exact ⟨h.state.trans hoff, hc, h.planned, ho⟩
  · have hfault : faultedState (s.lane l).state = .fault := by rcases hst with hst | hst <;> rw [hst] <;> rfl
    exact ⟨h.owner hfault, h.spared, h.ordered hfault⟩

/-- The state of a faulted lane, as the statement spells it. -/
theorem faultedState_eq (x : LaneState) : (match x with | .run => LaneState.fault | .stopping => .off | x => x) = faultedState x := by
  cases x <;> rfl

/-- A lane fault as the statement spells it, after the order's removal and a change of the link. -/
theorem laneFault_spelt (l : Fin 32) (o : Outstanding) (reason : FaultReason) (code : Option FabricCode) (s : State) (q : List OrderMsg)
    (x : Option Tick) (next : LaneState) (hnext : next = faultedState (s.lane l).state) :
    Machine.laneFault l o reason code (({ s with orderQueue := q, sending := x } : State).setOrder l none) =
      let L := s.lane l
      let struck := (({ s with orderQueue := q, sending := x } : State).setOrder l none).updLane l fun L =>
        { L with confirmed := none, committed := none, planned := none, faultReason := some reason, failedTarget := some o.target
                 state := next }
      let sourced := if L.confirmed = none then struck
        else raise (.laneState l .source L.state L.owner none L.faultReason s.tick) [] struck
      let turned := if next = L.state then sourced else raise (.laneState l .state next L.owner none (some reason) s.tick) [] sourced
      let missed := (List.finRange 64).foldl (fun x i =>
        let a := s.avail i
        if a.live = true ∧ a.lane = l then
          raise (.availMissed { head := { handle := { slot := i, gen := a.gen }, lane := l, eventId := a.eventId, tick := s.tick }
                                reason := .fault, left := a.state, outTick := a.outTick, inTick := a.inTick, holder := a.holder
                                finalTick := s.tick }) a.addressed
            (x.updAvail i fun a => { a with state := .missed, result := some .fault, finalTick := some s.tick, claims := [] })
        else x) (raise (.laneFault l o reason code next s.tick) [] turned)
      if next = .fault then reresolve .ordinary l missed else missed := by
  have hstruck : (({ s with orderQueue := q, sending := x } : State).setOrder l none).updLane l (fun L =>
      { L with confirmed := none, committed := none, planned := none, faultReason := some reason, failedTarget := some o.target
               state := next }) =
      (({ s with orderQueue := q, sending := x } : State).setOrder l none).updLane l fun L => L.struck o.target reason :=
    updLane_congr (by rw [hnext]; rfl)
  dsimp only
  rw [hstruck, laneFault_fallen, fallen_eq, hnext]
  rfl

/-- Settles O35: a lane fault from the order's removal on, and what an expiry removes before it. -/
theorem laneFault : Obligations.LaneFault := by
  intro l o code s ho
  refine ⟨fun hsent => ?_, fun hdue => ?_⟩
  · have hexec : exec (.fault l o.seq code) s = .next (Machine.laneFault l o .fabric (some code) (s.setOrder l none)) :=
      congrArg _ (takeFault_matched (matched_of_order ho rfl hsent))
    have hafter : AfterFault l o .fabric s.orderQueue s (Machine.laneFault l o .fabric (some code) (s.setOrder l none)) :=
      (laneFault_after (State.setOrder_order_self ..)).of_same rfl rfl rfl rfl (setOrder_oneLane ..)
    exact ⟨_, hexec, afterFault_clauses hafter, (setOrder_break ..).trans (laneFault_break ..), hafter.orderQueue,
      laneFault_spelt l o .fabric (some code) s s.orderQueue s.sending _ (faultedState_eq _)⟩
  · let b := expired l o s
    have hexec : exec (.ackTimerExpiry l) s = .next (Machine.laneFault l o .timeout none b) := congrArg _ (takeAckExpiry_due ho hdue)
    have hb : b = ({ s with
        orderQueue := if o.sent then s.orderQueue else s.orderQueue.filter fun m => decide (m.lane ≠ l)
        sending := b.sending } : State).setOrder l none := expired_eq l o s
    have hnone : b.order l = none := State.setOrder_order_self ..
    have hsending : (Machine.laneFault l o .timeout none b).sending = b.sending := (laneFault_break ..).sending
    have hone : OneLane l s b := by rw [hb]; exact ⟨(setOrder_oneLane l none s).others⟩
    have hafter : AfterFault l o .timeout b.orderQueue s (Machine.laneFault l o .timeout none b) :=
      (laneFault_after hnone).of_same (by rw [hb]; rfl) (by rw [hb]; rfl) (by rw [hb]; rfl) (by rw [hb]; rfl) hone
    refine ⟨_, hexec, afterFault_clauses hafter, ?_, ?_, fun hsent => ?_, fun hsent => ?_⟩
    · have hbreak : BreakOnly { s with sending := b.sending } b := by rw [hb]; rfl
      rw [hsending]
      exact hbreak.trans (laneFault_break ..)
    · rw [hsending]
      refine (congrArg (Machine.laneFault l o .timeout none) hb).trans ?_
      exact laneFault_spelt l o .timeout none s _ b.sending _ (faultedState_eq _)
    · have hq : b.orderQueue = s.orderQueue := by rw [hb]; exact if_pos hsent
      have hx : b.sending = s.sending := by show (expired l o s).sending = _; unfold expired; rw [if_pos hsent]; rfl
      rw [hsending, ← hq]
      exact ⟨hafter.orderQueue, hx⟩
    · have hno : ¬o.sent = true := by rw [hsent]; decide
      have hq : b.orderQueue = s.orderQueue.filter fun m => decide (m.lane ≠ l) := by rw [hb]; exact if_neg hno
      have hx : b.sending = (dropOrder l s).sending := by show (expired l o s).sending = _; unfold expired; rw [if_neg hno]; rfl
      rw [hsending, hx, ← hq]
      refine ⟨hafter.orderQueue, fun hcut => ?_, fun hcut => ?_⟩
      · rw [hq]; exact dropOrder_sending_of_sent ((beingSent_iff l s).mpr hcut)
      · exact dropOrder_sending_of_not_sent fun h => hcut ((beingSent_iff l s).mp h)

end Sys2Proof.Certificates
end

section
/-! SUPPORT. The out commit point, check by check (R124), and the OUT step (R34). -/

namespace Sys2Proof.Machine

/-! ## The states of an avail (R117) -/

theorem Avail.live_iff (a : Avail) : a.live = true ↔ a.state ∈ [AvailState.armed, .closed, .out, .returning] := by
  cases h : a.state <;> simp [Avail.live, h]

theorem Avail.airing_iff (a : Avail) : a.airing = true ↔ a.state ∈ [AvailState.out, .returning] := by
  cases h : a.state <;> simp [Avail.airing, h]

theorem Avail.final_iff (a : Avail) : a.final = true ↔ a.state ∈ [AvailState.ended, .cancelled, .missed] := by
  cases h : a.state <;> simp [Avail.final, h]

theorem Avail.addressed_eq (a : Avail) : a.addressed = (a.holder.map Claim.port).toList := by
  unfold Avail.addressed; cases a.holder <;> rfl

/-! ## The checks (R124) -/

theorem Owner.isAlert_iff (o : Owner) : o.isAlert = true ↔ ∃ x, o = .alert x := by
  cases o <;> simp [Owner.isAlert]

/-- An open window of the type takes the lane. -/
theorem openWindow_isSome_iff (s : State) (k : WindowType) (l : Fin 32) :
    (openWindow s k l).isSome = true ↔ ∃ w, (s.window w).Takes k l := by
  simp [openWindow, List.find?_isSome, Window.Takes, and_assoc]

/-- Another avail airs on the lane, or an order is outstanding (R124, check 6). -/
def LaneBusy (i : Fin 64) (s : State) : Prop :=
  (∃ j, j ≠ i ∧ (s.avail j).airing = true ∧ (s.avail j).lane = (s.avail i).lane) ∨ (s.lane (s.avail i).lane).committed ≠ none

theorem laneBusy_iff (i : Fin 64) (s : State) :
    (laneTaken i (s.avail i).lane s = true ∨ (s.lane (s.avail i).lane).committed.isSome = true) ↔ LaneBusy i s := by
  unfold LaneBusy laneTaken
  cases (s.lane (s.avail i).lane).committed <;> simp [and_assoc]

section Checks

variable {i : Fin 64} {s : State}

theorem outCommit_fault (h : (s.lane (s.avail i).lane).state = .fault) : outCommit i s = finish i .missed .fault s := if_pos h

theorem outCommit_off (h : (s.lane (s.avail i).lane).state = .off ∨ (s.lane (s.avail i).lane).state = .stopping) :
    outCommit i s = finish i .cancelled .laneOff s := by
  unfold outCommit
  rcases h with h | h <;> simp [h]

variable (hrun : (s.lane (s.avail i).lane).state = .run)

include hrun

theorem outCommit_alert (h : ∃ x, (s.lane (s.avail i).lane).owner = .alert x) : outCommit i s = finish i .missed .alert s := by
  unfold outCommit
  simp [hrun, (Owner.isAlert_iff _).mpr h]

variable (halert : ¬∃ x, (s.lane (s.avail i).lane).owner = .alert x)

include halert

theorem outCommit_window (h : ∃ w, (s.window w).Takes .insert (s.avail i).lane) : outCommit i s = finish i .missed .window s := by
  unfold outCommit
  simp [hrun, (Owner.isAlert_iff _).not.mpr halert, (openWindow_isSome_iff _ _ _).mpr h]

variable (hinsert : ¬∃ w, (s.window w).Takes .insert (s.avail i).lane)

include hinsert

theorem outCommit_blackout (h : ∃ w, (s.window w).Takes .blackout (s.avail i).lane) :
    outCommit i s = finish i .missed .blackout s := by
  unfold outCommit
  simp [hrun, (Owner.isAlert_iff _).not.mpr halert, (openWindow_isSome_iff _ _ _).not.mpr hinsert, (openWindow_isSome_iff _ _ _).mpr h]

variable (hblackout : ¬∃ w, (s.window w).Takes .blackout (s.avail i).lane)

include hblackout

/-- The checks up to the windows' let the break go on to its holder (R124, checks 1 to 4). -/
theorem outCommit_holder :
    outCommit i s = match (s.avail i).holder with
      | none => finish i .ended .unfilled s
      | some h =>
        if laneTaken i (s.avail i).lane s = true ∨ (s.lane (s.avail i).lane).committed.isSome = true then finish i .missed .laneBusy s
        else if atOrAfter (s.avail i).outTick (earliestEffect (s.lane (s.avail i).lane) s.tick) = false then finish i .missed .late s
        else reresolve .ordinary (s.avail i).lane
          ((commit (s.avail i).lane .out h.source (s.avail i).outTick (some (s.handleOf i)) s).updAvail i fun a => { a with state := .out }) := by
  unfold outCommit
  simp only [hrun, (Owner.isAlert_iff _).not.mpr halert, (openWindow_isSome_iff _ _ _).not.mpr hinsert,
    (openWindow_isSome_iff _ _ _).not.mpr hblackout, reduceCtorEq, ne_eq, not_true_eq_false, if_false] <;>
    cases (s.avail i).holder <;> rfl

theorem outCommit_unfilled (h : (s.avail i).holder = none) : outCommit i s = finish i .ended .unfilled s := by
  rw [outCommit_holder hrun halert hinsert hblackout, h]

theorem outCommit_busy {h : Claim} (hh : (s.avail i).holder = some h) (hbusy : LaneBusy i s) :
    outCommit i s = finish i .missed .laneBusy s := by
  rw [outCommit_holder hrun halert hinsert hblackout, hh]
  exact if_pos ((laneBusy_iff i s).mpr hbusy)

theorem outCommit_late {h : Claim} (hh : (s.avail i).holder = some h) (hbusy : ¬LaneBusy i s)
    (hlate : atOrAfter (s.avail i).outTick (earliestEffect (s.lane (s.avail i).lane) s.tick) = false) :
    outCommit i s = finish i .missed .late s := by
  rw [outCommit_holder hrun halert hinsert hblackout, hh]
  exact (if_neg ((laneBusy_iff i s).not.mpr hbusy)).trans (if_pos hlate)

theorem outCommit_out {h : Claim} (hh : (s.avail i).holder = some h) (hbusy : ¬LaneBusy i s)
    (htime : atOrAfter (s.avail i).outTick (earliestEffect (s.lane (s.avail i).lane) s.tick) = true) :
    outCommit i s = reresolve .ordinary (s.avail i).lane
      ((commit (s.avail i).lane .out h.source (s.avail i).outTick (some (s.handleOf i)) s).updAvail i fun a => { a with state := .out }) := by
  rw [outCommit_holder hrun halert hinsert hblackout, hh]
  exact (if_neg ((laneBusy_iff i s).not.mpr hbusy)).trans (if_neg (by rw [htime]; decide))

end Checks

/-! ## The OUT step (R34, R124) -/

theorem avail_eq_of_avails {s t : State} (h : t.avails = s.avails) (i : Fin 64) : t.avail i = s.avail i := by
  unfold State.avail; rw [h]

/-- The avail alone in OUT on its lane owns it, where no alert covers it and no INSERT window takes it (R28). -/
theorem resolve_of_alone {i : Fin 64} {l : Fin 32} {s : State} (hcover : coveringAlert s (s.lane l).cfg.zone = none)
    (hinsert : ¬∃ w, (s.window w).Takes .insert l) (hout : (s.avail i).state = .out) (hlane : (s.avail i).lane = l)
    (halone : ∀ k, k ≠ i → (s.avail k).state = .out → (s.avail k).lane ≠ l) :
    resolve s l none = (.avail (s.handleOf i), (s.avail i).target) := by
  refine resolve_of_avail hcover (openWindow_eq_none (not_exists.mp hinsert)) ?_
  refine outAvail_eq_some ⟨hout, hlane, by simp⟩ fun j hj => ?_
  rintro ⟨hjout, hjlane, -⟩
  exact halone j (ne_of_lt hj) hjout hjlane

theorem takeOutCommit_due {i : Fin 64} {s : State} (hclosed : (s.avail i).state = .closed)
    (hdue : (s.avail i).outTick - BitVec.ofNat 48 9000 = s.tick) : takeOutCommit i s = outCommit i s :=
  if_pos (by unfold outDue; simp only [hclosed, decide_true, Bool.true_and, decide_eq_true_eq]; exact hdue)

end Sys2Proof.Machine
end

section
/-! Avails: the out commit point. -/

namespace Sys2Proof.Certificates

open Sys2Proof.Machine

/-- The end of a closed avail, as a state with its notice (R117, R138, R139). -/
theorem outCommit_ends {i : Fin 64} {s : State} {st : AvailState} {r : FinalResult} (hst : ({ state := st } : Avail).final = true)
    (hexec : exec (.outCommitPoint i) s = .next (finish i st r s)) :
    ∃ t, exec (.outCommitPoint i) s = .next t ∧ AvailsOnly s t ∧ t.avail i = (s.avail i).ending st r s.tick ∧
      (∀ j, j ≠ i → t.avail j = s.avail j) ∧
      t = raise (finalNotice i (s.avail i) st r s.tick) (s.avail i).addressed (s.updAvail i (Avail.ending st r s.tick)) :=
  ⟨_, hexec, finish_avails .., (finish_avail ..).trans (if_pos rfl), fun _ hj => (finish_avail ..).trans (if_neg hj), finish_eq i st r s hst⟩

/-- The OUT step where no alert covers the lane: the avail owns it, and its order stands (R34, R124). -/
theorem outStep_owns {i : Fin 64} {s t : State} {x : Source} (hbusy : ¬LaneBusy i s)
    (hinsert : ¬∃ w, (s.window w).Takes .insert (s.avail i).lane)
    (hcover : coveringAlert s (s.lane (s.avail i).lane).cfg.zone = none)
    (ht : t = reresolve .ordinary (s.avail i).lane ((commit (s.avail i).lane .out x (s.avail i).outTick (some (s.handleOf i)) s).updAvail i
      fun a => { a with state := .out })) :
    t.avail i = { s.avail i with state := .out } ∧ (t.lane (s.avail i).lane).owner = .avail (s.handleOf i) ∧
      (t.lane (s.avail i).lane).committed = some ⟨(s.lane (s.avail i).lane).orderSeq, x, (s.avail i).outTick, s.tick⟩ ∧
      ∀ j, j ≠ (s.avail i).lane → t.lane j = s.lane j := by
  let u := (commit (s.avail i).lane .out x (s.avail i).outTick (some (s.handleOf i)) s).updAvail i fun a => { a with state := .out }
  have havail : u.avail i = { s.avail i with state := .out } := State.updAvail_avail_self ..
  have hothers : ∀ j, j ≠ i → u.avail j = s.avail j := fun j hj => by
    show (State.updAvail _ _ _).avail j = _
    rw [State.updAvail_avail, if_neg hj, commit_avail]
  have hlane : u.lane (s.avail i).lane = (s.lane (s.avail i).lane).afterCommit x (s.avail i).outTick s.tick :=
    commit_lane_self _ .out x (s.avail i).outTick (some (s.handleOf i)) s
  have hhandle : u.handleOf i = s.handleOf i := by unfold State.handleOf; rw [havail]
  have hresolve : resolve u (s.avail i).lane none = (.avail (u.handleOf i), (u.avail i).target) := by
    refine resolve_of_alone ?_ hinsert (by rw [havail]) (by rw [havail]) fun j hj hjout hjlane => ?_
    · rw [hlane]; exact hcover
    · rw [hothers j hj] at hjout hjlane
      exact hbusy (.inl ⟨j, hj, (Avail.airing_iff _).mpr (by simp [hjout]), hjlane⟩)
  have hkept : OrderKept (s.avail i).lane u (reresolve .ordinary (s.avail i).lane u) := reresolve_orderKept_of_committed (by rw [hlane]; rfl)
  have havails : (reresolve .ordinary (s.avail i).lane u).avails = u.avails :=
    reresolve_avails_of_not_preempts fun h ⟨_, htakes, _⟩ => by
      rw [hresolve] at htakes
      rcases htakes with ⟨a, ha⟩ | ⟨w, hw⟩
      · cases ha
      · cases hw
  have hone : OneLane (s.avail i).lane s (reresolve .ordinary (s.avail i).lane u) :=
    (OneLane.trans (commit_oneLane ..) (AvailsOnly.oneLane (updAvail_avails ..) _)).trans hkept.one
  rw [ht]
  refine ⟨?_, ?_, ?_, fun j hj => (hone.others j hj).1⟩
  · exact (avail_eq_of_avails havails i).trans havail
  · rw [reresolve_owner, hresolve, hhandle]
  · rw [hkept.committed, hlane]; rfl

/-- Settles O54, check by check. -/
theorem outCommitPoint : Obligations.OutCommitPoint := by
  refine ⟨fun a => ⟨a.live_iff, a.airing_iff, a.final_iff, a.addressed_eq⟩, fun i s hclosed hdue => ?_⟩
  have hexec {t : State} (h : outCommit i s = t) : exec (.outCommitPoint i) s = .next t :=
    congrArg _ ((takeOutCommit_due hclosed hdue).trans h)
  have hleft : ∀ r, finalNoticeOf i (s.avail i) r s.tick =
      { head := headOf i (s.avail i) s.tick, reason := r, left := .closed, outTick := (s.avail i).outTick, inTick := (s.avail i).inTick
        holder := (s.avail i).holder, finalTick := s.tick } := fun r => by unfold finalNoticeOf; rw [hclosed]
  intro a l L head notice ends alert covered busy
  have hends (st : AvailState) (r : FinalResult) (hst : ({ state := st } : Avail).final = true) (h : outCommit i s = finish i st r s) :
      ends st r := by
    have hnotice : finalNotice i (s.avail i) st r s.tick = notice st r := by
      unfold finalNotice; rw [hleft]; cases st <;> rfl
    obtain ⟨t, ht⟩ := outCommit_ends hst (hexec h)
    rw [hnotice] at ht
    exact ⟨t, ht⟩
  refine ⟨fun h => hends _ _ rfl (outCommit_fault h), fun h => hends _ _ rfl (outCommit_off h), fun hrun => ?_⟩
  refine ⟨fun h => hends _ _ rfl (outCommit_alert hrun h), fun ha h => hends _ _ rfl (outCommit_window hrun ha h),
    fun ha hi h => hends _ _ rfl (outCommit_blackout hrun ha hi h), fun ha hi hb => ⟨fun h => ?_, fun h hh => ?_⟩⟩
  · exact hends _ _ rfl (outCommit_unfilled hrun ha hi hb h)
  · refine ⟨fun hbusy => hends _ _ rfl (outCommit_busy hrun ha hi hb hh hbusy),
      fun hbusy hlate => hends _ _ rfl (outCommit_late hrun ha hi hb hh hbusy hlate),
      fun hbusy htime => hexec (outCommit_out hrun ha hi hb hh hbusy htime), fun hbusy htime hcover => ?_⟩
    have hout := outCommit_out hrun ha hi hb hh hbusy htime
    obtain ⟨havail, howner, hcommitted, hlanes⟩ := outStep_owns hbusy hi (coveringAlert_eq_none hcover) hout
    exact ⟨_, hexec rfl, outCommit_break i s, havail, howner, hcommitted, hlanes⟩

end Sys2Proof.Certificates
end

section
/-! SUPPORT. The fill and in commit points as states (R126, R127), and an in tick that moves (R130). -/

namespace Sys2Proof.Machine

theorem updAvail_congr {i : Fin 64} {f g : Avail → Avail} {s : State} (h : f (s.avail i) = g (s.avail i)) : s.updAvail i f = s.updAvail i g := by
  unfold State.updAvail; rw [h]

theorem updAvail_updAvail (i : Fin 64) (f g : Avail → Avail) (s : State) : (s.updAvail i f).updAvail i g = s.updAvail i fun a => g (f a) := by
  simp [State.updAvail, State.avail]

/-- A notice under a condition leaves every avail. -/
theorem raiseIf_avail (c : Prop) [Decidable c] (n : Notice) (a : List (Fin 4)) (s : State) (i : Fin 64) :
    (if c then raise n a s else s).avail i = s.avail i := by split <;> rfl

/-- A notice under a condition leaves every lane. -/
theorem raiseIf_lane (c : Prop) [Decidable c] (n : Notice) (a : List (Fin 4)) (s : State) (l : Fin 32) :
    (if c then raise n a s else s).lane l = s.lane l := by split <;> rfl

/-! ## A step request (R35) -/

section Request

variable {l : Fin 32} {s : State} (hrun : (s.lane l).state = .run) (h : Handle) (T : Tick)

include hrun

theorem requestStep_committed (fill : Bool) (hc : (s.lane l).committed = none) :
    requestStep l fill h T s = (.committed (maxTick T (earliestEffect (s.lane l) s.tick)),
      commit l (if fill then .fill else .inStep) (stepTarget s l fill (some h)) (maxTick T (earliestEffect (s.lane l) s.tick)) (some h) s) := by
  unfold requestStep; simp only [hrun, hc, if_true]; rfl

theorem requestStep_waiting (fill : Bool) {c : Committed} (hc : (s.lane l).committed = some c) :
    requestStep l fill h T s = (.waiting, s.updLane l fun L => { L with
      planned := some { kind := if fill then .fill else .inStep, target := stepTarget s l fill (some h), effect := T, avail := some h } }) := by
  unfold requestStep; simp only [hrun, hc, if_true]

end Request

/-! ## The fill commit point (R126) -/

section Fill

variable {i : Fin 64} {s : State}

theorem takeFillCommit_due {f : Tick} (hout : (s.avail i).state = .out) (hf : (s.avail i).fillTick = some f)
    (hstep : (s.avail i).fillStep = .none) (hdue : atOrAfter s.tick (f - BitVec.ofNat 48 9000) = true) :
    takeFillCommit i s = fillCommit i f s := by
  have h : fillDue i s = true := by
    unfold fillDue
    simp only [hout, hstep, hf, decide_true, Bool.true_and]
    exact hdue
  unfold takeFillCommit; rw [hf]; exact if_pos h

/-- The record of an avail whose FILL step was committed at an effect (R126). -/
def Avail.filled (f e : Tick) (a : Avail) : Avail := { a with fillStep := .committed, fillTick := if later e f then some e else some f }

/-- The report of a FILL step of an avail in OUT (R126, R139). -/
theorem reportedFill_out {f e : Tick} {b : Avail} {now : Tick} (hb : s.avail i = b) (hout : b.state = .out) (hf : b.fillTick = some f) :
    reportedFill { slot := i, gen := b.gen } e b now s =
      if later e f then
        raise (.availRetimed (headOf i b now) .step .out b.outTick b.inTick b.frames b.provisional b.claimClose (some e)) b.addressed
          (s.updAvail i (Avail.filled f e))
      else s.updAvail i (Avail.filled f e) := by
  have hlive : b.live = true := (Avail.live_iff b).mpr (by simp [hout])
  unfold reportedFill
  simp only [hlive, ne_eq, not_true_eq_false, reduceCtorEq, or_self, if_false, hf, hout]
  by_cases hlater : later e f = true
  · simp only [hlater, if_true, updAvail_updAvail]
    have hrec : s.updAvail i (fun a => { a with fillStep := .committed, fillTick := some e }) = s.updAvail i (Avail.filled f e) :=
      updAvail_congr (by simp [Avail.filled, hlater])
    rw [hrec]; rfl
  · have hrec : s.updAvail i (fun a => { a with fillStep := .committed }) = s.updAvail i (Avail.filled f e) :=
      updAvail_congr (by rw [hb]; simp [Avail.filled, hlater, ← hf])
    rw [hrec, if_neg hlater, if_neg hlater]

/-- A fill commit point that commits its step (R35, R126). -/
theorem fillCommit_committed {f : Tick} (hout : (s.avail i).state = .out) (hf : (s.avail i).fillTick = some f)
    (hrun : (s.lane (s.avail i).lane).state = .run) (hc : (s.lane (s.avail i).lane).committed = none) :
    fillCommit i f s =
      let e := maxTick f (earliestEffect (s.lane (s.avail i).lane) s.tick)
      let filled := (commit (s.avail i).lane .fill .fill e (some (s.handleOf i)) s).updAvail i (Avail.filled f e)
      if later e f then
        raise (.availRetimed (headOf i (s.avail i) s.tick) .step .out (s.avail i).outTick (s.avail i).inTick (s.avail i).frames
          (s.avail i).provisional (s.avail i).claimClose (some e)) (s.avail i).addressed filled
      else filled := by
  unfold fillCommit; dsimp only
  rw [requestStep_committed hrun (s.handleOf i) f true hc]
  refine (reportCommitted_fill ..).trans ?_
  exact reportedFill_out rfl hout hf

/-- A fill commit point that plans its step behind an outstanding order (R35, R126). -/
theorem fillCommit_waiting {f : Tick} {c : Committed} (hrun : (s.lane (s.avail i).lane).state = .run)
    (hc : (s.lane (s.avail i).lane).committed = some c) :
    fillCommit i f s = (s.updLane (s.avail i).lane fun L =>
      { L with planned := some { kind := .fill, target := .fill, effect := f, avail := some (s.handleOf i) } }).updAvail i
        fun a => { a with fillStep := .waiting } := by
  unfold fillCommit; dsimp only
  rw [requestStep_waiting hrun (s.handleOf i) f true hc]
  rfl

end Fill

/-! ## The in commit point (R127) -/

theorem FillStep.superseding_eq (x : FillStep) : x.superseding = if x = .waiting then .superseded else x := by
  cases x <;> rfl

/-- An avail's record when it begins to return (R127). -/
def Avail.back (a : Avail) : Avail := { a with state := .returning, fillStep := if a.fillStep = .waiting then .superseded else a.fillStep }

theorem beginReturn_eq (i : Fin 64) (l : Fin 32) (s : State) : beginReturn i l s = reresolve .ordinary l (s.updAvail i Avail.back) :=
  congrArg (reresolve .ordinary l) (updAvail_congr (by rw [FillStep.superseding_eq]; rfl))

/-- An avail that begins to return is not preempted any more (R127, R135). -/
theorem beginReturn_avail_self (i : Fin 64) (l : Fin 32) (s : State) : (beginReturn i l s).avail i = (s.avail i).back := by
  have hback : (s.updAvail i Avail.back).avail i = (s.avail i).back := State.updAvail_avail_self ..
  rw [beginReturn_eq]
  exact (reresolve_avail_of_not_out (by rw [hback]; exact AvailState.noConfusion)).trans hback

theorem beginReturn_orderKept (i : Fin 64) {l : Fin 32} {s : State} {c : Committed} (hc : (s.lane l).committed = some c) :
    OrderKept l s (beginReturn i l s) := by
  rw [beginReturn_eq]
  exact (orderKept_of_avails (updAvail_avails ..) l).trans (reresolve_orderKept_of_committed hc)

section In

variable {i : Fin 64} {s : State}

theorem takeInCommit_due (hout : (s.avail i).state = .out) (hdue : (s.avail i).inTick - BitVec.ofNat 48 9000 = s.tick) :
    takeInCommit i s = inCommit i s :=
  if_pos (by unfold inDue; simp only [hout, decide_true, Bool.true_and, decide_eq_true_eq]; exact hdue)

/-- The report of the IN step of an avail that begins to return (R127, R130). -/
theorem reportCommitted_back {e : Tick} {b : Avail} (hb : s.avail i = b.back) :
    reportCommitted false { slot := i, gen := b.gen } e s = if later e b.inTick then moveIn i e .step false s else s := by
  have hlive : b.back.live = true := rfl
  rw [reportCommitted_in]
  simp only [hb, hlive]
  exact if_congr (by simp [Avail.back]) rfl rfl

/-- An in commit point that commits its step (R35, R127, R130). -/
theorem inCommit_committed (hrun : (s.lane (s.avail i).lane).state = .run) (hc : (s.lane (s.avail i).lane).committed = none) :
    inCommit i s =
      let e := maxTick (s.avail i).inTick (earliestEffect (s.lane (s.avail i).lane) s.tick)
      let u := beginReturn i (s.avail i).lane
        (commit (s.avail i).lane .inStep (resolve s (s.avail i).lane (some (s.handleOf i))).2 e (some (s.handleOf i)) s)
      if later e (s.avail i).inTick then moveIn i e .step false u else u := by
  unfold inCommit; dsimp only
  rw [requestStep_committed hrun (s.handleOf i) (s.avail i).inTick false hc]
  exact reportCommitted_back (b := s.avail i) (beginReturn_avail_self ..)

/-- An in commit point that plans its step behind an outstanding order (R35, R127). -/
theorem inCommit_waiting {c : Committed} (hrun : (s.lane (s.avail i).lane).state = .run)
    (hc : (s.lane (s.avail i).lane).committed = some c) :
    inCommit i s = beginReturn i (s.avail i).lane (s.updLane (s.avail i).lane fun L =>
      { L with planned := some { kind := .inStep, target := (resolve s (s.avail i).lane (some (s.handleOf i))).2, effect := (s.avail i).inTick
                                 avail := some (s.handleOf i) } }) := by
  unfold inCommit; dsimp only
  rw [requestStep_waiting hrun (s.handleOf i) (s.avail i).inTick false hc]
  rfl

end In

/-- What a re-resolution leaves of a planned IN or STOP step (R36). -/
theorem Lane.Plans.eq_kept {L : Lane} {w : Owner} {x : Source} {cause : ResolveCause} {b : Bool} {P : Option Planned} {Q : Planned}
    (h : L.Plans w x cause b P) (hno : ¬L.Commits w x cause) (hp : L.planned = some Q) (hk : Q.kind = .stop ∨ Q.kind = .inStep) :
    P = some Q := by
  have hkeep : Q.kind = .stop ∨ Q.kind = .inStep ∨ (Q.kind = .fill ∧ b = false) := hk.imp_right .inl
  by_cases hacts : L.Acts w
  · by_cases hneeds : L.Needs x cause
    · by_cases hspares : L.Spares x cause
      · rw [h.spared hacts hneeds hspares, hp]
      · cases hc : L.committed with
        | none => exact (hno ⟨hacts, hneeds, hspares, hc⟩).elim
        | some c => rw [h.needed hacts hneeds hspares c hc, Lane.planNeeded_of_kept _ _ _ hp hkeep]
    · rw [h.unneeded hacts hneeds, Lane.planUnneeded_of_kept _ _ hp hkeep]
  · rw [h.idle hacts]; unfold Lane.planLessOwner
    rw [if_neg (by rcases hk with hk | hk <;> simp [hp, hk]), hp]

/-! ## A moved in tick (R130) -/

theorem moveIn_avail_self (i : Fin 64) (T : Tick) (cause : RetimeCause) (clear : Bool) (s : State) :
    (moveIn i T cause clear s).avail i = (s.avail i).moved (s.lane (s.avail i).lane) T clear := by
  have hself : ∀ b : Avail, (s.updAvail i fun _ => b).avail i = b := fun b => State.updAvail_avail_self ..
  unfold moveIn; dsimp only; split
  · exact hself _
  · unfold raiseRetimed; rw [raise_avail]; exact hself _

theorem Avail.moved_state (a : Avail) (L : Lane) (T : Tick) (c : Bool) : (a.moved L T c).state = a.state := by
  unfold Avail.moved; dsimp only; split <;> rfl

theorem Avail.moved_fillStep (a : Avail) (L : Lane) (T : Tick) (c : Bool) : (a.moved L T c).fillStep = a.fillStep := by
  unfold Avail.moved; dsimp only; split <;> rfl

/-- Without a started FILL step, the in tick moves to the proposed one (R130). -/
theorem Avail.moved_unstarted {a : Avail} (h : a.fillStep.started = false) (L : Lane) (T : Tick) (c : Bool) :
    (a.moved L T c).inTick = T ∧ (a.moved L T c).frames = framesBetween L.period a.outTick T := by
  have hin : raisedIn L a T = T := by
    unfold raisedIn; rw [h]; cases a.fillTick <;> rfl
  unfold Avail.moved; rw [hin]; dsimp only
  split <;> exact ⟨rfl, rfl⟩

end Sys2Proof.Machine
end

section
/-! Avails: the fill and in commit points. -/

namespace Sys2Proof.Certificates

open Sys2Proof.Machine

/-- The in commit point of an avail in OUT that commits its step (R35, R127, R130). -/
theorem inCommit_committed_clauses {i : Fin 64} {s : State} (hrun : (s.lane (s.avail i).lane).state = .run)
    (hc : (s.lane (s.avail i).lane).committed = none) :
    let E := maxTick (s.avail i).inTick (earliestEffect (s.lane (s.avail i).lane) s.tick)
    let target := (resolve s (s.avail i).lane (some (s.handleOf i))).2
    let t := inCommit i s
    (t.avail i).state = .returning ∧ (t.avail i).fillStep = (s.avail i).back.fillStep ∧
    (t.lane (s.avail i).lane).committed = some ⟨(s.lane (s.avail i).lane).orderSeq, target, E, s.tick⟩ ∧
    (later E (s.avail i).inTick = false → (t.avail i).inTick = (s.avail i).inTick ∧ (t.avail i).frames = (s.avail i).frames) ∧
    (later E (s.avail i).inTick = true → (s.avail i).fillStep ≠ .committed → (s.avail i).fillStep ≠ .confirmed →
      (t.avail i).inTick = E ∧ (t.avail i).frames = framesBetween (s.lane (s.avail i).lane).period (s.avail i).outTick E) := by
  intro E target t
  let ordered := commit (s.avail i).lane .inStep target E (some (s.handleOf i)) s
  let u := beginReturn i (s.avail i).lane ordered
  have ht : t = if later E (s.avail i).inTick then moveIn i E .step false u else u := inCommit_committed hrun hc
  have hback : u.avail i = (s.avail i).back := beginReturn_avail_self ..
  have hkept : OrderKept (s.avail i).lane ordered u := beginReturn_orderKept i (congrArg Lane.committed (commit_lane_self ..))
  have hrec : ordered.lane (s.avail i).lane = (s.lane (s.avail i).lane).afterCommit target E s.tick :=
    commit_lane_self _ .inStep target E (some (s.handleOf i)) s
  have hcommitted : (u.lane (s.avail i).lane).committed = some ⟨(s.lane (s.avail i).lane).orderSeq, target, E, s.tick⟩ := by
    rw [hkept.committed, hrec]; rfl
  have hperiod : (u.lane (s.avail i).lane).period = (s.lane (s.avail i).lane).period := by
    unfold Lane.period; rw [hkept.cfg, hrec]; rfl
  by_cases hlater : later E (s.avail i).inTick = true
  · have hmoved : t.avail i = (s.avail i).back.moved (u.lane (s.avail i).lane) E false := by
      rw [ht, if_pos hlater, moveIn_avail_self, hback]; rfl
    have hlane : t.lane (s.avail i).lane = u.lane (s.avail i).lane := by
      rw [ht, if_pos hlater]; exact (moveIn_avails ..).lane _
    refine ⟨?_, ?_, by rw [hlane]; exact hcommitted, (fun hno => by rw [hlater] at hno; cases hno), fun _ hcom hcon => ?_⟩
    · rw [hmoved, Avail.moved_state]; rfl
    · rw [hmoved, Avail.moved_fillStep]
    · have hun : (s.avail i).back.fillStep.started = false := by
        unfold Avail.back
        cases hf : (s.avail i).fillStep <;> simp_all [FillStep.started]
      rw [hmoved, ← hperiod]
      exact Avail.moved_unstarted hun _ _ _
  · have hsame : t = u := ht.trans (if_neg hlater)
    rw [hsame, hback]
    exact ⟨rfl, rfl, hcommitted, fun _ => ⟨rfl, rfl⟩, fun h => (hlater h).elim⟩

/-- The in commit point of an avail in OUT that plans its step (R35, R36, R127). -/
theorem inCommit_waiting_clauses {i : Fin 64} {s : State} {c : Committed} (hrun : (s.lane (s.avail i).lane).state = .run)
    (hc : (s.lane (s.avail i).lane).committed = some c) :
    let t := inCommit i s
    let P : Planned := { kind := .inStep, target := (resolve s (s.avail i).lane (some (s.handleOf i))).2, effect := (s.avail i).inTick
                         avail := some (s.handleOf i) }
    t.avail i = (s.avail i).back ∧ (t.lane (s.avail i).lane).committed = some c ∧ (t.lane (s.avail i).lane).planned = some P ∧
      t.order (s.avail i).lane = s.order (s.avail i).lane := by
  intro t P
  let waiting := s.updLane (s.avail i).lane fun L => { L with planned := some P }
  let u := waiting.updAvail i Avail.back
  have hlane : u.lane (s.avail i).lane = { s.lane (s.avail i).lane with planned := some P } :=
    State.updLane_lane_self s (s.avail i).lane fun L => { L with planned := some P }
  have hno := Lane.not_commits (L := u.lane (s.avail i).lane) (by rw [hlane]; exact hc) (resolve u (s.avail i).lane none).1
    (resolve u (s.avail i).lane none).2 .ordinary
  have ht : t = reresolve .ordinary (s.avail i).lane u := (inCommit_waiting hrun hc).trans (beginReturn_eq ..)
  obtain ⟨hcommitted, horder, -⟩ := reresolve_keeps hno
  rw [ht]
  refine ⟨?_, hcommitted.trans (by rw [hlane]; exact hc), (reresolve_planned hno).1.eq_kept hno (by rw [hlane]) (.inr rfl), horder⟩
  rw [← ht]
  exact (congrArg (fun x => State.avail x i) (inCommit_waiting hrun hc)).trans (beginReturn_avail_self ..)

/-- Settles O55: the step committed or planned, for the fill and for the in commit point. -/
theorem fillAndInCommitPoints : Obligations.FillAndInCommitPoints := by
  intro i s hout hrun
  refine ⟨fun f hf hstep hdue => ?_, fun hdue => ?_⟩
  · have hexec : exec (.fillCommitPoint i) s = .next (fillCommit i f s) := congrArg _ (takeFillCommit_due hout hf hstep hdue)
    refine ⟨fun hc => ⟨_, hexec, fillCommit_break .., ?_⟩, fun c hc => hexec.trans (congrArg _ (fillCommit_waiting hrun hc))⟩
    have heq := fillCommit_committed hout hf hrun hc
    refine ⟨?_, ?_, heq⟩
    · rw [heq]; dsimp only
      rw [raiseIf_lane, State.updAvail_lane, commit_lane_self]; rfl
    · rw [heq]; dsimp only
      rw [raiseIf_avail, State.updAvail_avail_self, commit_avail]; rfl
  · have hexec : exec (.inCommitPoint i) s = .next (inCommit i s) := congrArg _ (takeInCommit_due hout hdue)
    refine ⟨_, hexec, inCommit_break .., ?_⟩
    cases hc : (s.lane (s.avail i).lane).committed with
    | none =>
      obtain ⟨hstate, hstep, hcommitted, hstay, hmove⟩ := inCommit_committed_clauses hrun hc
      have heq := inCommit_committed hrun hc
      simp only [beginReturn_eq] at heq
      exact ⟨hstate, hstep, fun _ => ⟨hcommitted, heq, hstay, hmove⟩, fun c h => by cases h⟩
    | some c =>
      obtain ⟨hback, hcommitted, hplanned, horder⟩ := inCommit_waiting_clauses hrun hc
      have heq := inCommit_waiting hrun hc
      rw [beginReturn_eq] at heq
      refine ⟨by rw [hback]; rfl, by rw [hback]; rfl, (fun h => by cases h), fun d hd => ?_⟩
      cases hd
      exact ⟨hcommitted, hplanned, horder, by rw [hback]; rfl, heq⟩

end Sys2Proof.Certificates
end

section
/-! SUPPORT. An accepted WRITE WINDOW, case by case (R164 to R166), and the reply that an answer leaves. -/

namespace Sys2Proof.Machine

/-- The reply slot of the port that a request came from (R188). -/
theorem answer_reply (p : Fin 4) (r : Req) (c : ReplyCode) (b : ReplyBody) (s : State) :
    ((answer p r c b s).port p).reply = some { request := reqCode r, outcome := c, body := b } := by
  unfold answer; rw [State.updPort_port_self]

/-! ## Frames with tables of their own -/

/-- Where a state's windows were written before, the rest of a break-side change shows against the windows after it. -/
theorem breakOnly_windows {s x t : State} (hx : x = { s with windows := x.windows, ports := x.ports }) (h : BreakOnly x t) :
    BreakOnly { s with windows := t.windows } t := by
  have hw := h.windows
  unfold BreakOnly at h ⊢
  rw [hw, h, hx]

theorem updWindow_frame {s g : State} (h : PortsOnly s g) (w : Fin 16) (f : Window → Window) :
    g.updWindow w f = { s with windows := (g.updWindow w f).windows, ports := (g.updWindow w f).ports } := by
  unfold PortsOnly at h
  rw [h]; rfl

/-- The same for the alert table and its recency order. -/
theorem breakOnly_alerts {s x t : State} (hx : x = { s with alerts := x.alerts, recency := x.recency, ports := x.ports })
    (h : BreakOnly x t) : BreakOnly { s with alerts := t.alerts, recency := t.recency } t := by
  have ha := h.alerts
  have hr := h.recency
  unfold BreakOnly at h ⊢
  rw [ha, hr, h, hx]

/-! ## The consequence of a write (R166) -/

theorem Window.written_cfg (W : Window) (cfg : WindowConfig) : (W.written cfg).cfg = cfg := by
  unfold Window.written; split
  · rfl
  · split <;> rfl

theorem WindowConfig.moves_iff (old new : WindowConfig) :
    old.moves new = true ↔ new.type ≠ old.type ∨ new.lanes ≠ old.lanes ∨ new.source ≠ old.source := decide_eq_true_iff

section Accept

variable {w : Fin 16} {cfg : WindowConfig} {s : State}

theorem acceptWindow_closed (hopen : (s.window w).isOpen = false) : acceptWindow w cfg s = s.updWindow w fun W => W.written cfg :=
  if_neg (by rw [hopen]; decide)

/-- The notice of a written window, written out (R169). -/
def writtenNotice (w : Fin 16) (cfg : WindowConfig) (s : State) (cause : WindowCause) : WindowNotice :=
  boundaryNotice w cfg s.calendar s.tick cause ((s.window w).written cfg).remaining

theorem windowNotice_written (cause : WindowCause) :
    windowNotice w cause (s.updWindow w fun W => W.written cfg) = writtenNotice w cfg s cause := by
  rw [windowNotice_eq, State.updWindow_window_self, Window.written_cfg]; rfl

theorem acceptWindow_open (hopen : (s.window w).isOpen = true) :
    acceptWindow w cfg s =
      let written := s.updWindow w fun W => W.written cfg
      let change := windowChange ((s.window w).cfg.lanes ||| cfg.lanes)
      if cfg.enable = false then change (raise (.windowClose (writtenNotice w cfg s .disabled)) [] written)
      else if (s.window w).cfg.moves cfg then change (raise (.windowOpen (writtenNotice w cfg s .edited)) [] written)
      else if cfg.duration < (s.window w).remaining then raise (.windowOpen (writtenNotice w cfg s .edited)) [] written
      else written := by
  refine (if_pos hopen).trans ?_
  unfold windowConsequence raiseClose raiseOpen
  simp only [windowNotice_written, State.updWindow_window_self, Window.written_cfg]

theorem acceptWindow_disabled (hopen : (s.window w).isOpen = true) (hen : cfg.enable = false) :
    acceptWindow w cfg s = windowChange ((s.window w).cfg.lanes ||| cfg.lanes)
      (raise (.windowClose (writtenNotice w cfg s .disabled)) [] (s.updWindow w fun W => W.written cfg)) :=
  (acceptWindow_open hopen).trans (if_pos hen)

theorem acceptWindow_edited (hopen : (s.window w).isOpen = true) (hen : cfg.enable = true) (hmoves : (s.window w).cfg.moves cfg = true) :
    acceptWindow w cfg s = windowChange ((s.window w).cfg.lanes ||| cfg.lanes)
      (raise (.windowOpen (writtenNotice w cfg s .edited)) [] (s.updWindow w fun W => W.written cfg)) :=
  (acceptWindow_open hopen).trans ((if_neg (by rw [hen]; decide)).trans (if_pos hmoves))

theorem acceptWindow_clipped (hopen : (s.window w).isOpen = true) (hen : cfg.enable = true) (hmoves : (s.window w).cfg.moves cfg ≠ true)
    (hclip : cfg.duration < (s.window w).remaining) :
    acceptWindow w cfg s = raise (.windowOpen (writtenNotice w cfg s .edited)) [] (s.updWindow w fun W => W.written cfg) :=
  (acceptWindow_open hopen).trans ((if_neg (by rw [hen]; decide)).trans ((if_neg hmoves).trans (if_pos hclip)))

theorem acceptWindow_kept (hopen : (s.window w).isOpen = true) (hen : cfg.enable = true) (hmoves : (s.window w).cfg.moves cfg ≠ true)
    (hclip : ¬cfg.duration < (s.window w).remaining) : acceptWindow w cfg s = s.updWindow w fun W => W.written cfg :=
  (acceptWindow_open hopen).trans ((if_neg (by rw [hen]; decide)).trans ((if_neg hmoves).trans (if_neg hclip)))

theorem acceptWindow_break (w : Fin 16) (cfg : WindowConfig) (s : State) :
    BreakOnly (s.updWindow w fun W => W.written cfg) (acceptWindow w cfg s) := by
  unfold acceptWindow; dsimp only; split
  · exact windowConsequence_break ..
  · exact .refl _

end Accept

/-! ## WRITE WINDOW (R164) -/

section Write

variable {p : Fin 4} {r : RawWindow} {s : State} {w : Fin 16} {cfg : WindowConfig} {e : Option Byte}

theorem exec_writeWindow_range (ha : Accepts p .writeWindow s) (h : windowWriteOf r = none) :
    exec (.writeWindow p r) s = .next (answer p .writeWindow .range .none (goodFrame p s)) :=
  congrArg _ (takeRequest_eq ha (by unfold writeWindowAct; rw [h]; rfl))

theorem exec_writeWindow_stale (ha : Accepts p .writeWindow s) (h : windowWriteOf r = some (w, cfg, e))
    (hstale : ∃ v, e = some v ∧ v ≠ (s.window w).revision) :
    exec (.writeWindow p r) s = .next (answer p .writeWindow .stale (.revision (s.window w).revision) (goodFrame p s)) := by
  refine congrArg _ (takeRequest_eq ha ?_)
  unfold writeWindowAct; rw [h]; dsimp only
  rw [goodFrame_window]
  exact if_pos (expected_any.mpr hstale)

theorem exec_writeWindow_ok (ha : Accepts p .writeWindow s) (h : windowWriteOf r = some (w, cfg, e))
    (hfresh : ∀ v ∈ e, v = (s.window w).revision) :
    exec (.writeWindow p r) s = .next (answer p .writeWindow .ok (.windowWritten ((s.window w).written cfg).revision
      ((s.window w).written cfg).isOpen ((s.window w).written cfg).remaining) (acceptWindow w cfg (goodFrame p s))) := by
  have hno : ¬∃ v, e = some v ∧ v ≠ (s.window w).revision := fun ⟨v, hv, hne⟩ => hne (hfresh v hv)
  refine congrArg _ (takeRequest_eq ha ?_)
  unfold writeWindowAct; rw [h]; dsimp only
  rw [goodFrame_window]
  exact if_neg (expected_any.not.mpr hno)

end Write

end Sys2Proof.Machine
end

section
/-! Windows: WRITE WINDOW. -/

namespace Sys2Proof.Certificates

open Sys2Proof.Machine

/-- A written window's record, as the statement spells it. -/
theorem written_spelt (W : Window) (cfg : WindowConfig) :
    (if W.isOpen = false then { W with cfg := cfg, revision := W.revision + 1 }
      else if cfg.enable = false then { cfg := cfg, revision := W.revision + 1, isOpen := false, remaining := 0 }
      else { W with cfg := cfg, revision := W.revision + 1
                    remaining := if cfg.duration < W.remaining then cfg.duration else W.remaining }) = W.written cfg := by
  have hmin : (if cfg.duration < W.remaining then cfg.duration else W.remaining) = min W.remaining cfg.duration := by
    split <;> omega
  rw [hmin]; rfl

/-- Settles O57: the fields, the refusals, then the case of an accepted write. -/
theorem writeWindow : Obligations.WriteWindow := by
  refine ⟨fun r => ⟨windowWriteOf_eq_none r, fun w cfg e h => ?_⟩, fun p r s ha => ⟨exec_writeWindow_range ha, fun w cfg e h =>
    ⟨exec_writeWindow_stale ha h, fun hfresh => ?_⟩⟩⟩
  · obtain ⟨h1, h2, h3, h4, h5, h6, h7, h8, h9, h10, h11, -⟩ := windowWriteOf_eq_some h
    exact ⟨h1, h2, h3, h4, h5, h6, h7, h8, h9, h10, h11⟩
  · dsimp only
    rw [written_spelt]
    have hexec := exec_writeWindow_ok ha h hfresh
    let g := goodFrame p s
    let written := g.updWindow w fun W => W.written cfg
    let t := acceptWindow w cfg g
    have hbreak : BreakOnly written t := acceptWindow_break w cfg g
    have hN : written.window w = (s.window w).written cfg := by
      show (State.updWindow _ _ _).window w = _
      rw [State.updWindow_window_self, goodFrame_window]
    have hspelt : written = g.updWindow w fun _ => (s.window w).written cfg := updWindow_congr (by rw [goodFrame_window])
    have hx : written = { s with windows := written.windows, ports := written.ports } := updWindow_frame (goodFrame_ports p s) w _
    have hnotice (cause : WindowCause) : writtenNotice w cfg g cause =
        { window := w, cause := cause, type := cfg.type, lanes := cfg.lanes, source := if cfg.type = .insert then some cfg.source else none
          duration := cfg.duration, remaining := ((s.window w).written cfg).remaining, calendar := s.calendar, tick := s.tick } := by
      unfold writtenNotice
      rw [goodFrame_window, goodFrame_tick, (goodFrame_timeKept p s).calendar]; rfl
    have hopen : (g.window w).isOpen = (s.window w).isOpen := by rw [goodFrame_window]
    have hmoves := WindowConfig.moves_iff (g.window w).cfg cfg
    rw [show (g.window w).cfg = (s.window w).cfg from congrArg Window.cfg (goodFrame_window p s w)] at hmoves
    let reply := answer p .writeWindow .ok (.windowWritten ((s.window w).written cfg).revision
      ((s.window w).written cfg).isOpen ((s.window w).written cfg).remaining)
    have hports : PortsOnly t (reply t) := answer_ports ..
    have hW : g.window w = s.window w := goodFrame_window p s w
    refine ⟨_, hexec, ?_, fun v hv => ?_, answer_reply .., ?_, fun hclosed => ?_, fun ho hen => ?_, fun ho hen => ⟨fun hed => ?_,
      fun hed hclip => ?_, fun hed hclip => ?_⟩⟩
    · exact (hports.break.window w).trans ((hbreak.window w).trans hN)
    · refine (hports.break.window v).trans ((hbreak.window v).trans ?_)
      show (State.updWindow _ _ _).window v = _
      rw [State.updWindow_window, if_neg hv, goodFrame_window]
    · exact breakOnly_windows hx (hbreak.trans hports.break)
    · exact congrArg reply ((acceptWindow_closed (hopen.trans hclosed)).trans hspelt)
    · have heq := acceptWindow_disabled (hopen.trans ho) hen
      rw [hnotice, hW, show State.updWindow _ _ _ = _ from hspelt] at heq
      exact congrArg reply heq
    · have heq := acceptWindow_edited (hopen.trans ho) hen (by rw [hW]; exact hmoves.mpr hed)
      rw [hnotice, hW, show State.updWindow _ _ _ = _ from hspelt] at heq
      exact congrArg reply heq
    · have heq := acceptWindow_clipped (hopen.trans ho) hen (by rw [hW]; exact hmoves.not.mpr hed) (by rw [hW]; exact hclip)
      rw [hnotice, show State.updWindow _ _ _ = _ from hspelt] at heq
      exact congrArg reply heq
    · have heq := acceptWindow_kept (hopen.trans ho) hen (by rw [hW]; exact hmoves.not.mpr hed) (by rw [hW]; exact not_lt.mpr hclip)
      exact congrArg reply (heq.trans hspelt)

end Sys2Proof.Certificates
end

section
/-! SUPPORT. The alert table: its look-ups (R172 to R175), and a slot that is filled or emptied with its notice (R173, R177). -/

namespace Sys2Proof.Machine

/-! ## A slot with its place in the recency order (R171) -/

/-- A slot's content and the recency order (R171). -/
def seat (a : Fin 4) (x : Option Alert) (order : List (Fin 4)) (s : State) : State := { s.setAlert a x with recency := order }

section Seat

variable (a : Fin 4) (x : Option Alert) (order : List (Fin 4)) (s : State)

theorem seat_alert (b : Fin 4) : (seat a x order s).alert b = if b = a then x else s.alert b := State.setAlert_alert ..

/-- A later content and order of the same slot replaces an earlier one. -/
theorem seat_seat (y : Option Alert) (order' : List (Fin 4)) : seat a y order' (seat a x order s) = seat a y order' s := by
  simp [seat, State.setAlert]

theorem seat_raise (n : Notice) (ps : List (Fin 4)) : seat a x order (raise n ps s) = raise n ps (seat a x order s) := rfl

end Seat

theorem seat_frame {s y : State} (h : PortsOnly s y) (a : Fin 4) (x : Option Alert) (order : List (Fin 4)) :
    seat a x order y =
      { s with alerts := (seat a x order y).alerts, recency := (seat a x order y).recency, ports := (seat a x order y).ports } := by
  unfold PortsOnly at h
  rw [h]; rfl

/-- What is left of the alert table after a slot was written and the lanes were re-resolved (R176). -/
theorem seat_changed {s y t : State} {a : Fin 4} {x : Option Alert} {order : List (Fin 4)} (hy : PortsOnly s y)
    (ht : BreakOnly (seat a x order y) t) :
    t.alert a = x ∧ (∀ b, b ≠ a → t.alert b = s.alert b) ∧ t.recency = order ∧
      BreakOnly { s with alerts := t.alerts, recency := t.recency } t := by
  have hsame : ∀ b, y.alert b = s.alert b := hy.break.alert
  refine ⟨?_, fun b hb => ?_, ht.recency, breakOnly_alerts (seat_frame hy a x order) ht⟩
  · rw [ht.alert, seat_alert, if_pos rfl]
  · rw [ht.alert, seat_alert, if_neg hb, hsame]

theorem endAlert_eq (a : Fin 4) (A : Alert) (reason : EndReason) (ender : Option (Fin 4)) (s : State) :
    endAlert a A reason ender s =
      let emptied := seat a none (s.recency.filter fun b => decide (b ≠ a)) s
      raise (.alertEnd a A reason ender emptied.alertsActive s.tick) [] emptied := rfl

theorem beginAlert_eq (a : Fin 4) (A : Alert) (cause : BeginCause) (s : State) :
    beginAlert a A cause s =
      let seated := seat a (some A) (s.recency.filter (fun b => decide (b ≠ a)) ++ [a]) s
      raise (.alertBegin a A cause seated.alertsActive s.tick) [] seated := rfl

/-- The active alerts of an emptied slot are those of the other slots (R171). -/
theorem alertsActive_emptied (a : Fin 4) (order : List (Fin 4)) (s : State) :
    (seat a none order s).alertsActive = ((List.finRange 4).filter fun b => decide (b ≠ a) && (s.alert b).isSome).length := by
  unfold State.alertsActive
  congr 2
  funext b
  rw [seat_alert]
  by_cases h : b = a <;> simp [h]

/-- With every slot occupied, three alerts stay active when one slot is emptied (R171). -/
theorem alertsActive_of_full {s : State} (h : ∀ b, s.alert b ≠ none) (a : Fin 4) (order : List (Fin 4)) :
    (seat a none order s).alertsActive = 3 := by
  rw [alertsActive_emptied]
  have hsome : (fun b => decide (b ≠ a) && (s.alert b).isSome) = fun b => decide (b ≠ a) := funext fun b => by
    rw [Option.isSome_iff_ne_none.mpr (h b), Bool.and_true]
  rw [hsome]
  clear hsome
  revert a; decide

/-- A displaced alert's end before the new one's beginning (R175; log entry 24). -/
theorem beginAlert_endAlert {s : State} {a : Fin 4} (h : ∀ b, s.alert b ≠ none) (A B : Alert) (ender : Option (Fin 4)) :
    beginAlert a A .new (endAlert a B .displaced ender s) = beginAlert a A .new (raise (.alertEnd a B .displaced ender 3 s.tick) [] s) := by
  rw [beginAlert_eq, endAlert_eq, beginAlert_eq]
  dsimp only
  rw [alertsActive_of_full h]
  simp only [seat_raise, raise_recency, raise_tick]
  have hfilter : (seat a none (s.recency.filter fun b => decide (b ≠ a)) s).recency.filter (fun b => decide (b ≠ a)) =
      s.recency.filter fun b => decide (b ≠ a) := by
    show (s.recency.filter _).filter _ = _
    rw [List.filter_filter]; simp
  rw [hfilter, seat_seat]; rfl

/-! ## The look-ups (R172, R174, R175) -/

/-- The slot holds the alert with an id. -/
def HoldsId (s : State) (id : Byte) (a : Fin 4) : Prop := ∃ B, s.alert a = some B ∧ B.id = id

section Find

variable {s : State} {id : Byte} {a : Fin 4}

theorem holdsId_iff : (match s.alert a with
    | some A => decide (A.id = id)
    | none => false) = true ↔ HoldsId s id a := by
  unfold HoldsId
  cases s.alert a <;> simp

theorem findAlert_eq_some (h : HoldsId s id a) (hlow : ∀ b < a, ¬HoldsId s id b) : findAlert s id = some a :=
  find?_finRange_eq_some (holdsId_iff.mpr h) fun b hb => Bool.eq_false_iff.mpr (holdsId_iff.not.mpr (hlow b hb))

theorem findAlert_eq_none (h : ∀ a, ¬HoldsId s id a) : findAlert s id = none :=
  find?_finRange_eq_none fun a => Bool.eq_false_iff.mpr (holdsId_iff.not.mpr (h a))

theorem emptyAlertSlot_eq_some (h : s.alert a = none) (hlow : ∀ b < a, s.alert b ≠ none) : emptyAlertSlot s = some a :=
  find?_finRange_eq_some (by simp [h]) fun b hb =>
    Bool.eq_false_iff.mpr (Option.isNone_iff_eq_none.not.mpr (hlow b hb))

theorem emptyAlertSlot_eq_none (h : ∀ a, s.alert a ≠ none) : emptyAlertSlot s = none :=
  find?_finRange_eq_none fun a => Bool.eq_false_iff.mpr (Option.isNone_iff_eq_none.not.mpr (h a))

end Find

/-- One alert of the recency order against the candidate for displacement before it (R175). -/
def lowerAlert (s : State) (best : Option (Fin 4 × Alert)) (a : Fin 4) : Option (Fin 4 × Alert) :=
  match s.alert a, best with
  | none, _ => best
  | some A, none => some (a, A)
  | some A, some (_, B) => if A.level < B.level then some (a, A) else best

theorem displaceable_eq_fold (s : State) : displaceable s = s.recency.foldl (lowerAlert s) none := rfl

section Displace

variable {s : State} {a : Fin 4} {B : Alert}

/-- A candidate of a higher level comes of alerts of a higher level. -/
theorem lowerAlert_fold_higher (xs : List (Fin 4)) (hxs : ∀ b ∈ xs, ∀ C ∈ s.alert b, B.level < C.level) :
    ∀ best, (∀ b C, best = some (b, C) → B.level < C.level) → ∀ b C, xs.foldl (lowerAlert s) best = some (b, C) → B.level < C.level := by
  induction xs with
  | nil => exact fun _ hbest => hbest
  | cons x xs ih =>
    intro best hbest
    refine ih (fun b hb => hxs b (by simp [hb])) _ fun b C h => ?_
    unfold lowerAlert at h
    cases hx : s.alert x with
    | none => rw [hx] at h; exact hbest b C h
    | some A =>
      rw [hx] at h
      have hA := hxs x (by simp) A hx
      cases best with
      | none => cases h; exact hA
      | some best =>
        dsimp only at h
        split at h
        · cases h; exact hA
        · exact hbest b C h

/-- An alert lower than the candidate before it takes its place. -/
theorem lowerAlert_takes (ha : s.alert a = some B) {best : Option (Fin 4 × Alert)} (hbest : ∀ b C, best = some (b, C) → B.level < C.level) :
    lowerAlert s best a = some (a, B) := by
  unfold lowerAlert; rw [ha]
  cases best with
  | none => rfl
  | some best => exact if_pos (hbest best.1 best.2 rfl)

/-- No later alert that is not lower takes the candidate's place. -/
theorem lowerAlert_fold_keeps (xs : List (Fin 4)) (hxs : ∀ b ∈ xs, ∀ C ∈ s.alert b, B.level ≤ C.level) :
    xs.foldl (lowerAlert s) (some (a, B)) = some (a, B) := by
  induction xs with
  | nil => rfl
  | cons x xs ih =>
    have hstep : lowerAlert s (some (a, B)) x = some (a, B) := by
      unfold lowerAlert
      cases hx : s.alert x with
      | none => rfl
      | some A => exact if_neg (not_lt.mpr (hxs x (by simp) A hx))
    rw [List.foldl_cons, hstep]
    exact ih fun b hb => hxs b (by simp [hb])

theorem displaceable_eq {before after : List (Fin 4)} (hrec : s.recency = before ++ a :: after) (ha : s.alert a = some B)
    (hbefore : ∀ b ∈ before, ∀ C ∈ s.alert b, B.level < C.level) (hafter : ∀ b ∈ after, ∀ C ∈ s.alert b, B.level ≤ C.level) :
    displaceable s = some (a, B) := by
  have hbest := lowerAlert_fold_higher before hbefore none (by simp)
  rw [displaceable_eq_fold, hrec, List.foldl_append, List.foldl_cons, lowerAlert_takes ha hbest]
  exact lowerAlert_fold_keeps after hafter

end Displace

/-! ## ALERT START by its cases (R173 to R175) -/

section Start

variable {s : State} {A B : Alert} {a : Fin 4}

theorem startAlert_update (hid : findAlert s A.id = some a) (ha : s.alert a = some B) :
    startAlert A s = alertReply a A .updated none (alertChange (B.zones ||| A.zones) (beginAlert a A .update s)) := by
  unfold startAlert; rw [hid]; dsimp only; rw [ha]

theorem startAlert_new (hid : findAlert s A.id = none) (hempty : emptyAlertSlot s = some a) :
    startAlert A s = alertReply a A .new none (alertChange A.zones (beginAlert a A .new s)) := by
  unfold startAlert; rw [hid]; dsimp only; rw [hempty]

theorem startAlert_displace (hid : findAlert s A.id = none) (hempty : emptyAlertSlot s = none) (hd : displaceable s = some (a, B)) :
    startAlert A s = if A.level < B.level then refuse .full s else
      alertReply a A .displacing (some B.id)
        (alertChange (B.zones ||| A.zones) (beginAlert a A .new (endAlert a B .displaced (some A.port) s))) := by
  unfold startAlert; rw [hid]; dsimp only; rw [hempty]; dsimp only; rw [hd]

end Start

end Sys2Proof.Machine
end

section
/-! Alerts: starting, updating, displacing, ending and expiry. -/

namespace Sys2Proof.Certificates

open Sys2Proof.Machine

/-- The alert that ALERT START starts (R172). -/
def startedAlert (p : Fin 4) (r : RawAlert) (level : Nat) (source : Source) (seconds : Nat) (now : Tick) : Alert :=
  { id := r.id, level := level, zones := r.zones, source := source, start := now, expiry := now + BitVec.ofNat 48 (seconds * 180000)
    port := p }

section Start

variable {p : Fin 4} {r : RawAlert} {s : State} {level seconds : Nat} {source : Source}

theorem exec_alertStart_range (ha : Accepts p .alertStart s) (h : alertOf r = none) :
    exec (.alertStart p r) s = .next (answer p .alertStart .range .none (goodFrame p s)) :=
  congrArg _ (takeRequest_eq ha (by unfold alertStartAct; rw [h]; rfl))

theorem exec_alertStart (ha : Accepts p .alertStart s) (h : alertOf r = some (level, source, seconds)) {code : ReplyCode}
    {body : ReplyBody} {t : State}
    (hact : startAlert (startedAlert p r level source seconds s.tick) (goodFrame p s) = { code, body, state := t }) :
    exec (.alertStart p r) s = .next (answer p .alertStart code body t) := by
  refine congrArg _ (takeRequest_eq ha ?_)
  unfold alertStartAct; rw [h]; dsimp only
  rw [goodFrame_tick]
  exact hact

/-- An alert placed in a slot: the table after it, and the state with its notice and its re-resolutions (R173, R174, R176, R182). -/
theorem placed_of_start (ha : Accepts p .alertStart s) (h : alertOf r = some (level, source, seconds)) {a : Fin 4}
    {d : AlertDisposition} {x : Option Byte} {cause : BeginCause} {zones : ZoneSet} {y : State} (hy : PortsOnly s y)
    (hact : startAlert (startedAlert p r level source seconds s.tick) (goodFrame p s) =
      alertReply a (startedAlert p r level source seconds s.tick) d x
        (alertChange zones (beginAlert a (startedAlert p r level source seconds s.tick) cause y))) :
    let A := startedAlert p r level source seconds s.tick
    ∃ t, exec (.alertStart p r) s = .next t ∧
      t.alert a = some A ∧ (∀ b, b ≠ a → t.alert b = s.alert b) ∧ t.recency = (s.recency.filter fun b => decide (b ≠ a)) ++ [a] ∧
      (t.port p).reply = some { request := 38, outcome := .ok, body := .alertStarted a d A.start A.expiry x } ∧
      BreakOnly { s with alerts := t.alerts, recency := t.recency } t ∧
      let seated : State := { y.setAlert a (some A) with recency := (s.recency.filter fun b => decide (b ≠ a)) ++ [a] }
      t = answer p .alertStart .ok (.alertStarted a d A.start A.expiry x)
        (alertChange zones (raise (.alertBegin a A cause ((List.finRange 4).filter fun b => (seated.alert b).isSome).length s.tick) [] seated)) := by
  intro A
  let seated := seat a (some A) ((s.recency.filter fun b => decide (b ≠ a)) ++ [a]) y
  have hbegin : beginAlert a A cause y = raise (.alertBegin a A cause seated.alertsActive s.tick) [] seated := by
    rw [beginAlert_eq, hy.break.recency, hy.timeKept.tick]
  have hexec := exec_alertStart ha h (hact.trans rfl)
  rw [hbegin] at hexec
  have hbreak : BreakOnly seated (answer p .alertStart .ok (.alertStarted a d A.start A.expiry x)
      (alertChange zones (raise (.alertBegin a A cause seated.alertsActive s.tick) [] seated))) :=
    ((raise_ports ..).break.trans (alertChange_break ..)).trans (answer_ports ..).break
  obtain ⟨hself, hothers, hrec, hframe⟩ := seat_changed hy hbreak
  exact ⟨_, hexec, hself, hothers, hrec, answer_reply .., hframe, rfl⟩

end Start

/-- Settles O58, by the look-ups in their order. -/
theorem alertStart : Obligations.AlertStart := by
  refine ⟨fun r => ⟨alertOf_eq_none r, fun level source seconds h => alertOf_eq_some h⟩, fun zones s => rfl, fun p r s ha =>
    ⟨exec_alertStart_range ha, fun level source seconds h => ?_⟩⟩
  have hg : ∀ b, (goodFrame p s).alert b = s.alert b := goodFrame_alert p s
  have hports := goodFrame_ports p s
  have hholds (a : Fin 4) : HoldsId (goodFrame p s) r.id a ↔ ∃ B, s.alert a = some B ∧ B.id = r.id := by unfold HoldsId; rw [hg]
  refine ⟨fun a B hB hid hlow => ?_, fun hnone => ?_⟩
  · have hfind : findAlert (goodFrame p s) r.id = some a :=
      findAlert_eq_some ((hholds a).mpr ⟨B, hB, hid⟩) fun b hb => (hholds b).not.mpr (hlow b hb)
    exact placed_of_start ha h hports (startAlert_update hfind ((hg a).trans hB))
  · have hfind : findAlert (goodFrame p s) r.id = none := findAlert_eq_none fun a => (hholds a).not.mpr (hnone a)
    refine ⟨fun a hempty hlow => ?_, fun hfull before a after B hrec hB hbefore hafter => ?_⟩
    · have hslot : emptyAlertSlot (goodFrame p s) = some a :=
        emptyAlertSlot_eq_some ((hg a).trans hempty) fun b hb => by rw [hg]; exact hlow b hb
      exact placed_of_start ha h hports (startAlert_new hfind hslot)
    · have hfullg : ∀ b, (goodFrame p s).alert b ≠ none := fun b => by rw [hg]; exact hfull b
      have hd : displaceable (goodFrame p s) = some (a, B) :=
        displaceable_eq (hports.break.recency.trans hrec) ((hg a).trans hB) (fun b hb C hC => hbefore b hb C (by rw [← hg]; exact hC))
          fun b hb C hC => hafter b hb C (by rw [← hg]; exact hC)
      have hstart := startAlert_displace (A := startedAlert p r level source seconds s.tick) hfind (emptyAlertSlot_eq_none hfullg) hd
      refine ⟨fun hle => ?_, fun hlt => ?_⟩
      · refine placed_of_start ha h (hports.trans (raise_ports ..)) ?_
        rw [hstart, beginAlert_endAlert hfullg, goodFrame_tick]
        exact if_neg (not_lt.mpr hle)
      · exact exec_alertStart ha h (hstart.trans (if_pos hlt))

/-- What an alert's end leaves of the table (R176, R177). -/
theorem ended_of_end {s y t : State} {a : Fin 4} {A : Alert} {reason : EndReason} {ender : Option (Fin 4)} (hy : PortsOnly s y)
    (ht : BreakOnly (alertChange A.zones (endAlert a A reason ender y)) t) :
    t.alert a = none ∧ (∀ b, b ≠ a → t.alert b = s.alert b) ∧ t.recency = (s.recency.filter fun b => decide (b ≠ a)) ∧
      BreakOnly { s with alerts := t.alerts, recency := t.recency } t := by
  have hbreak : BreakOnly (seat a none (s.recency.filter fun b => decide (b ≠ a)) y) (alertChange A.zones (endAlert a A reason ender y)) := by
    rw [endAlert_eq, hy.break.recency]
    exact (raise_ports ..).break.trans (alertChange_break ..)
  exact seat_changed hy (hbreak.trans ht)

/-- An alert's end as a state, with the count of the alerts that stay (R177, R182). -/
theorem endAlert_spelt {s y : State} {a : Fin 4} {A : Alert} {reason : EndReason} {ender : Option (Fin 4)} (hy : PortsOnly s y) :
    endAlert a A reason ender y =
      raise (.alertEnd a A reason ender ((List.finRange 4).filter fun b => decide (b ≠ a) && (s.alert b).isSome).length s.tick) []
        ({ y.setAlert a none with recency := s.recency.filter fun b => decide (b ≠ a) } : State) := by
  have hsame : y.alert = s.alert := funext hy.break.alert
  rw [endAlert_eq]; dsimp only
  rw [alertsActive_emptied, hy.break.recency, hy.timeKept.tick, hsame]; rfl

/-- Settles O59: the slot emptied, by request or at the expiry. -/
theorem alertEnds : Obligations.AlertEnds := by
  refine fun s => ⟨fun p id ha => ⟨fun hid => ?_, fun hid hnone => ?_, fun hid a A hA hAid hlow => ?_⟩, fun a A hA hdue => ?_⟩
  · exact congrArg _ (takeRequest_eq ha (if_pos hid))
  · have hfind : findAlert (goodFrame p s) id = none :=
      findAlert_eq_none fun a ⟨B, hB, hBid⟩ => hnone a B (by rw [← goodFrame_alert p s]; exact hB) hBid
    refine congrArg _ (takeRequest_eq ha ((if_neg hid).trans ?_))
    rw [hfind]; rfl
  · have hA' : (goodFrame p s).alert a = some A := (goodFrame_alert p s a).trans hA
    have hfind : findAlert (goodFrame p s) id = some a := findAlert_eq_some ⟨A, hA', hAid⟩ fun b hb ⟨B, hB, hBid⟩ =>
      hlow b hb B (by rw [← goodFrame_alert p s]; exact hB) hBid
    have hact : alertEndAct p id (goodFrame p s) = { code := .ok, body := .alertEnded a A
                                                     state := alertChange A.zones (endAlert a A .ended (some p) (goodFrame p s)) } := by
      refine (if_neg hid).trans ?_
      rw [hfind]; dsimp only; rw [hA']
    have hexec : exec (.alertEnd p id) s = .next (answer p .alertEnd .ok (.alertEnded a A)
        (alertChange A.zones (endAlert a A .ended (some p) (goodFrame p s)))) := congrArg _ (takeRequest_eq ha hact)
    refine ⟨_, hexec, ended_of_end (goodFrame_ports p s) (answer_ports ..).break, answer_reply .., ?_⟩
    rw [endAlert_spelt (goodFrame_ports p s)]
  · have htake : takeAlertExpiry a s = alertChange A.zones (endAlert a A .expired none s) := by
      unfold takeAlertExpiry; rw [hA]; exact if_pos hdue
    have hexec : exec (.alertExpiry a) s = .next (alertChange A.zones (endAlert a A .expired none s)) := congrArg _ htake
    refine ⟨_, hexec, ended_of_end (.refl s) (.refl _), ?_⟩
    rw [endAlert_spelt (.refl s)]

end Sys2Proof.Certificates
end

section
/-! SUPPORT. The fabric's late answers (R42, R44) and the sends of the order link (R39), case by case. -/

namespace Sys2Proof.Machine

/-- An answer matches no order where the lane's order, if any, has another sequence number or has not been sent (R42). -/
theorem matched_eq_none {l : Fin 32} {seq : Byte} {s : State} (h : ∀ o ∈ s.order l, o.seq ≠ seq ∨ o.sent = false) :
    matched l seq s = none := by
  cases hm : matched l seq s with
  | none => rfl
  | some o =>
    obtain ⟨ho, hseq, hsent⟩ := matched_eq_some hm
    rcases h o ho with hne | hunsent
    · exact (hne hseq).elim
    · rw [hsent] at hunsent; cases hunsent

theorem takeDone_late {l : Fin 32} {seq : Byte} {s : State} (h : matched l seq s = none) :
    takeDone l seq s = lateAnswer l seq none s := by
  unfold takeDone; rw [h]

theorem takeFault_late {l : Fin 32} {seq : Byte} {c : FabricCode} {s : State} (h : matched l seq s = none) :
    takeFault l seq c s = lateAnswer l seq (some c) s := by
  unfold takeFault; rw [h]

/-- A send that began at an earlier tick ends: its lane's order has gone out, and the next message, if any, begins (R39). -/
theorem endSend_earlier {b : Tick} {m : OrderMsg} {rest : List OrderMsg} {s : State} (hsend : s.sending = some b)
    (hq : s.orderQueue = m :: rest) (hb : b ≠ s.tick) : endSend s = markSent m.lane (sendNext { s with orderQueue := rest }) := by
  unfold endSend; rw [hsend, hq]; exact if_neg hb

theorem markSent_some {l : Fin 32} {o : Outstanding} {s : State} (h : s.order l = some o) :
    markSent l s = s.setOrder l (some { o with sent := true }) := by
  unfold markSent; rw [h]; rfl

/-- The start of a send is due where the link is idle and a message waits (R39). -/
theorem sendDue_of_idle {m : OrderMsg} {rest : List OrderMsg} {s : State} (hidle : s.sending = none) (hq : s.orderQueue = m :: rest) :
    sendDue s = true := by
  unfold sendDue; rw [hidle, hq]; rfl

end Sys2Proof.Machine
end

section
/-! The switch order link: late answers and sends. -/

namespace Sys2Proof.Certificates

open Sys2Proof.Machine

/-- Settles O34: an answer that matches no order is a late one. -/
theorem answerLate : Obligations.AnswerLate := by
  refine ⟨rfl, rfl, fun l seq code s h => ?_⟩
  have hm := matched_eq_none h
  exact ⟨congrArg _ (takeDone_late hm), congrArg _ (takeFault_late hm)⟩

/-- Settles O36: the start of a send that is due, and the end of one that began earlier. -/
theorem orderSends : Obligations.OrderSends := by
  intro m rest s hq
  refine ⟨fun hidle => congrArg _ (startSend_due s (sendDue_of_idle hidle hq)), fun b o hsend hb ho => ?_⟩
  exact congrArg _ ((endSend_earlier hsend hq hb).trans (markSent_some ho))

end Sys2Proof.Certificates
end

section
/-! SUPPORT. Malformed messages from the fabric (R41, R201): each cause in R41's order, by the message's type. -/

namespace Sys2Proof

open Sys2Proof.Machine

/-- The sum of a run is the sum from its first byte on. -/
theorem foldl_eq_byteSum (x : Byte) (bs : List Byte) : bs.foldl (· + ·) x = byteSum (x :: bs) := by
  induction bs generalizing x with
  | nil => simp [byteSum]
  | cons y ys ih =>
    rw [List.foldl_cons, ih]
    exact BitVec.add_assoc ..

theorem byteSum_concat (bs : List Byte) (x : Byte) : byteSum (bs ++ [x]) = bs.foldr (· + ·) x := by
  simp [byteSum]

/-- A type that the fabric does not send requires no length (R201; log entry 18). -/
theorem fabricLength_other {type : Byte} (h2 : type.toNat ≠ 2) (h3 : type.toNat ≠ 3) : fabricLength type = none := by
  unfold fabricLength; split
  · contradiction
  · contradiction
  · rfl

theorem decodeFabric_other {type : Byte} (rest : List Byte) (h : fabricLength type = none) :
    decodeFabric (type :: rest) = .error (if byteSum (type :: rest) = 0 then .type else .check) := by
  unfold decodeFabric; simp only [h]; split <;> rfl

section Sent

variable {type : Byte} {n : Nat} {rest : List Byte} (hn : fabricLength type = some n)

include hn

/-- A message of a type that the fabric sends, of another length than R201's (R41). -/
theorem decodeFabric_length (h : (type :: rest).length ≠ n) : decodeFabric (type :: rest) = .error .length := by
  unfold decodeFabric; simp only [hn]; exact if_pos h

/-- A message of the required length whose bytes do not sum to 0 (R41). -/
theorem decodeFabric_check (hlen : (type :: rest).length = n) (h : byteSum (type :: rest) ≠ 0) :
    decodeFabric (type :: rest) = .error .check := by
  unfold decodeFabric; simp only [hn]
  rw [if_neg (not_not_intro hlen), if_pos h]

end Sent

section Fields

variable {lane seq code x : Byte}

/-- A DONE whose bytes sum to 0 names a lane, or fails LANE (R41, R201). -/
theorem decodeFabric_done_lane (hsum : byteSum [2, lane, seq, x] = 0) (h : 32 ≤ lane.toNat) :
    decodeFabric [2, lane, seq, x] = .error .lane := by
  unfold decodeFabric
  simp only [show fabricLength 2 = some 4 from rfl, hsum, toFin_eq_none.mpr h]
  rfl

/-- A FAULT whose bytes sum to 0 names a lane, or fails LANE (R41, R201). -/
theorem decodeFabric_fault_lane (hsum : byteSum [3, lane, seq, code, x] = 0) (h : 32 ≤ lane.toNat) :
    decodeFabric [3, lane, seq, code, x] = .error .lane := by
  unfold decodeFabric
  simp only [show fabricLength 3 = some 5 from rfl, hsum, toFin_eq_none.mpr h]
  rfl

theorem fabricCodeOf_eq_none {b : Byte} (h : b.toNat = 0 ∨ 3 < b.toNat) : fabricCodeOf b = none := by
  unfold fabricCodeOf; split
  · omega
  · omega
  · omega
  · rfl

/-- A FAULT of a lane whose bytes sum to 0 carries one of R37's codes, or fails CODE (R41, R201). -/
theorem decodeFabric_fault_code (hsum : byteSum [3, lane, seq, code, x] = 0) (hl : lane.toNat < 32) (h : code.toNat = 0 ∨ 3 < code.toNat) :
    decodeFabric [3, lane, seq, code, x] = .error .code := by
  have hlane : toFin 32 lane = some ⟨lane.toNat, hl⟩ := toFin_eq_some.mpr rfl
  unfold decodeFabric
  simp only [show fabricLength 3 = some 5 from rfl, hsum, hlane, fabricCodeOf_eq_none h]
  rfl

end Fields

end Sys2Proof

namespace Sys2Proof.Machine

theorem takeMalformed_error {bytes : List Byte} {cause : LinkCause} (h : decodeFabric bytes = .error cause) (s : State) :
    takeMalformed bytes s = linkError cause s := by
  unfold takeMalformed; rw [h]

end Sys2Proof.Machine
end

section
/-! The switch order link: malformed messages. -/

namespace Sys2Proof.Certificates

open Sys2Proof.Machine

/-- Settles O37: what a malformed message writes, then its cause by its type, length, sum and fields. -/
theorem fabricMalformed : Obligations.FabricMalformed := by
  refine ⟨fun bytes cause s h => congrArg _ (takeMalformed_error h s), rfl, fun type rest h2 h3 => ?_, fun lane seq code x rest => ?_⟩
  · rw [decodeFabric_other rest (fabricLength_other h2 h3), foldl_eq_byteSum]
  · have hdone : byteSum [2, lane, seq, x] = 2 + (lane + (seq + x)) := byteSum_concat [2, lane, seq] x
    have hfault : byteSum [3, lane, seq, code, x] = 3 + (lane + (seq + (code + x))) := byteSum_concat [3, lane, seq, code] x
    rw [← hdone, ← hfault]
    exact ⟨fun h => decodeFabric_length (n := 4) rfl fun e => h (Nat.succ.inj e),
      fun h => decodeFabric_length (n := 5) rfl fun e => h (Nat.succ.inj e),
      decodeFabric_check (n := 4) rfl rfl, decodeFabric_done_lane, decodeFabric_check (n := 5) rfl rfl, decodeFabric_fault_lane,
      decodeFabric_fault_code⟩

end Sys2Proof.Certificates
end

section
/-! SUPPORT. The buffers and the saturating counts (R41, R44, R54, R56, R58, R87, R98, R115): which operations write them, and that each
write keeps them within their sizes. -/

namespace Sys2Proof

open Sys2Proof.Machine

/-- What BuffersSound speaks of outside the avail table: the FIFO, the stray buffer, the counts of the links and the filters. -/
def Machine.State.buffers (s : State) : List IntakeEntry × List Stray × Nat × Nat × Nat × Nat × Nat × Vector Filter 48 :=
  (s.fifo, s.strays, s.strayOverruns, s.overruns, s.intakeErrors, s.lateCount, s.linkErrors, s.filters)

/-- An avail's repeat and conflict counts are within their maxima (R115). -/
def Machine.Avail.CountsSound (a : Avail) : Prop := a.repeats ≤ 255 ∧ a.conflicts ≤ 255

/-- The buffers and the counts stay within their sizes. -/
structure BuffersKept (s t : State) : Prop where
  sound : BuffersSound s → BuffersSound t

theorem BuffersKept.refl (s : State) : BuffersKept s s := ⟨id⟩
theorem BuffersKept.trans {s t u : State} (h : BuffersKept s t) (g : BuffersKept t u) : BuffersKept s u := ⟨g.sound ∘ h.sound⟩

theorem BuffersKept.ite {s t u : State} {c : Prop} [Decidable c] (h : BuffersKept s t) (g : BuffersKept s u) :
    BuffersKept s (if c then t else u) := by
  split
  · exact h
  · exact g

theorem foldl_buffersKept {α : Type} (f : State → α → State) (hf : ∀ s a, BuffersKept s (f s a)) (xs : List α) (s : State) :
    BuffersKept s (xs.foldl f s) := foldl_keeps BuffersKept .refl (fun _ _ _ => .trans) f hf xs s

/-- Where nothing outside the avail table is written, the avails' own counts decide. -/
theorem BuffersKept.of_counts {s t : State} (hb : t.buffers = s.buffers)
    (hc : ∀ i, (s.avail i).CountsSound → (t.avail i).CountsSound) : BuffersKept s t := by
  simp only [State.buffers, Prod.mk.injEq] at hb
  obtain ⟨hfifo, hstrays, hstray, hover, herr, hlate, hlink, hfilters⟩ := hb
  have filter (f : Fin 48) : t.filter f = s.filter f := by unfold State.filter; rw [hfilters]
  refine ⟨fun ⟨h1, h2, h3, h4, h5, h6, h7, h8, h9⟩ => ?_⟩
  unfold BuffersSound
  rw [hfifo, hstrays, hstray, hover, herr, hlate, hlink]
  exact ⟨h1, h2, h3, h4, h5, h6, h7, fun f => by rw [filter]; exact h8 f, fun i => hc i (h9 i)⟩

theorem BuffersKept.of_eq {s t : State} (hb : t.buffers = s.buffers) (ha : t.avails = s.avails) : BuffersKept s t :=
  .of_counts hb fun i h => by unfold State.avail; rw [ha]; exact h

theorem BreakOnly.buffers {s t : State} (h : BreakOnly s t) : t.buffers = s.buffers := by unfold BreakOnly at h; rw [h]; rfl

theorem PortsOnly.buffersKept {s t : State} (h : PortsOnly s t) : BuffersKept s t :=
  .of_eq h.break.buffers (by unfold PortsOnly at h; rw [h])

/-- An avail that ends keeps its counts (R117). -/
theorem AvailsEnd.buffersKept {s t : State} (h : AvailsEnd s t) (hb : t.buffers = s.buffers) : BuffersKept s t :=
  .of_counts hb fun i hi => by
    rcases h i with e | ⟨-, e⟩ <;> rw [e]
    · exact hi
    · exact hi

theorem Resolves.buffersKept {s t : State} (h : Resolves s t) (hb : BreakOnly s t) : BuffersKept s t := h.avails.buffersKept hb.buffers

theorem Machine.Avail.CountsSound.of_untimed {a b : Avail} (h : b.untimed = a.untimed) (ha : a.CountsSound) : b.CountsSound := by
  have hb : b.untimed.CountsSound := by rw [h]; exact ha
  exact hb

/-- A re-timed avail keeps its counts (R130). -/
theorem Machine.OnlyRetimes.buffersKept {i : Fin 64} {s t : State} (h : OnlyRetimes i s t) (hb : BreakOnly s t) : BuffersKept s t :=
  .of_counts hb.buffers fun j => .of_untimed (h.untimed j)

theorem PassOnly.buffersKept {s t : State} (h : PassOnly s t) : BuffersKept s t :=
  .of_eq (by rw [h.frame]; rfl) (by rw [h.frame])

end Sys2Proof

namespace Sys2Proof.Machine

theorem satInc_le (m n : Nat) : satInc m n ≤ m := Nat.min_le_right ..

/-! ## One record -/

theorem updAvail_buffersKept (i : Fin 64) (f : Avail → Avail) (s : State)
    (hf : (s.avail i).CountsSound → (f (s.avail i)).CountsSound) : BuffersKept s (s.updAvail i f) := by
  refine .of_counts rfl fun j hj => ?_
  rw [State.updAvail_avail]; split
  · rename_i h; subst h; exact hf hj
  · exact hj

theorem updFilter_buffersKept (i : Fin 48) (f : Filter → Filter) (s : State)
    (hf : (s.filter i).hit.count ≤ 65535 → (f (s.filter i)).hit.count ≤ 65535) : BuffersKept s (s.updFilter i f) := by
  refine ⟨fun ⟨h1, h2, h3, h4, h5, h6, h7, h8, h9⟩ => ⟨h1, h2, h3, h4, h5, h6, h7, fun j => ?_, h9⟩⟩
  rw [State.updFilter_filter]; split
  · exact hf (h8 i)
  · exact h8 j

theorem updLane_buffersKept (l : Fin 32) (f : Lane → Lane) (s : State) : BuffersKept s (s.updLane l f) := .of_eq rfl rfl

theorem setOrder_buffersKept (l : Fin 32) (o : Option Outstanding) (s : State) : BuffersKept s (s.setOrder l o) := .of_eq rfl rfl

theorem commit_buffersKept (l : Fin 32) (k : StepKind) (x : Source) (e : Tick) (a : Option Handle) (s : State) :
    BuffersKept s (commit l k x e a s) := .of_eq rfl rfl

theorem finish_buffersKept (i : Fin 64) (st : AvailState) (r : FinalResult) (s : State) (hst : ({ state := st } : Avail).final = true) :
    BuffersKept s (finish i st r s) := (finish_resolves i st r s hst).buffersKept (finish_avails ..).break

theorem finishLane_buffersKept (l : Fin 32) (st : AvailState) (r : FinalResult) (s : State)
    (hst : ({ state := st } : Avail).final = true) : BuffersKept s (finishLane l st r s) :=
  (finishLane_resolves l st r s hst).buffersKept (finishLane_avails ..).break

theorem moveIn_buffersKept (i : Fin 64) (T : Tick) (c : RetimeCause) (b : Bool) (s : State) : BuffersKept s (moveIn i T c b s) :=
  (moveIn_onlyRetimes ..).buffersKept (moveIn_avails ..).break

theorem pullIn_buffersKept (i : Fin 64) (c : RetimeCause) (s : State) : BuffersKept s (pullIn i c s) := moveIn_buffersKept ..

theorem reresolve_buffersKept (c : ResolveCause) (l : Fin 32) (s : State) : BuffersKept s (reresolve c l s) :=
  (reresolve_resolves c l s).buffersKept (reresolve_break c l s)

theorem windowChange_buffersKept (m : LaneSet) (s : State) : BuffersKept s (windowChange m s) :=
  (windowChange_resolves m s).buffersKept (windowChange_break m s)

theorem alertChange_buffersKept (z : ZoneSet) (s : State) : BuffersKept s (alertChange z s) :=
  (alertChange_resolves z s).buffersKept (alertChange_break z s)

/-! ## Breaks: the counts of repeats and conflicts (R115, R121, R131, R132) -/

theorem arbitrate_buffersKept (i : Fin 64) (s : State) : BuffersKept s (arbitrate i s) := by
  have hclose (h : Option Claim) : BuffersKept s (closeAvail i h s) := updAvail_buffersKept _ _ _ id
  unfold arbitrate; dsimp only; split
  · exact hclose _
  · exact (hclose _).trans (raiseClaims_ports ..).buffersKept

theorem arbitrateIf_buffersKept (b : Bool) (i : Fin 64) (s : State) : BuffersKept s (arbitrateIf b i s) :=
  .ite (arbitrate_buffersKept i s) (.refl s)

/-- A new avail has counted no repeat and no conflict (R119). -/
theorem createAvail_buffersKept (i : Fin 64) (l : Fin 32) (id : BitVec 32) (c : Byte) (o : AvailOrigin) (t : Times) (s : State) :
    BuffersKept s (createAvail i l id c o t s) :=
  ((updAvail_buffersKept i _ s fun _ => ⟨Nat.zero_le _, Nat.zero_le _⟩).trans (raise_ports ..).buffersKept).trans
    (arbitrateIf_buffersKept ..)

theorem countConflict_buffersKept (i : Fin 64) (s : State) : BuffersKept s (countConflict i s) :=
  updAvail_buffersKept _ _ _ fun ⟨hr, _⟩ => ⟨hr, satInc_le ..⟩

theorem repeatAvail_buffersKept (i : Fin 64) (t : Times) (s : State) : BuffersKept s (repeatAvail i t s).state := by
  unfold repeatAvail; dsimp only; split
  · dsimp only
    refine updAvail_buffersKept _ _ _ ?_
    exact fun ⟨_, hc⟩ => ⟨satInc_le .., hc⟩
  · split
    · exact ((updAvail_buffersKept _ _ _ id).trans (raiseRetimed_ports ..).buffersKept).trans (arbitrateIf_buffersKept ..)
    · exact countConflict_buffersKept ..

theorem acceptBreak_buffersKept (l : Fin 32) (id : BitVec 32) (c : Byte) (o : AvailOrigin) (t : Except ReplyCode Times) (s : State) :
    BuffersKept s (acceptBreak l id c o t s).state := by
  unfold acceptBreak; split
  · exact .refl s
  · split
    · exact repeatAvail_buffersKept ..
    · split
      · exact .refl s
      · exact createAvail_buffersKept ..

theorem returnCue_buffersKept (l : Fin 32) (c : Cue) (s : State) : BuffersKept s (returnCue l c s).2 := by
  unfold returnCue; split
  · exact .refl s
  · dsimp only; split
    · exact countConflict_buffersKept ..
    · split
      · exact .refl s
      · split
        · exact finish_buffersKept _ _ _ _ rfl
        · exact moveIn_buffersKept ..

theorem cancelCue_buffersKept (l : Fin 32) (c : Cue) (s : State) : BuffersKept s (cancelCue l c s).2 := by
  unfold cancelCue; split
  · exact .refl s
  · split
    · exact pullIn_buffersKept ..
    · exact countConflict_buffersKept ..
    all_goals exact finish_buffersKept _ _ _ _ rfl

theorem cueAction_buffersKept (f : Fin 48) (c : Cue) (l : Fin 32) (s : State) : BuffersKept s (cueAction f c l s).2 := by
  unfold cueAction; split
  · exact acceptBreak_buffersKept ..
  · exact returnCue_buffersKept ..
  · exact cancelCue_buffersKept ..
  · exact .refl s

/-! ## Cues: hits and strays (R87, R98) -/

theorem armLanes_buffersKept (f : Fin 48) (c : Cue) (ls : List (Fin 32)) (s : State) : BuffersKept s (armLanes f c ls s).2 := by
  induction ls generalizing s with
  | nil => exact .refl s
  | cons l ls ih =>
    have h := (cueAction_buffersKept f c l s).trans (ih (cueAction f c l s).2)
    unfold armLanes; dsimp only; split <;> exact h

theorem filterAct_buffersKept (i : Fin 48) (c : Cue) (s : State) : BuffersKept s (filterAct i c s).state := by
  unfold filterAct; dsimp only; split
  · exact .refl s
  · exact .refl s
  · split
    · exact .refl s
    · split
      · exact .refl s
      · split <;> exact armLanes_buffersKept ..

theorem takeHit_buffersKept (i : Fin 48) (c : Cue) (s : State) : BuffersKept s (takeHit i c s) := by
  have h : BuffersKept s ((filterAct i c s).state.updFilter i fun F =>
      { F with hit := F.hit.hit c s.tick (filterAct i c s).outcome (filterAct i c s).lane (filterAct i c s).applied }) :=
    (filterAct_buffersKept i c s).trans (updFilter_buffersKept i _ _ fun _ => satInc_le ..)
  unfold takeHit
  exact .ite (h.trans (raise_ports ..).buffersKept) h

/-- The stray buffer never holds more than two strays (R98). -/
theorem pushStray_length (x : Stray) (xs : List Stray) : (pushStray x xs).length ≤ 2 := by
  match xs with
  | [] => exact Nat.le_succ 1
  | [_] => exact Nat.le_refl 2
  | _ :: _ :: _ => exact Nat.le_refl 2

theorem takeStrayCue_buffersKept (c : Cue) (s : State) : BuffersKept s (takeStrayCue c s) := by
  unfold takeStrayCue; dsimp only
  refine .trans ?_ (raise_ports ..).buffersKept
  refine ⟨fun ⟨h1, _, h3, hrest⟩ => ⟨h1, pushStray_length .., ?_, hrest⟩⟩
  dsimp only; split
  · exact satInc_le ..
  · exact h3

theorem deliverCue_buffersKept (c : Cue) (s : State) : BuffersKept s (deliverCue c s) := by
  unfold deliverCue; split
  · exact takeHit_buffersKept ..
  · exact takeStrayCue_buffersKept ..

theorem runPass_buffersKept (x : Pass) : BuffersKept x.1 (runPass x) :=
  (evalPass_pass x).buffersKept.trans (foldl_buffersKept _ (fun s c => deliverCue_buffersKept c s) _ _)

theorem takeLineChange_buffersKept (k : Fin 24) (b : Bool) (s : State) : BuffersKept s (takeLineChange k b s) := by
  refine .ite (.refl s) (.trans ?_ (runPass_buffersKept _))
  exact .of_eq rfl rfl

theorem takeSettle_buffersKept (n : Fin 12) (s : State) : BuffersKept s (takeSettle n s) := by
  have hstop : BuffersKept s (settledCell n s) := .of_eq rfl rfl
  have hsettle : BuffersKept s (settle n s) := by
    unfold settle; dsimp only; split
    · exact hstop.trans (runPass_buffersKept (settledCell n s, []))
    · exact (hstop.trans (emitOn_pass _ _ _ (settledCell n s, [])).buffersKept).trans (runPass_buffersKept _)
  exact .ite hsettle (.refl s)

/-! ## The intake: the FIFO, its overruns and its errors (R54, R56, R58) -/

theorem takeArrival_buffersKept (bytes : List Byte) (s : State) : BuffersKept s (takeArrival bytes s) := by
  unfold takeArrival; split
  · rename_i hroom
    refine ⟨fun ⟨_, hrest⟩ => ⟨?_, hrest⟩⟩
    show (s.fifo ++ [_]).length ≤ 16
    rw [List.length_append]; exact hroom
  · exact ⟨fun ⟨h1, h2, h3, _, hrest⟩ => ⟨h1, h2, h3, satInc_le .., hrest⟩⟩

theorem rejectRecord_buffersKept (e : IntakeEntry) (c : RecordCause) (s : State) : BuffersKept s (rejectRecord e c s) :=
  ⟨fun ⟨h1, h2, h3, h4, _, hrest⟩ => ⟨h1, h2, h3, h4, satInc_le .., hrest⟩⟩

theorem takeTimeref_buffersKept (f : Fin 32) (stamp : Stamp) (a : Tick) (d : Bool) (s : State) :
    BuffersKept s (takeTimeref f stamp a d s) := by
  have href : BuffersKept s (s.setFeedRef f { valid := true, stamp, station := a }) := .of_eq rfl rfl
  unfold takeTimeref
  exact .ite (href.trans (raiseDiscontinuity_ports ..).buffersKept) href

theorem takeIntake_buffersKept (s : State) : BuffersKept s (takeIntake s) := by
  unfold takeIntake; split
  · exact .refl s
  · rename_i e rest hfifo
    have htake : BuffersKept s { s with fifo := rest } := ⟨fun ⟨h1, hrest⟩ => ⟨by
      rw [hfifo] at h1; exact Nat.le_of_succ_le h1, hrest⟩⟩
    refine htake.trans ?_
    unfold takeRecord; split
    · exact rejectRecord_buffersKept ..
    · exact deliverCue_buffersKept ..
    · exact takeTimeref_buffersKept ..

/-! ## The order link: late answers and errors (R41, R44), and the outcomes of orders -/

theorem lateAnswer_buffersKept (l : Fin 32) (seq : Byte) (c : Option FabricCode) (s : State) :
    BuffersKept s (lateAnswer l seq c s) :=
  ⟨fun ⟨h1, h2, h3, h4, h5, _, hrest⟩ => ⟨h1, h2, h3, h4, h5, satInc_le .., hrest⟩⟩

theorem takeMalformed_buffersKept (bytes : List Byte) (s : State) : BuffersKept s (takeMalformed bytes s) := by
  unfold takeMalformed; split
  · exact ⟨fun ⟨h1, h2, h3, h4, h5, h6, _, hrest⟩ => ⟨h1, h2, h3, h4, h5, h6, satInc_le .., hrest⟩⟩
  · exact .refl s

theorem reportCommitted_buffersKept (f : Bool) (h : Handle) (e : Tick) (s : State) : BuffersKept s (reportCommitted f h e s) :=
  (reportCommitted_onlyRetimes ..).buffersKept (reportCommitted_avails ..).break

theorem setLaneState_buffersKept (l : Fin 32) (x : LaneState) (s : State) : BuffersKept s (setLaneState l x s) := .of_eq rfl rfl

theorem endStop_buffersKept (l : Fin 32) (k : StepKind) (s : State) : BuffersKept s (endStop l k s) := .ite (.of_eq rfl rfl) (.refl s)

theorem settleOrder_buffersKept (l : Fin 32) (o : Outstanding) (s : State) : BuffersKept s (settleOrder l o s) :=
  ((setOrder_buffersKept ..).trans (updLane_buffersKept ..)).trans (tellSource_ports ..).buffersKept

theorem stepDone_buffersKept (k : StepKind) (h : Handle) (x : Source) (s : State) : BuffersKept s (stepDone k h x s) := by
  unfold stepDone; dsimp only
  refine .ite (.refl s) ?_
  cases k with
  | out => exact .ite (raise_ports ..).buffersKept (.refl s)
  | fill => exact .ite (updAvail_buffersKept _ _ _ id) (.refl s)
  | inStep => exact .ite ((raise_ports ..).buffersKept.trans (finish_buffersKept _ _ _ _ rfl)) (.refl s)
  | owner => exact .refl s
  | stop => exact .refl s

theorem handlePlanned_buffersKept (l : Fin 32) (s : State) : BuffersKept s (handlePlanned l s) := by
  unfold handlePlanned; dsimp only; split
  · exact .refl s
  · split
    · exact .ite (updLane_buffersKept ..) (commit_buffersKept ..)
    · exact commit_buffersKept ..
    all_goals
      split
      · exact (commit_buffersKept ..).trans (reportCommitted_buffersKept ..)
      · exact commit_buffersKept ..

theorem orderDone_buffersKept (l : Fin 32) (o : Outstanding) (s : State) : BuffersKept s (orderDone l o s) := by
  have hstop := (settleOrder_buffersKept l o s).trans (endStop_buffersKept l o.kind _)
  rw [orderDone_eq]
  refine .trans ?_ (handlePlanned_buffersKept ..)
  split
  · exact hstop.trans (stepDone_buffersKept ..)
  · exact hstop

theorem laneFault_buffersKept (l : Fin 32) (o : Outstanding) (r : FaultReason) (c : Option FabricCode) (s : State) :
    BuffersKept s (laneFault l o r c s) := by
  have hfallen : BuffersKept s (fallen l o r c s) :=
    ((updLane_buffersKept ..).trans (tellFault_ports ..).buffersKept).trans (finishLane_buffersKept _ _ _ _ rfl)
  rw [laneFault_fallen]
  exact .ite (hfallen.trans (reresolve_buffersKept ..)) hfallen

theorem takeDone_buffersKept (l : Fin 32) (seq : Byte) (s : State) : BuffersKept s (takeDone l seq s) := by
  unfold takeDone; split
  · exact orderDone_buffersKept ..
  · exact lateAnswer_buffersKept ..

theorem takeFault_buffersKept (l : Fin 32) (seq : Byte) (c : FabricCode) (s : State) : BuffersKept s (takeFault l seq c s) := by
  unfold takeFault; split
  · exact (setOrder_buffersKept ..).trans (laneFault_buffersKept ..)
  · exact lateAnswer_buffersKept ..

theorem dropOrder_buffersKept (l : Fin 32) (s : State) : BuffersKept s (dropOrder l s) := .ite (.of_eq rfl rfl) (.of_eq rfl rfl)

theorem takeAckExpiry_buffersKept (l : Fin 32) (s : State) : BuffersKept s (takeAckExpiry l s) := by
  unfold takeAckExpiry; split
  · refine .ite (.trans (.trans ?_ (setOrder_buffersKept ..)) (laneFault_buffersKept ..)) (.refl s)
    exact .ite (.refl s) (dropOrder_buffersKept l s)
  · exact .refl s

theorem startSend_buffersKept (s : State) : BuffersKept s (startSend s) := by
  unfold startSend; split <;> exact .of_eq rfl rfl

theorem endSend_buffersKept (s : State) : BuffersKept s (endSend s) := by
  unfold endSend; split
  · exact .ite (.refl s) (.of_eq rfl rfl)
  · exact .refl s

/-! ## Commit points -/

theorem takeClaimClose_buffersKept (i : Fin 64) (s : State) : BuffersKept s (takeClaimClose i s) :=
  .ite (arbitrate_buffersKept i s) (.refl s)

theorem takeOutCommit_buffersKept (i : Fin 64) (s : State) : BuffersKept s (takeOutCommit i s) := by
  have hcommit : BuffersKept s (outCommit i s) := by
    rcases outCommit_cases i s with ⟨st, r, hst, e⟩ | ⟨l, x, T, a, e⟩ <;> rw [e]
    · exact finish_buffersKept _ _ _ _ hst
    · exact ((commit_buffersKept ..).trans (updAvail_buffersKept _ _ _ id)).trans (reresolve_buffersKept ..)
  exact .ite hcommit (.refl s)

theorem takeFillCommit_buffersKept (i : Fin 64) (s : State) : BuffersKept s (takeFillCommit i s) := by
  unfold takeFillCommit; split
  · exact .ite ((fillCommit_onlyRetimes i _ s).buffersKept (fillCommit_break ..)) (.refl s)
  · exact .refl s

theorem requestStep_buffersKept (l : Fin 32) (b : Bool) (h : Handle) (T : Tick) (s : State) :
    BuffersKept s (requestStep l b h T s).2 := (requestStep_resolves ..).buffersKept (requestStep_break ..)

theorem inCommit_buffersKept (i : Fin 64) (s : State) : BuffersKept s (inCommit i s) := by
  have hgo (x : State) (l : Fin 32) : BuffersKept x (beginReturn i l x) :=
    (updAvail_buffersKept _ _ _ id).trans (reresolve_buffersKept ..)
  unfold inCommit; dsimp only; split
  · exact ((requestStep_buffersKept ..).trans (hgo ..)).trans (reportCommitted_buffersKept ..)
  · exact (requestStep_buffersKept ..).trans (hgo ..)
  · exact requestStep_buffersKept ..

theorem takeInCommit_buffersKept (i : Fin 64) (s : State) : BuffersKept s (takeInCommit i s) := .ite (inCommit_buffersKept i s) (.refl s)

/-! ## Lanes, windows and alerts -/

theorem enableLane_buffersKept (l : Fin 32) (s : State) : BuffersKept s (enableLane l s) :=
  (((updLane_buffersKept ..).trans (setLaneState_buffersKept ..)).trans (commit_buffersKept ..)).trans (reresolve_buffersKept ..)

theorem disableLane_buffersKept (l : Fin 32) (s : State) : BuffersKept s (disableLane l s) := by
  have hprepare (x : State) : BuffersKept x (prepareStop l x) :=
    .of_counts (prepareStop_break l x).buffers fun i h => by rw [prepareStop_avail]; exact h
  have hstop := (((updLane_buffersKept l (fun L => { L with planned := none }) s).trans (setLaneState_buffersKept l .stopping _)).trans
    (finishLane_buffersKept l .cancelled .laneOff _ rfl)).trans (hprepare _)
  unfold disableLane
  exact .ite (hstop.trans (reresolve_buffersKept ..)) hstop

theorem acceptLane_buffersKept (l : Fin 32) (cfg : LaneConfig) (s : State) : BuffersKept s (acceptLane l cfg s) := by
  have hconsequence (a b : Bool) (x : State) : BuffersKept x (enableConsequence l a b x) := by
    unfold enableConsequence; split
    · exact enableLane_buffersKept ..
    · exact disableLane_buffersKept ..
    · exact disableLane_buffersKept ..
    · exact .refl x
  unfold acceptLane
  exact .ite ((updLane_buffersKept ..).trans (hconsequence ..))
    (((updLane_buffersKept ..).trans (hconsequence ..)).trans (reresolve_buffersKept ..))

theorem writeLaneAct_buffersKept (r : RawLane) (s : State) : BuffersKept s (writeLaneAct r s).state := by
  unfold writeLaneAct; split
  · exact .refl s
  · split
    · exact .refl s
    · exact .refl s
    · exact acceptLane_buffersKept ..

theorem laneResetAct_buffersKept (b : Byte) (s : State) : BuffersKept s (laneResetAct b s).state := by
  unfold laneResetAct; split
  · exact .refl s
  · split
    · exact ((updLane_buffersKept ..).trans (setLaneState_buffersKept ..)).trans (reresolve_buffersKept ..)
    · exact .refl s

theorem acceptWindow_buffersKept (w : Fin 16) (cfg : WindowConfig) (s : State) : BuffersKept s (acceptWindow w cfg s) := by
  have hwrite (f : Window → Window) : BuffersKept s (s.updWindow w f) := .of_eq rfl rfl
  have hconsequence (old : Window) (x : State) : BuffersKept x (windowConsequence w old x) := by
    unfold windowConsequence
    exact .ite ((raise_ports ..).buffersKept.trans (windowChange_buffersKept ..))
      (.ite ((raise_ports ..).buffersKept.trans (windowChange_buffersKept ..)) (.ite (raise_ports ..).buffersKept (.refl x)))
  unfold acceptWindow
  exact .ite ((hwrite _).trans (hconsequence ..)) (hwrite _)

theorem writeWindowAct_buffersKept (r : RawWindow) (s : State) : BuffersKept s (writeWindowAct r s).state := by
  unfold writeWindowAct; split
  · exact .refl s
  · dsimp only; split
    · exact .refl s
    · exact acceptWindow_buffersKept ..

theorem beginAlert_buffersKept (a : Fin 4) (A : Alert) (c : BeginCause) (s : State) : BuffersKept s (beginAlert a A c s) := .of_eq rfl rfl

theorem endAlert_buffersKept (a : Fin 4) (A : Alert) (r : EndReason) (e : Option (Fin 4)) (s : State) :
    BuffersKept s (endAlert a A r e s) := .of_eq rfl rfl

theorem startAlert_buffersKept (A : Alert) (s : State) : BuffersKept s (startAlert A s).state := by
  unfold startAlert; split
  · exact (beginAlert_buffersKept ..).trans (alertChange_buffersKept ..)
  · split
    · exact (beginAlert_buffersKept ..).trans (alertChange_buffersKept ..)
    · split
      · exact .refl s
      · split
        · exact .refl s
        · exact ((endAlert_buffersKept ..).trans (beginAlert_buffersKept ..)).trans (alertChange_buffersKept ..)

theorem alertStartAct_buffersKept (p : Fin 4) (r : RawAlert) (s : State) : BuffersKept s (alertStartAct p r s).state := by
  unfold alertStartAct; split
  · exact .refl s
  · exact startAlert_buffersKept ..

theorem alertEndAct_buffersKept (p : Fin 4) (b : Byte) (s : State) : BuffersKept s (alertEndAct p b s).state := by
  unfold alertEndAct; split
  · exact .refl s
  · split
    · exact .refl s
    · split
      · exact .refl s
      · exact (endAlert_buffersKept ..).trans (alertChange_buffersKept ..)

theorem takeAlertExpiry_buffersKept (a : Fin 4) (s : State) : BuffersKept s (takeAlertExpiry a s) := by
  unfold takeAlertExpiry; split
  · exact .ite ((endAlert_buffersKept ..).trans (alertChange_buffersKept ..)) (.refl s)
  · exact .refl s

/-! ## Requests on avails, filters and the cue logic -/

theorem bookAct_buffersKept (p : Fin 4) (r : RawBooking) (s : State) : BuffersKept s (bookAct p r s).state := by
  unfold bookAct; split
  · exact .refl s
  · split
    · exact .refl s
    · dsimp only; split <;> exact acceptBreak_buffersKept ..

theorem cancelAct_buffersKept (h : RawHandle) (s : State) : BuffersKept s (cancelAct h s).state := by
  unfold cancelAct; split
  · exact .refl s
  · dsimp only; split
    · exact finish_buffersKept _ _ _ _ rfl
    · exact finish_buffersKept _ _ _ _ rfl
    · exact pullIn_buffersKept ..
    all_goals exact .refl s

theorem releaseAvail_buffersKept (i : Fin 64) (s : State) : BuffersKept s (releaseAvail i s) :=
  (updAvail_buffersKept _ _ _ id).trans (pullIn_buffersKept ..)

theorem releaseAct_buffersKept (p : Fin 4) (h : RawHandle) (s : State) : BuffersKept s (releaseAct p h s).state := by
  unfold releaseAct; split
  · exact .refl s
  · split
    · split
      · exact releaseAvail_buffersKept ..
      · exact .refl s
    all_goals exact .refl s

theorem claimAct_buffersKept (p : Fin 4) (r : RawClaim) (s : State) : BuffersKept s (claimAct p r s).state := by
  unfold claimAct; split
  · exact .refl s
  · split
    · exact .refl s
    · dsimp only; split
      · exact .refl s
      · dsimp only; exact updAvail_buffersKept _ _ _ id

theorem withdrawAct_buffersKept (p : Fin 4) (h : RawHandle) (s : State) : BuffersKept s (withdrawAct p h s).state := by
  unfold withdrawAct; split
  · exact .refl s
  · dsimp only; split
    · split
      · dsimp only; exact updAvail_buffersKept _ _ _ id
      · exact .refl s
    · split
      · dsimp only; exact updAvail_buffersKept _ _ _ id
      · exact .refl s
    · split
      · exact releaseAvail_buffersKept ..
      · exact .refl s
    · split <;> exact .refl s
    all_goals exact .refl s

theorem writeFilterAct_buffersKept (r : RawFilter) (s : State) : BuffersKept s (writeFilterAct r s).state := by
  unfold writeFilterAct; split
  · exact .refl s
  · dsimp only; split
    · exact .refl s
    · dsimp only; exact updFilter_buffersKept _ _ _ id

theorem readHitAct_buffersKept (b : Byte) (s : State) : BuffersKept s (readHitAct b s).state := by
  unfold readHitAct; split
  · exact .refl s
  · dsimp only; exact updFilter_buffersKept _ _ _ id

theorem takeStrayAct_buffersKept (s : State) : BuffersKept s (takeStrayAct s).state := by
  unfold takeStrayAct; split
  · exact .refl s
  · rename_i x rest hstrays
    refine ⟨fun ⟨h1, h2, hrest⟩ => ⟨h1, ?_, hrest⟩⟩
    rw [hstrays] at h2; exact Nat.le_of_succ_le h2

theorem writePairAct_buffersKept (r : RawPair) (s : State) : BuffersKept s (writePairAct r s).state := by
  unfold writePairAct; split
  · exact .refl s
  · dsimp only; split
    · exact .refl s
    · split
      · exact .refl s
      · exact .of_eq rfl rfl

theorem updPair_buffersKept (k : Fin 6) (f : Pair → Pair) (s : State) : BuffersKept s (s.updPair k f) := .of_eq rfl rfl
theorem primeCell_buffersKept (n : Fin 12) (s : State) : BuffersKept s (primeCell n s) := .of_eq rfl rfl
theorem forceCell_buffersKept (n : Fin 12) (s : State) : BuffersKept s (forceCell n s) := .of_eq rfl rfl

theorem primePair_buffersKept (k : Fin 6) (s : State) : BuffersKept s (primePair k s) := by
  have hcells := ((updPair_buffersKept k (fun P => { P with enable := true, output := false }) s).trans
    (primeCell_buffersKept (oddCell k) _)).trans (primeCell_buffersKept (evenCell k) _)
  unfold primePair
  exact hcells.trans (updPair_buffersKept ..)

theorem forcePair_buffersKept (k : Fin 6) (s : State) : BuffersKept s (forcePair k s) :=
  ((forceCell_buffersKept ..).trans (forceCell_buffersKept ..)).trans (updPair_buffersKept ..)

theorem enablePairAct_buffersKept (r : RawEnable) (s : State) : BuffersKept s (enablePairAct r s).state := by
  unfold enablePairAct; split
  · exact .refl s
  · dsimp only; split
    · exact .refl s
    · dsimp only; split
      · exact (updPair_buffersKept ..).trans (primePair_buffersKept ..)
      · exact (updPair_buffersKept ..).trans (forcePair_buffersKept ..)
      all_goals exact updPair_buffersKept ..

/-! ## Port events -/

theorem setPlace_buffersKept (l : Fin 32) (p : Fin 4) (x : Option Standing) (s : State) : BuffersKept s (s.setPlace l p x) := .of_eq rfl rfl

theorem detachAvail_buffersKept (p : Fin 4) (s : State) (i : Fin 64) : BuffersKept s (detachAvail p s i) := by
  unfold detachAvail; dsimp only; split
  · exact updAvail_buffersKept _ _ _ id
  · exact .ite (updAvail_buffersKept _ _ _ id) (.refl s)
  all_goals exact .refl s

theorem detach_buffersKept (p : Fin 4) (s : State) : BuffersKept s (detach p s) :=
  (((updPort_ports p Port.detached s).buffersKept.trans (foldl_buffersKept _ (fun s l => setPlace_buffersKept l p none s) _ _)).trans
    (foldl_buffersKept _ (detachAvail_buffersKept p) _ _)).trans (raise_ports ..).buffersKept

theorem takeBytes_buffersKept (p : Fin 4) (bytes : List Byte) (s : State) : BuffersKept s (takeBytes p bytes s) := by
  unfold takeBytes takeMalformedFrame; dsimp only; split
  · split
    · exact (PortsOnly.trans (updPort_ports ..) (updPort_ports ..)).buffersKept
    · split
      · exact (updPort_ports ..).buffersKept.trans (detach_buffersKept ..)
      · exact ((updPort_ports ..).trans ((updPort_ports ..).trans (setErrors_ports ..))).buffersKept
  · exact .refl s
  · exact .refl s

theorem standAct_buffersKept (p : Fin 4) (r : RawStand) (s : State) : BuffersKept s (standAct p r s).state := by
  unfold standAct; split
  · exact .refl s
  · exact setPlace_buffersKept ..

theorem standClearAct_buffersKept (p : Fin 4) (b : Byte) (s : State) : BuffersKept s (standClearAct p b s).state := by
  unfold standClearAct; split
  · exact .refl s
  · split
    · exact setPlace_buffersKept ..
    · exact .refl s

theorem setPaused_buffersKept (p : Fin 4) (b : Byte) (x : Bool) (s : State) : BuffersKept s (setPaused p b x s).state := by
  unfold setPaused; split
  · exact .refl s
  · split
    · exact .refl s
    · exact setPlace_buffersKept ..

/-! ## The clock and every command -/

theorem takeBoundary_buffersKept (s : State) : BuffersKept s (takeBoundary s) := by
  refine (takeBoundary_resolves s).avails.buffersKept ?_
  unfold takeBoundary; split
  · exact (windowBoundary_frame { s with boundaryDue := false, calendar := s.calendar.advance }).buffers
  · rfl

theorem sweep_buffersKept {n : Nat} (take : Fin n → State → State) (h : ∀ i s, BuffersKept s (take i s)) (s : State) :
    BuffersKept s (sweep take s) := sweep_keeps BuffersKept .refl (fun _ _ _ => .trans) take h s

theorem settleTick_buffersKept (s : State) : BuffersKept s (settleTick s) := by
  unfold settleTick
  refine .trans ?_ (startSend_buffersKept _)
  refine .trans ?_ (sweep_buffersKept _ takeInCommit_buffersKept _)
  refine .trans ?_ (sweep_buffersKept _ takeFillCommit_buffersKept _)
  refine .trans ?_ (sweep_buffersKept _ takeOutCommit_buffersKept _)
  refine .trans ?_ (sweep_buffersKept _ takeClaimClose_buffersKept _)
  refine .trans ?_ (sweep_buffersKept _ takeAckExpiry_buffersKept _)
  refine .trans ?_ (sweep_buffersKept _ (fun p s => (takeQuietExpiry_ports p s).buffersKept) _)
  refine .trans ?_ (sweep_buffersKept _ takeAlertExpiry_buffersKept _)
  exact (takeBoundary_buffersKept s).trans (sweep_buffersKept _ takeSettle_buffersKept _)

theorem advanceTick_buffersKept (s : State) : BuffersKept s (advanceTick s) := .of_eq rfl rfl

theorem takeRequest_buffersKept (p : Fin 4) (r : Req) (act : State → Answer) (hact : ∀ x, BuffersKept x (act x).state) (s : State) :
    BuffersKept s (takeRequest p r act s) :=
  takeRequest_keeps BuffersKept (fun _ _ => PortsOnly.buffersKept) (fun _ _ _ => .trans) p r act hact s

/-- The block of a read leaves the state that it found. -/
theorem takeRead_buffersKept (p : Fin 4) (r : Req) (act : State → Answer) (hact : ∀ x, (act x).state = x) (s : State) :
    BuffersKept s (takeRequest p r act s) :=
  takeRequest_buffersKept p r act (fun x => by rw [hact]; exact .refl x) s

theorem exec_buffersKept (c : Instr) (s t : State) (h : exec c s = .next t) : BuffersKept s t := by
  cases c <;> (have ht := Host.Outcome.next.inj h; subst ht)
  case powerOnReset => exact ⟨fun _ => released_buffersSound ..⟩
  case secondBoundary => exact takeBoundary_buffersKept s
  case chipSelectAssert => exact (updPort_ports ..).buffersKept
  case malformedFrame => exact takeBytes_buffersKept ..
  case status => exact takeRequest_buffersKept _ _ _ (fun x => .of_eq rfl rfl) s
  case fetch => exact (takeFetch_ports ..).buffersKept
  case subscribe =>
    refine takeRequest_buffersKept _ _ _ (fun x => ?_) s
    unfold subscribeAct; split
    · exact .refl x
    · exact .of_eq rfl rfl
  case rejoin =>
    refine takeRequest_buffersKept _ _ _ (fun x => ?_) s
    unfold rejoinAct; dsimp only; split
    · exact .of_eq rfl rfl
    · exact .refl x
  case quietExpiry => exact (takeQuietExpiry_ports ..).buffersKept
  case setCalendar =>
    refine takeRequest_buffersKept _ _ _ (fun x => ?_) s
    unfold setCalendarAct; split
    · exact .refl x
    · exact .of_eq rfl rfl
  case writeLane => exact takeRequest_buffersKept _ _ _ (writeLaneAct_buffersKept _) s
  case laneReset => exact takeRequest_buffersKept _ _ _ (laneResetAct_buffersKept _) s
  case orderSendStart => exact startSend_buffersKept s
  case orderSendEnd => exact endSend_buffersKept s
  case done => exact takeDone_buffersKept ..
  case fault => exact takeFault_buffersKept ..
  case fabricMessageMalformed => exact takeMalformed_buffersKept ..
  case ackTimerExpiry => exact takeAckExpiry_buffersKept ..
  case recordArrival => exact takeArrival_buffersKept ..
  case intakeTaking => exact takeIntake_buffersKept s
  case lineChange => exact takeLineChange_buffersKept ..
  case settleExpiry => exact takeSettle_buffersKept ..
  case writePair => exact takeRequest_buffersKept _ _ _ (writePairAct_buffersKept _) s
  case enablePair => exact takeRequest_buffersKept _ _ _ (enablePairAct_buffersKept _) s
  case setCueOutput =>
    refine takeRequest_buffersKept _ _ _ (fun x => ?_) s
    unfold setCueOutputAct; split
    · exact .refl x
    · exact .of_eq rfl rfl
  case writeFilter => exact takeRequest_buffersKept _ _ _ (writeFilterAct_buffersKept _) s
  case readHit => exact takeRequest_buffersKept _ _ _ (readHitAct_buffersKept _) s
  case takeStray => exact takeRequest_buffersKept _ _ _ takeStrayAct_buffersKept s
  case claimClose => exact takeClaimClose_buffersKept ..
  case outCommitPoint => exact takeOutCommit_buffersKept ..
  case fillCommitPoint => exact takeFillCommit_buffersKept ..
  case inCommitPoint => exact takeInCommit_buffersKept ..
  case bookAvail => exact takeRequest_buffersKept _ _ _ (bookAct_buffersKept _ _) s
  case cancelAvail => exact takeRequest_buffersKept _ _ _ (cancelAct_buffersKept _) s
  case release => exact takeRequest_buffersKept _ _ _ (releaseAct_buffersKept _ _) s
  case claim => exact takeRequest_buffersKept _ _ _ (claimAct_buffersKept _ _) s
  case withdraw => exact takeRequest_buffersKept _ _ _ (withdrawAct_buffersKept _ _) s
  case stand => exact takeRequest_buffersKept _ _ _ (standAct_buffersKept _ _) s
  case standClear => exact takeRequest_buffersKept _ _ _ (standClearAct_buffersKept _ _) s
  case standPause => exact takeRequest_buffersKept _ _ _ (setPaused_buffersKept _ _ _) s
  case standResume => exact takeRequest_buffersKept _ _ _ (setPaused_buffersKept _ _ _) s
  case writeWindow => exact takeRequest_buffersKept _ _ _ (writeWindowAct_buffersKept _) s
  case alertStart => exact takeRequest_buffersKept _ _ _ (alertStartAct_buffersKept _ _) s
  case alertEnd => exact takeRequest_buffersKept _ _ _ (alertEndAct_buffersKept _ _) s
  case alertExpiry => exact takeAlertExpiry_buffersKept ..
  case stationTick => exact (settleTick_buffersKept s).trans (advanceTick_buffersKept _)
  case fetchCheckByte => exact (updPort_ports ..).buffersKept
  case readTime => exact takeRead_buffersKept _ _ _ (fun _ => rfl) s
  case readLane => exact takeRead_buffersKept _ _ _ (readLaneAct_state _) s
  case readOrderLink => exact takeRead_buffersKept _ _ _ (fun _ => rfl) s
  case readIntake => exact takeRead_buffersKept _ _ _ (fun _ => rfl) s
  case readFeed => exact takeRead_buffersKept _ _ _ (readFeedAct_state _) s
  case readCueLogic => exact takeRead_buffersKept _ _ _ (fun _ => rfl) s
  case readPair => exact takeRead_buffersKept _ _ _ (readPairAct_state _) s
  case readFilter => exact takeRead_buffersKept _ _ _ (readFilterAct_state _) s
  case readStrays => exact takeRead_buffersKept _ _ _ (fun _ => rfl) s
  case readAvail => exact takeRead_buffersKept _ _ _ (readAvailAct_state _) s
  case readLaneAvails => exact takeRead_buffersKept _ _ _ (readLaneAvailsAct_state _) s
  case readStanding => exact takeRead_buffersKept _ _ _ (readStandingAct_state _) s
  case readWindow => exact takeRead_buffersKept _ _ _ (readWindowAct_state _) s
  case readAlerts => exact takeRead_buffersKept _ _ _ (fun _ => rfl) s

end Sys2Proof.Machine
end

section
/-! Every command keeps the buffers and the saturating counts within their sizes. -/

namespace Sys2Proof.Certificates

open Sys2Proof.Machine

/-- Settles O43: what every command writes of a buffer or a count stays within its size. -/
theorem buffersSoundKept : Obligations.BuffersSoundKept :=
  step_keeps BuffersSound (fun _ _ => (BuffersKept.of_eq rfl rfl).sound) fun c s t h => (exec_buffersKept c s t h).sound

end Sys2Proof.Certificates
end

section
/-! SUPPORT. The confirmed source of a lane (R46): every operation but an answer of the fabric, a timeout and a reset leaves it. -/

namespace Sys2Proof

open Sys2Proof.Machine

/-- No lane's confirmed source differs. -/
structure ConfirmedKept (s t : State) : Prop where
  lane : ∀ l, (t.lane l).confirmed = (s.lane l).confirmed

theorem ConfirmedKept.refl (s : State) : ConfirmedKept s s := ⟨fun _ => rfl⟩
theorem ConfirmedKept.trans {s t u : State} (h : ConfirmedKept s t) (g : ConfirmedKept t u) : ConfirmedKept s u :=
  ⟨fun l => (g.lane l).trans (h.lane l)⟩

theorem ConfirmedKept.ite {s t u : State} {c : Prop} [Decidable c] (h : ConfirmedKept s t) (g : ConfirmedKept s u) :
    ConfirmedKept s (if c then t else u) := by
  split
  · exact h
  · exact g

theorem ConfirmedKept.of_lanes {s t : State} (h : t.lanes = s.lanes) : ConfirmedKept s t := ⟨fun l => by unfold State.lane; rw [h]⟩

theorem ScheduleKept.confirmedKept {s t : State} (h : ScheduleKept s t) : ConfirmedKept s t := by
  obtain ⟨hl, -⟩ := scheduleKept_iff.mp h
  exact .of_lanes hl

theorem PortsOnly.confirmedKept {s t : State} (h : PortsOnly s t) : ConfirmedKept s t := h.scheduleKept.confirmedKept
theorem AvailsOnly.confirmedKept {s t : State} (h : AvailsOnly s t) : ConfirmedKept s t := h.scheduleKept.confirmedKept

/-- What a re-resolution and its parts can do leaves the confirmed sources. -/
theorem Resolves.confirmedKept {s t : State} (h : Resolves s t) : ConfirmedKept s t :=
  ⟨fun l => congrArg (fun x => x.2.2.2.1) (h.lanes l)⟩

end Sys2Proof

namespace Sys2Proof.Machine

/-! ## The operations on one lane -/

theorem updLane_confirmedKept (l : Fin 32) (f : Lane → Lane) (s : State) (hf : (f (s.lane l)).confirmed = (s.lane l).confirmed) :
    ConfirmedKept s (s.updLane l f) := by
  refine ⟨fun j => ?_⟩
  rw [State.updLane_lane]; split
  · rename_i h; rw [hf, h]
  · rfl

theorem commit_confirmedKept (l : Fin 32) (k : StepKind) (x : Source) (e : Tick) (a : Option Handle) (s : State) :
    ConfirmedKept s (commit l k x e a s) := (commit_resolves ..).confirmedKept

theorem reresolve_confirmedKept (c : ResolveCause) (l : Fin 32) (s : State) : ConfirmedKept s (reresolve c l s) :=
  (reresolve_resolves c l s).confirmedKept

theorem runLane_confirmedKept (l : Fin 32) (s : State) : ConfirmedKept s (runLane l s) :=
  (updLane_confirmedKept l Lane.running s rfl).trans (raise_ports ..).confirmedKept

theorem stopLane_confirmedKept (l : Fin 32) (s : State) : ConfirmedKept s (stopLane l s) :=
  (updLane_confirmedKept l (fun L => { L with planned := none, state := .stopping }) s rfl).trans (raise_ports ..).confirmedKept

/-- An enable leaves the confirmed source as it stands until the DONE of its order (R21, R46). -/
theorem enableLane_confirmedKept (l : Fin 32) (s : State) : ConfirmedKept s (enableLane l s) := by
  rw [enableLane_eq]
  exact ((runLane_confirmedKept l s).trans (commit_confirmedKept ..)).trans (reresolve_confirmedKept ..)

theorem prepareStop_confirmedKept (l : Fin 32) (s : State) : ConfirmedKept s (prepareStop l s) := by
  cases hc : (s.lane l).committed with
  | none => rw [prepareStop_none hc]; exact commit_confirmedKept ..
  | some c => rw [prepareStop_some hc]; exact updLane_confirmedKept _ _ _ rfl

theorem disableLane_confirmedKept (l : Fin 32) (s : State) : ConfirmedKept s (disableLane l s) := by
  have hstop := ((stopLane_confirmedKept l s).trans (finishLane_avails l .cancelled .laneOff _).confirmedKept).trans
    (prepareStop_confirmedKept l _)
  rw [disableLane_eq]
  exact .ite (hstop.trans (reresolve_confirmedKept ..)) hstop

theorem enableConsequence_confirmedKept (l : Fin 32) (a b : Bool) (s : State) : ConfirmedKept s (enableConsequence l a b s) := by
  unfold enableConsequence; split
  · exact enableLane_confirmedKept ..
  · exact disableLane_confirmedKept ..
  · exact disableLane_confirmedKept ..
  · exact .refl s

theorem acceptLane_confirmedKept (l : Fin 32) (cfg : LaneConfig) (s : State) : ConfirmedKept s (acceptLane l cfg s) := by
  have hwrite : ConfirmedKept s (s.updLane l fun L => { L with cfg, revision := L.revision + 1 }) := updLane_confirmedKept _ _ _ rfl
  unfold acceptLane
  exact .ite (hwrite.trans (enableConsequence_confirmedKept ..))
    ((hwrite.trans (enableConsequence_confirmedKept ..)).trans (reresolve_confirmedKept ..))

theorem writeLaneAct_confirmedKept (r : RawLane) (s : State) : ConfirmedKept s (writeLaneAct r s).state := by
  unfold writeLaneAct; split
  · exact .refl s
  · split
    · exact .refl s
    · exact .refl s
    · exact acceptLane_confirmedKept ..

theorem resetLane_confirmedKept (l : Fin 32) (s : State) : ConfirmedKept s (resetLane l s) := by
  rw [resetLane_eq]
  exact (runLane_confirmedKept l s).trans (reresolve_confirmedKept ..)

theorem laneResetAct_confirmedKept (b : Byte) (s : State) : ConfirmedKept s (laneResetAct b s).state := by
  unfold laneResetAct; split
  · exact .refl s
  · split
    · exact resetLane_confirmedKept ..
    · exact .refl s

/-! ## Commit points and sends -/

theorem outCommit_confirmedKept (i : Fin 64) (s : State) : ConfirmedKept s (outCommit i s) := by
  rcases outCommit_cases i s with ⟨st, r, -, e⟩ | ⟨l, x, T, a, e⟩ <;> rw [e]
  · exact (finish_avails ..).confirmedKept
  · exact ((commit_confirmedKept ..).trans (updAvail_avails ..).confirmedKept).trans (reresolve_confirmedKept ..)

theorem requestStep_confirmedKept (l : Fin 32) (b : Bool) (h : Handle) (T : Tick) (s : State) :
    ConfirmedKept s (requestStep l b h T s).2 := (requestStep_resolves ..).confirmedKept

theorem fillCommit_confirmedKept (i : Fin 64) (f : Tick) (s : State) : ConfirmedKept s (fillCommit i f s) := by
  unfold fillCommit; dsimp only; split
  · exact (requestStep_confirmedKept ..).trans (reportCommitted_avails ..).confirmedKept
  · exact (requestStep_confirmedKept ..).trans (updAvail_avails ..).confirmedKept
  · exact requestStep_confirmedKept ..

theorem inCommit_confirmedKept (i : Fin 64) (s : State) : ConfirmedKept s (inCommit i s) := by
  have hgo (x : State) (l : Fin 32) (f : Avail → Avail) : ConfirmedKept x (reresolve .ordinary l (x.updAvail i f)) :=
    (updAvail_avails ..).confirmedKept.trans (reresolve_confirmedKept ..)
  unfold inCommit; dsimp only; split
  · exact ((requestStep_confirmedKept ..).trans (hgo ..)).trans (reportCommitted_avails ..).confirmedKept
  · exact (requestStep_confirmedKept ..).trans (hgo ..)
  · exact requestStep_confirmedKept ..

theorem takeOutCommit_confirmedKept (i : Fin 64) (s : State) : ConfirmedKept s (takeOutCommit i s) :=
  .ite (outCommit_confirmedKept i s) (.refl s)

theorem takeFillCommit_confirmedKept (i : Fin 64) (s : State) : ConfirmedKept s (takeFillCommit i s) := by
  unfold takeFillCommit; split
  · exact .ite (fillCommit_confirmedKept ..) (.refl s)
  · exact .refl s

theorem takeInCommit_confirmedKept (i : Fin 64) (s : State) : ConfirmedKept s (takeInCommit i s) :=
  .ite (inCommit_confirmedKept i s) (.refl s)

theorem startSend_confirmedKept (s : State) : ConfirmedKept s (startSend s) := by
  unfold startSend; split <;> exact .of_lanes rfl

theorem endSend_confirmedKept (s : State) : ConfirmedKept s (endSend s) := by
  unfold endSend; split
  · exact .ite (.refl s) (.of_lanes rfl)
  · exact .refl s

/-! ## Windows and alerts -/

theorem windowChange_confirmedKept (m : LaneSet) (s : State) : ConfirmedKept s (windowChange m s) :=
  (windowChange_resolves m s).confirmedKept

theorem alertChange_confirmedKept (z : ZoneSet) (s : State) : ConfirmedKept s (alertChange z s) :=
  (alertChange_resolves z s).confirmedKept

theorem windowConsequence_confirmedKept (w : Fin 16) (old : Window) (s : State) : ConfirmedKept s (windowConsequence w old s) := by
  unfold windowConsequence
  exact .ite ((raise_ports ..).confirmedKept.trans (windowChange_confirmedKept ..))
    (.ite ((raise_ports ..).confirmedKept.trans (windowChange_confirmedKept ..)) (.ite (raise_ports ..).confirmedKept (.refl s)))

theorem writeWindowAct_confirmedKept (r : RawWindow) (s : State) : ConfirmedKept s (writeWindowAct r s).state := by
  have hwrite (w : Fin 16) (f : Window → Window) : ConfirmedKept s (s.updWindow w f) := .of_lanes rfl
  unfold writeWindowAct; split
  · exact .refl s
  · dsimp only; split
    · exact .refl s
    · unfold acceptWindow
      exact .ite ((hwrite ..).trans (windowConsequence_confirmedKept ..)) (hwrite ..)

theorem beginAlert_confirmedKept (a : Fin 4) (A : Alert) (c : BeginCause) (s : State) : ConfirmedKept s (beginAlert a A c s) :=
  .of_lanes rfl

theorem endAlert_confirmedKept (a : Fin 4) (A : Alert) (r : EndReason) (e : Option (Fin 4)) (s : State) :
    ConfirmedKept s (endAlert a A r e s) := .of_lanes rfl

theorem startAlert_confirmedKept (A : Alert) (s : State) : ConfirmedKept s (startAlert A s).state := by
  unfold startAlert; split
  · exact (beginAlert_confirmedKept ..).trans (alertChange_confirmedKept ..)
  · split
    · exact (beginAlert_confirmedKept ..).trans (alertChange_confirmedKept ..)
    · split
      · exact .refl s
      · split
        · exact .refl s
        · exact ((endAlert_confirmedKept ..).trans (beginAlert_confirmedKept ..)).trans (alertChange_confirmedKept ..)

theorem alertStartAct_confirmedKept (p : Fin 4) (r : RawAlert) (s : State) : ConfirmedKept s (alertStartAct p r s).state := by
  unfold alertStartAct; split
  · exact .refl s
  · exact startAlert_confirmedKept ..

theorem alertEndAct_confirmedKept (p : Fin 4) (b : Byte) (s : State) : ConfirmedKept s (alertEndAct p b s).state := by
  unfold alertEndAct; split
  · exact .refl s
  · split
    · exact .refl s
    · split
      · exact .refl s
      · exact (endAlert_confirmedKept ..).trans (alertChange_confirmedKept ..)

/-! ## Every command that brings no answer -/

/-- The commands that answer an order, expire its timer, or reset the machine (R46). -/
def Answers (c : Instr) : Prop :=
  (∃ x y, c = .done x y) ∨ (∃ x y z, c = .fault x y z) ∨ (∃ x, c = .ackTimerExpiry x) ∨
    c = .stationTick ∨ ∃ x y, c = .powerOnReset x y

theorem takeRequest_confirmedKept (p : Fin 4) (r : Req) (act : State → Answer) (hact : ∀ x, ConfirmedKept x (act x).state) (s : State) :
    ConfirmedKept s (takeRequest p r act s) :=
  takeRequest_keeps ConfirmedKept (fun _ _ => PortsOnly.confirmedKept) (fun _ _ _ => .trans) p r act hact s

theorem exec_confirmedKept (c : Instr) (s t : State) (hc : ¬Answers c) (h : exec c s = .next t) : ConfirmedKept s t := by
  cases hsets : setsSchedule c
  · exact (exec_scheduleKept c s t hsets h).confirmedKept
  · cases c <;> first | (cases hsets; done) | (have ht := Host.Outcome.next.inj h; subst ht)
    case powerOnReset | done | fault | ackTimerExpiry | stationTick => exact (hc (by simp [Answers])).elim
    case secondBoundary => exact (takeBoundary_resolves s).confirmedKept
    case writeLane => exact takeRequest_confirmedKept _ _ _ (writeLaneAct_confirmedKept _) s
    case laneReset => exact takeRequest_confirmedKept _ _ _ (laneResetAct_confirmedKept _) s
    case orderSendStart => exact startSend_confirmedKept s
    case orderSendEnd => exact endSend_confirmedKept s
    case outCommitPoint => exact takeOutCommit_confirmedKept _ s
    case fillCommitPoint => exact takeFillCommit_confirmedKept _ s
    case inCommitPoint => exact takeInCommit_confirmedKept _ s
    case writeWindow => exact takeRequest_confirmedKept _ _ _ (writeWindowAct_confirmedKept _) s
    case alertStart => exact takeRequest_confirmedKept _ _ _ (alertStartAct_confirmedKept _ _) s
    case alertEnd => exact takeRequest_confirmedKept _ _ _ (alertEndAct_confirmedKept _ _) s
    case alertExpiry => exact (takeAlertExpiry_resolves _ s).confirmedKept

end Sys2Proof.Machine
end

section
/-! SUPPORT. The acknowledgement timers (R40, R48): what an expiry leaves of its lane, and that a new order's timer is not yet due. -/

namespace Sys2Proof.Machine

/-! ## An expiry -/

theorem ackDue_iff (l : Fin 32) (s : State) : ackDue l s = true ↔ ∃ o ∈ s.order l, o.ackExpiry = s.tick := by
  unfold ackDue
  cases s.order l <;> simp

theorem ackDue_of_order_none {l : Fin 32} {s : State} (h : s.order l = none) : ackDue l s = false := by
  unfold ackDue; rw [h]

theorem ackDue_congr {l : Fin 32} {s t : State} (ho : t.order l = s.order l) (ht : t.tick = s.tick) : ackDue l t = ackDue l s := by
  unfold ackDue; rw [ho, ht]

theorem expired_oneLane (l : Fin 32) (o : Outstanding) (s : State) : OneLane l s (expired l o s) := by
  rw [expired_eq]; exact ⟨(setOrder_oneLane l none s).others⟩

/-- A timeout makes the confirmed source UNKNOWN, and touches no other lane (R48, R49). -/
theorem takeAckExpiry_times_out {l : Fin 32} {s : State} (h : ackDue l s = true) :
    OneLane l s (takeAckExpiry l s) ∧ ((takeAckExpiry l s).lane l).confirmed = none := by
  obtain ⟨o, ho, hdue⟩ := (ackDue_iff l s).mp h
  have hafter := laneFault_after (l := l) (o := o) (reason := .timeout) (code := none) (s := expired l o s) (State.setOrder_order_self ..)
  rw [takeAckExpiry_due ho hdue]
  exact ⟨(expired_oneLane l o s).trans hafter.one, hafter.confirmed⟩

theorem takeAckExpiry_oneLane (l : Fin 32) (s : State) : OneLane l s (takeAckExpiry l s) := by
  cases h : ackDue l s
  · rw [takeAckExpiry_none l s h]; exact .refl l s
  · exact (takeAckExpiry_times_out h).1

/-! ## A sweep's timeouts (log entry 4) -/

/-- A lane's confirmed source once the timer that is due at the present tick, if it is, has expired. -/
def afterTimeout (l : Fin 32) (s : State) : Option Source := if ackDue l s then none else (s.lane l).confirmed

theorem afterTimeout_congr {l : Fin 32} {s t : State} (hc : (t.lane l).confirmed = (s.lane l).confirmed)
    (hd : ackDue l t = ackDue l s) : afterTimeout l t = afterTimeout l s := by
  unfold afterTimeout; rw [hc, hd]

/-- An expiry at a lane brings its confirmed source to what it is after the timeout, and there it stays. -/
theorem takeAckExpiry_afterTimeout (l : Fin 32) (s : State) :
    ((takeAckExpiry l s).lane l).confirmed = afterTimeout l s ∧ afterTimeout l (takeAckExpiry l s) = afterTimeout l s := by
  cases h : ackDue l s
  · have hnot : afterTimeout l s = (s.lane l).confirmed := if_neg (by simp [h])
    rw [takeAckExpiry_none l s h]; exact ⟨hnot.symm, rfl⟩
  · have hout : afterTimeout l s = none := if_pos h
    obtain ⟨-, hnone⟩ := takeAckExpiry_times_out h
    refine ⟨hnone.trans hout.symm, .trans ?_ hout.symm⟩
    unfold afterTimeout; split
    · rfl
    · exact hnone

/-- The sweep of the timers times out every lane whose timer is due, and no other. -/
theorem sweepAck_confirmed (s : State) (l : Fin 32) : ((sweep takeAckExpiry s).lane l).confirmed = afterTimeout l s := by
  have hobs (i j : Fin 32) (x : State) :
      ((((takeAckExpiry i x).lane j).confirmed, afterTimeout j (takeAckExpiry i x)) : Option Source × Option Source) =
        if j = i then (afterTimeout i x, afterTimeout i x) else ((x.lane j).confirmed, afterTimeout j x) := by
    split
    · rename_i h; subst h
      obtain ⟨hc, ha⟩ := takeAckExpiry_afterTimeout j x
      rw [hc, ha]
    · rename_i h
      obtain ⟨hlane, horder⟩ := (takeAckExpiry_oneLane i x).others j h
      rw [hlane, afterTimeout_congr (by rw [hlane]) (ackDue_congr horder (takeAckExpiry_rest i x).tick)]
  have hsweep := sweep_each takeAckExpiry (fun _ => True) (fun j x => ((x.lane j).confirmed, afterTimeout j x))
    (fun p => (p.2, p.2)) (fun _ _ _ => trivial) (fun i j x _ => hobs i j x) s trivial l
  exact (Prod.mk.inj hsweep).1

/-! ## The timer of a new order (R30, R40) -/

theorem addTicks_add (t : Tick) (m n : Nat) : addTicks (addTicks t m) n = addTicks t (m + n) := by
  unfold addTicks; rw [BitVec.add_assoc, ← BitVec.ofNat_add]

/-- A tick is later than another by a number of ticks, reduced modulo 2^48 (R3). -/
theorem eq_addTicks (a b : Tick) : a = addTicks b (a - b).toNat := by
  unfold addTicks; rw [BitVec.ofNat_toNat, BitVec.setWidth_eq, BitVec.add_comm, BitVec.sub_add_cancel]

/-- The later of two ticks is at most half the counter's range after the first (R3). -/
theorem maxTick_after (a b : Tick) : ∃ n ≤ 2 ^ 47, maxTick a b = addTicks a n := by
  rw [maxTick_eq]; split
  · exact ⟨0, by omega, by simp [addTicks]⟩
  · rename_i h
    refine ⟨(b - a).toNat, ?_, eq_addTicks b a⟩
    rw [BitVec.toInt_eq_toNat_cond, BitVec.toNat_sub] at h
    rw [BitVec.toNat_sub]
    split at h <;> omega

theorem leastEffect_after (L : Lane) (now : Tick) : ∃ n ≤ 2 ^ 47, leastEffect L now = addTicks now (9000 + n) := by
  unfold leastEffect; split
  · exact ⟨0, by omega, rfl⟩
  · obtain ⟨n, hn, h⟩ := maxTick_after (addTicks now Config.orderLead) (addTicks _ L.period)
    exact ⟨n, hn, h.trans (addTicks_add ..)⟩

/-- The boundary at or after a tick is less than two periods later, across the wrap too (R5, R6). -/
theorem boundaryAtOrAfter_after (p φ : Nat) (t : Tick) (hp : 0 < p) (hb : p ≤ 7200) (hφ : φ < p) :
    ∃ n < 2 * p, boundaryAtOrAfter p φ t = addTicks t n := by
  have ht := t.isLt
  obtain ⟨hlo, hhi, -⟩ := gridSum_spec p φ t.toNat hp
  refine ⟨_, ?_, eq_addTicks _ t⟩
  rw [BitVec.toNat_sub, boundaryAtOrAfter_toNat p φ t hp hb, gridSum_zero p φ hφ]
  split <;> omega

/-- The timer of an order that is committed at the earliest effect does not expire at the tick of the commit (R15, R30, R40). -/
theorem newOrder_not_due {L : Lane} (hL : LaneConfigSound L.cfg) (now : Tick) :
    addTicks (earliestEffect L now) L.cfg.ackGrace ≠ now := by
  obtain ⟨hφ, -, -, -, -, -, -, hgrace, hmax⟩ := hL
  have hp : L.period ≤ 7200 := period_le _
  obtain ⟨m, hm, hleast⟩ := leastEffect_after L now
  obtain ⟨n, hn, hbound⟩ := boundaryAtOrAfter_after L.period L.cfg.phase (leastEffect L now) (period_pos _) hp hφ
  have heffect : earliestEffect L now = addTicks now (9000 + m + n) := by
    rw [← addTicks_add, ← hleast]; exact hbound
  rw [heffect, addTicks_add]
  exact addTicks_ne now (by omega) (by omega)

end Sys2Proof.Machine
end

section
/-! SUPPORT. A re-resolution leaves what the timeouts of a tick will make of the confirmed sources (R29, R40, R48), and so do the
events of a sweep before its timeouts (log entry 4). -/

namespace Sys2Proof

open Sys2Proof.Machine

/-- Sound orders and lanes stay sound, and the timeouts of the present tick will make the same of every confirmed source. -/
structure TimeoutsKept (s t : State) : Prop where
  tick : t.tick = s.tick
  orders : OrdersKept s t
  lanes : LanesSound s → LanesSound t
  same : OrdersSound s → LanesSound s → ∀ l, afterTimeout l t = afterTimeout l s

theorem TimeoutsKept.refl (s : State) : TimeoutsKept s s := ⟨rfl, .refl s, id, fun _ _ _ => rfl⟩

theorem TimeoutsKept.trans {s t u : State} (h : TimeoutsKept s t) (g : TimeoutsKept t u) : TimeoutsKept s u :=
  ⟨g.tick.trans h.tick, h.orders.trans g.orders, g.lanes ∘ h.lanes,
    fun ho hl l => (g.same (h.orders.sound ho) (h.lanes hl) l).trans (h.same ho hl l)⟩

theorem TimeoutsKept.ite {s t u : State} {c : Prop} [Decidable c] (h : TimeoutsKept s t) (g : TimeoutsKept s u) :
    TimeoutsKept s (if c then t else u) := by
  split
  · exact h
  · exact g

theorem foldl_timeoutsKept {α : Type} (f : State → α → State) (hf : ∀ s a, TimeoutsKept s (f s a)) (xs : List α) (s : State) :
    TimeoutsKept s (xs.foldl f s) := foldl_keeps TimeoutsKept .refl (fun _ _ _ => .trans) f hf xs s

theorem TimeoutsKept.of_tables {s t : State} (hl : t.lanes = s.lanes) (ho : t.outstanding = s.outstanding)
    (hq : t.orderQueue = s.orderQueue) (hsend : t.sending = s.sending) (htick : t.tick = s.tick) : TimeoutsKept s t := by
  have lane (l : Fin 32) : t.lane l = s.lane l := by unfold State.lane; rw [hl]
  have order (l : Fin 32) : t.order l = s.order l := by unfold State.order; rw [ho]
  exact ⟨htick, .of_tables hl ho hq hsend, fun h l => by rw [lane]; exact h l,
    fun _ _ l => afterTimeout_congr (by rw [lane]) (ackDue_congr (order l) htick)⟩

theorem ScheduleKept.timeoutsKept {s t : State} (h : ScheduleKept s t) (htick : t.tick = s.tick) : TimeoutsKept s t := by
  obtain ⟨hl, ho, hq, hsend, -⟩ := scheduleKept_iff.mp h
  exact .of_tables hl ho hq hsend htick

theorem PortsOnly.timeoutsKept {s t : State} (h : PortsOnly s t) : TimeoutsKept s t :=
  h.scheduleKept.timeoutsKept h.avails.timeKept.tick

end Sys2Proof

namespace Sys2Proof.Machine

/-- A re-resolution commits an order only where there is none, with a timer that is not yet due (R29, R40). -/
theorem reresolve_ackDue (c : ResolveCause) (l : Fin 32) {s : State} (ho : OrdersSound s) (hl : LanesSound s) :
    ackDue l (reresolve c l s) = ackDue l s := by
  have htick := (reresolve_break c l s).timeKept.tick
  by_cases h : (s.lane l).Commits (resolve s l none).1 (resolve s l none).2 c
  · have hnot : ackDue l (reresolve c l s) = false := by
      unfold ackDue
      rw [reresolve_commits h, commit_order_self, commit_tick, setOwnerField_tick, setOwnerField_lane_self]
      exact decide_eq_false (newOrder_not_due (hl l) s.tick)
    obtain ⟨-, -, -, hnone⟩ := h
    rw [hnot, ackDue_of_order_none (ho.order_none hnone)]
  · obtain ⟨-, horder, -⟩ := reresolve_keeps h
    exact ackDue_congr horder htick

theorem reresolve_timeoutsKept (c : ResolveCause) (l : Fin 32) (s : State) : TimeoutsKept s (reresolve c l s) := by
  have htick := (reresolve_break c l s).timeKept.tick
  have hconfirmed := (reresolve_confirmedKept c l s).lane
  refine ⟨htick, reresolve_ordersKept c l s, (reresolve_configsKept c l s).lanesSound, fun ho hl j => ?_⟩
  by_cases hj : j = l
  · subst hj
    exact afterTimeout_congr (hconfirmed j) (reresolve_ackDue c j ho hl)
  · obtain ⟨-, horder⟩ := (reresolve_oneLane c l s).others j hj
    exact afterTimeout_congr (hconfirmed j) (ackDue_congr horder htick)

theorem reresolveLanes_timeoutsKept (c : ResolveCause) (f : Fin 32 → Bool) (s : State) : TimeoutsKept s (reresolveLanes c f s) :=
  foldl_timeoutsKept _ (fun s l => .ite (reresolve_timeoutsKept c l s) (.refl s)) _ s

theorem windowChange_timeoutsKept (m : LaneSet) (s : State) : TimeoutsKept s (windowChange m s) := reresolveLanes_timeoutsKept ..

theorem alertChange_timeoutsKept (z : ZoneSet) (s : State) : TimeoutsKept s (alertChange z s) := reresolveLanes_timeoutsKept ..

theorem takeBoundary_timeoutsKept (s : State) : TimeoutsKept s (takeBoundary s) := by
  unfold takeBoundary
  refine .ite ?_ (.refl s)
  rw [windowBoundary_eq]
  refine .trans (.trans ?_ (raiseAll_ports ..).timeoutsKept) (foldl_timeoutsKept _ (fun _ _ => windowChange_timeoutsKept ..) _ _)
  exact .of_tables rfl rfl rfl rfl rfl

theorem takeAlertExpiry_timeoutsKept (a : Fin 4) (s : State) : TimeoutsKept s (takeAlertExpiry a s) := by
  have hend (A : Alert) (r : EndReason) (e : Option (Fin 4)) : TimeoutsKept s (endAlert a A r e s) := .of_tables rfl rfl rfl rfl rfl
  unfold takeAlertExpiry; split
  · exact .ite ((hend ..).trans (alertChange_timeoutsKept ..)) (.refl s)
  · exact .refl s

theorem sweep_timeoutsKept {n : Nat} (take : Fin n → State → State) (h : ∀ i s, TimeoutsKept s (take i s)) (s : State) :
    TimeoutsKept s (sweep take s) := sweep_keeps TimeoutsKept .refl (fun _ _ _ => .trans) take h s

theorem earlyEvents_timeoutsKept (s : State) : TimeoutsKept s (earlyEvents s) := by
  unfold earlyEvents
  refine .trans ?_ (sweep_timeoutsKept _ (fun p s => (takeQuietExpiry_ports p s).timeoutsKept) _)
  refine .trans ?_ (sweep_timeoutsKept _ takeAlertExpiry_timeoutsKept _)
  have hsettle (n : Fin 12) (x : State) : TimeoutsKept x (takeSettle n x) :=
    (takeSettle_array n x).scheduleKept.timeoutsKept (takeSettle_array n x).timeKept.tick
  exact (takeBoundary_timeoutsKept s).trans (sweep_timeoutsKept _ hsettle _)

/-- After the timeouts of a sweep nothing of it writes a confirmed source (log entry 4). -/
theorem lateEvents_confirmed (s : State) (l : Fin 32) : ((lateEvents s).lane l).confirmed = afterTimeout l s := by
  have hsweep {n : Nat} (take : Fin n → State → State) (h : ∀ i x, ConfirmedKept x (take i x)) (x : State) :
      ConfirmedKept x (sweep take x) := sweep_keeps ConfirmedKept .refl (fun _ _ _ => .trans) take h x
  have hkept : ConfirmedKept (sweep takeAckExpiry s) (lateEvents s) := by
    unfold lateEvents
    refine .trans ?_ (startSend_confirmedKept _)
    refine .trans ?_ (hsweep _ takeInCommit_confirmedKept _)
    refine .trans ?_ (hsweep _ takeFillCommit_confirmedKept _)
    refine .trans ?_ (hsweep _ takeOutCommit_confirmedKept _)
    exact hsweep _ (fun i x => (takeClaimClose_avails i x).confirmedKept) _
  exact (hkept.lane l).trans (sweepAck_confirmed s l)

theorem advanceTick_confirmedKept (s : State) : ConfirmedKept s (advanceTick s) := .of_lanes rfl

/-- The whole sweep: the confirmed source after the timeouts that are due (R46; log entry 4). -/
theorem settleTick_confirmed {s : State} (ho : OrdersSound s) (hl : LanesSound s) (l : Fin 32) :
    ((settleTick s).lane l).confirmed = afterTimeout l s :=
  calc ((settleTick s).lane l).confirmed = afterTimeout l (earlyEvents s) := lateEvents_confirmed _ l
    _ = afterTimeout l s := (earlyEvents_timeoutsKept s).same ho hl l

end Sys2Proof.Machine
end

section
/-! Lanes and orders: what changes the confirmed source. -/

namespace Sys2Proof.Certificates

open Sys2Proof.Machine

/-- Every command that brings no answer leaves the confirmed sources, in the statement's words. -/
theorem confirmed_of_not_answers (c : Instr) (s t : State) (h : exec c s = .next t) (hdone : ∀ x y, c ≠ .done x y)
    (hfault : ∀ x y z, c ≠ .fault x y z) (hack : ∀ x, c ≠ .ackTimerExpiry x) (htick : c ≠ .stationTick)
    (hreset : ∀ x y, c ≠ .powerOnReset x y) (l : Fin 32) : (t.lane l).confirmed = (s.lane l).confirmed := by
  refine (exec_confirmedKept c s t ?_ h).lane l
  rintro (⟨x, y, e⟩ | ⟨x, y, z, e⟩ | ⟨x, e⟩ | e | ⟨x, y, e⟩)
  · exact hdone x y e
  · exact hfault x y z e
  · exact hack x e
  · exact htick e
  · exact hreset x y e

/-- A lane has a sent order with this sequence number (R42). -/
def Answered (l : Fin 32) (seq : Byte) (s : State) : Prop := ∃ o ∈ s.order l, o.seq = seq ∧ o.sent = true

/-- An answer is matched with the order that it answers, or is late. -/
theorem matched_cases (l : Fin 32) (seq : Byte) (s : State) :
    (∃ o, s.order l = some o ∧ o.seq = seq ∧ o.sent = true ∧ Answered l seq s) ∨
      matched l seq s = none ∧ ¬Answered l seq s := by
  cases hm : matched l seq s with
  | some o =>
    obtain ⟨ho, hseq, hsent⟩ := matched_eq_some hm
    exact .inl ⟨o, ho, hseq, hsent, o, ho, hseq, hsent⟩
  | none =>
    refine .inr ⟨rfl, fun ⟨o, ho, hseq, hsent⟩ => ?_⟩
    rw [matched_of_order ho hseq hsent] at hm; cases hm

/-- A DONE sets the confirmed source of the lane whose order it answers (R45). -/
theorem done_confirmed (l : Fin 32) (seq : Byte) (s : State) : ∃ t, exec (.done l seq) s = .next t ∧
    (∀ j, j ≠ l ∨ ¬Answered l seq s → (t.lane j).confirmed = (s.lane j).confirmed) ∧
    ∀ o ∈ s.order l, o.seq = seq → o.sent = true → (t.lane l).confirmed = some o.target := by
  rcases matched_cases l seq s with ⟨o, ho, hseq, hsent, hanswered⟩ | ⟨hm, hnot⟩
  · obtain ⟨t, hexec, -, hconfirmed, -, -, hothers, -⟩ := doneMatched l seq o s ho hseq hsent
    refine ⟨t, hexec, fun j hj => ?_, fun x hx _ _ => ?_⟩
    · obtain ⟨hlane, -⟩ := hothers j (hj.resolve_right (not_not.mpr hanswered))
      rw [hlane]
    · obtain rfl : o = x := Option.some.inj (ho.symm.trans hx)
      exact hconfirmed
  · have hexec : exec (.done l seq) s = .next (lateAnswer l seq none s) := congrArg _ (takeDone_late hm)
    exact ⟨_, hexec, fun _ _ => rfl, fun o ho hseq hsent => (hnot ⟨o, ho, hseq, hsent⟩).elim⟩

/-- A FAULT makes the confirmed source of the lane whose order it answers UNKNOWN (R47, R49). -/
theorem fault_confirmed (l : Fin 32) (seq : Byte) (code : FabricCode) (s : State) : ∃ t, exec (.fault l seq code) s = .next t ∧
    (∀ j, j ≠ l ∨ ¬Answered l seq s → (t.lane j).confirmed = (s.lane j).confirmed) ∧
    (Answered l seq s → (t.lane l).confirmed = none) := by
  rcases matched_cases l seq s with ⟨o, ho, hseq, hsent, hanswered⟩ | ⟨hm, hnot⟩
  · have hexec : exec (.fault l seq code) s = .next (Machine.laneFault l o .fabric (some code) (s.setOrder l none)) :=
      congrArg _ (takeFault_matched (matched_of_order ho hseq hsent))
    have hafter := laneFault_after (l := l) (o := o) (reason := .fabric) (code := some code) (State.setOrder_order_self s l none)
    refine ⟨_, hexec, fun j hj => ?_, fun _ => hafter.confirmed⟩
    obtain ⟨hlane, -⟩ := ((setOrder_oneLane l none s).trans hafter.one).others j (hj.resolve_right (not_not.mpr hanswered))
    rw [hlane]
  · have hexec : exec (.fault l seq code) s = .next (lateAnswer l seq (some code) s) := congrArg _ (takeFault_late hm)
    exact ⟨_, hexec, fun _ _ => rfl, fun h => (hnot h).elim⟩

theorem afterTimeout_due {l : Fin 32} {s : State} {o : Outstanding} (ho : o ∈ s.order l) (hdue : o.ackExpiry = s.tick) :
    afterTimeout l s = none := if_pos ((ackDue_iff l s).mpr ⟨o, ho, hdue⟩)

theorem afterTimeout_none_due {l : Fin 32} {s : State} (h : ∀ o ∈ s.order l, o.ackExpiry ≠ s.tick) :
    afterTimeout l s = (s.lane l).confirmed :=
  if_neg fun hd => by
    obtain ⟨o, ho, hdue⟩ := (ackDue_iff l s).mp hd
    exact h o ho hdue

/-- An acknowledgement timeout makes the confirmed source of the lane whose timer is due UNKNOWN (R48, R49). -/
theorem ackTimerExpiry_confirmed (l : Fin 32) (s : State) : ∃ t, exec (.ackTimerExpiry l) s = .next t ∧
    (∀ j, j ≠ l ∨ (∀ o ∈ s.order l, o.ackExpiry ≠ s.tick) → (t.lane j).confirmed = (s.lane j).confirmed) ∧
    ∀ o ∈ s.order l, o.ackExpiry = s.tick → (t.lane l).confirmed = none := by
  have hself := (takeAckExpiry_afterTimeout l s).1
  refine ⟨takeAckExpiry l s, rfl, fun j hj => ?_, fun o ho hdue => hself.trans (afterTimeout_due ho hdue)⟩
  by_cases h : j = l
  · subst h
    exact hself.trans (afterTimeout_none_due (hj.resolve_left (not_not.mpr rfl)))
  · obtain ⟨hlane, -⟩ := (takeAckExpiry_oneLane l s).others j h
    rw [hlane]

/-- Settles O39: what each answer, a timeout, a sweep's timeouts and the reset set the confirmed source to; nothing else writes it. -/
theorem confirmedOnlyByAnswers : Obligations.ConfirmedOnlyByAnswers := by
  refine ⟨confirmed_of_not_answers,
    fun l seq code s => ⟨done_confirmed l seq s, fault_confirmed l seq code s, ackTimerExpiry_confirmed l s⟩,
    fun s ho hl => ⟨_, exec_stationTick s, fun l => ?_⟩, fun straps lines s => ⟨_, exec_powerOnReset straps lines s, fun l => ?_⟩⟩
  · have hsweep : ((advanceTick (settleTick s)).lane l).confirmed = afterTimeout l s :=
      ((advanceTick_confirmedKept _).lane l).trans (settleTick_confirmed ho hl l)
    exact ⟨fun h => hsweep.trans (afterTimeout_none_due h), fun o ho hdue => hsweep.trans (afterTimeout_due ho hdue)⟩
  · rw [released_lane]

end Sys2Proof.Certificates
end

section
/-! SUPPORT. The bytes of the links, read by their fields (R59, R61, R200, R201): an answer of the fabric or a record that is laid out right
spells its fields, and a record whose bytes sum to 0 is judged by its length and its fields (R58). -/

namespace Sys2Proof

open Sys2Proof.Machine

/-! ## Codes and words -/

theorem toFin_ofNat {n : Nat} (hn : n ≤ 256) (i : Fin n) : toFin n (BitVec.ofNat 8 i.val) = some i := by
  rw [toFin_eq_some, BitVec.toNat_ofNat]
  exact Nat.mod_eq_of_lt (i.isLt.trans_le hn)

theorem cueKindOf_code (k : CueKind) : cueKindOf (cueKindCode k) = some k := by cases k <;> rfl

theorem cueKindOf_eq_none {b : Byte} : cueKindOf b = none ↔ 3 < b.toNat := by
  unfold cueKindOf
  match b.toNat with
  | 0 | 1 | 2 | 3 => simp
  | n + 4 => simp

theorem timingOf_stamped (x : BitVec 32) : timingOf 0 x = some (.stamped x) := rfl

theorem timingOf_lead {n : Nat} (h : n ≤ 1800000) : timingOf 1 (BitVec.ofNat 32 n) = some (.lead n) := by
  have hn : (BitVec.ofNat 32 n).toNat = n := Nat.mod_eq_of_lt (by omega)
  have hwithin : within 0 1800000 n = some n := if_pos ⟨Nat.zero_le n, h⟩
  change (within 0 1800000 (BitVec.ofNat 32 n).toNat).map Timing.lead = _
  rw [hn, hwithin]; rfl

theorem timingOf_eq_none {form : Byte} {x : BitVec 32} :
    timingOf form x = none ↔ 1 < form.toNat ∨ (form.toNat = 1 ∧ 1800000 < x.toNat) := by
  unfold timingOf
  match form.toNat with
  | 0 => simp
  | 1 => simp [Config.maxLead, within_zero_eq_none]
  | n + 2 => simp

/-- A word with one more byte at its low end. -/
theorem toNat_append_byte {w : Nat} (x : BitVec w) (b : Byte) : (x ++ b).toNat = x.toNat * 256 + b.toNat := by
  rw [BitVec.toNat_append, ← Nat.shiftLeft_add_eq_or_of_lt b.isLt, Nat.shiftLeft_eq]

theorem word32_toNat (a b c d : Byte) :
    (word32 a b c d).toNat = ((a.toNat * 256 + b.toNat) * 256 + c.toNat) * 256 + d.toNat := by
  unfold word32; rw [toNat_append_byte, toNat_append_byte, toNat_append_byte]

/-! ## Answers of the fabric (R201) -/

section Answers

variable {l : Fin 32} {lane seq : Byte}

theorem decodeFabric_done {x : Byte} (hsum : byteSum [2, lane, seq, x] = 0) (hlane : toFin 32 lane = some l) :
    decodeFabric [2, lane, seq, x] = .ok (.done l seq) := by
  unfold decodeFabric
  simp only [show fabricLength 2 = some 4 from rfl, hsum, hlane]
  rfl

theorem decodeFabric_fault {code x : Byte} {c : FabricCode} (hsum : byteSum [3, lane, seq, code, x] = 0)
    (hlane : toFin 32 lane = some l) (hcode : fabricCodeOf code = some c) :
    decodeFabric [3, lane, seq, code, x] = .ok (.fault l seq c) := by
  unfold decodeFabric
  simp only [show fabricLength 3 = some 5 from rfl, hsum, hlane, hcode]
  rfl

end Answers

/-! ## The type of a record (R58, R200) -/

theorem decodeRecord_check {bytes : List Byte} (h : byteSum bytes ≠ 0) : decodeRecord bytes = .error .check := if_pos h

section Sums

variable {bytes : List Byte} (hsum : byteSum bytes = 0)

include hsum

theorem decodeRecord_cue (h : (bytes.getD 0 0).toNat = 1) : decodeRecord bytes = decodeCue bytes := by
  unfold decodeRecord; rw [if_neg (not_not_intro hsum)]
  cases bytes with
  | nil => cases h
  | cons type rest =>
    have htype : type.toNat = 1 := h
    simp only [htype]

theorem decodeRecord_timeref (h : (bytes.getD 0 0).toNat = 2) : decodeRecord bytes = decodeTimeref bytes := by
  unfold decodeRecord; rw [if_neg (not_not_intro hsum)]
  cases bytes with
  | nil => cases h
  | cons type rest =>
    have htype : type.toNat = 2 := h
    simp only [htype]

theorem decodeRecord_type (h1 : (bytes.getD 0 0).toNat ≠ 1) (h2 : (bytes.getD 0 0).toNat ≠ 2) :
    decodeRecord bytes = .error .type := by
  unfold decodeRecord; rw [if_neg (not_not_intro hsum)]
  cases bytes with
  | nil => rfl
  | cons type rest =>
    dsimp only; split
    · contradiction
    · contradiction
    · rfl

end Sums

/-! ## The layout of a record (R200) -/

/-- A CUE laid out by R200 is read as its fields (R59). -/
theorem decodeRecord_cue_layout {f : Fin 32} {feed kind cls form : Byte} {k : CueKind} {id x : BitVec 32} {t : Timing}
    {d : Option (BitVec 32)} (hf : toFin 32 feed = some f) (hk : cueKindOf kind = some k) (ht : timingOf form x = some t)
    {r : List Byte} (hr : r = [1, feed, kind] ++ bytes32 id ++ [cls] ++ (form :: bytes32 x) ++ outOpt bytes32 d) :
    decodeRecord (r ++ [checkByte r]) = .ok (.cue f k id cls t d) := by
  have hfields : ∀ d', cueFields feed kind id cls form x d' = .ok (.cue f k id cls t d') := fun d' => by
    unfold cueFields; simp only [hf, hk, ht]
  have hcue : decodeCue (r ++ [checkByte r]) = cueFields feed kind id cls form x d := by
    cases d with
    | none => simp [hr, decodeCue, bytes32, outOpt, word32_bytes]
    | some y => simp [hr, decodeCue, bytes32, outOpt, word32_bytes]
  rw [decodeRecord_cue (byteSum_checkByte r) (by rw [hr]; rfl), hcue, hfields]

/-- A TIMEREF laid out by R200 is read as its fields (R61). -/
theorem decodeRecord_timeref_layout {f : Fin 32} {feed flag : Byte} {stamp : BitVec 32} {b : Bool} (hf : toFin 32 feed = some f)
    (hb : toFlag flag = some b) :
    let r : List Byte := [2, feed] ++ bytes32 stamp ++ [flag]
    decodeRecord (r ++ [checkByte r]) = .ok (.timeref f stamp b) := by
  intro r
  rw [decodeRecord_timeref (byteSum_checkByte r) rfl]
  simp [r, decodeTimeref, bytes32, word32_bytes, hf, hb]

/-! ## The judgement of a record whose bytes sum to 0 (R58) -/

/-- What is read is LENGTH where the length is not the one required, FIELD where it is and a field is out of its range, and no CHECK. -/
structure Judged (x : Except RecordCause Record) (lengthGood fieldBad : Prop) : Prop where
  check : x ≠ .error .check
  length : x = .error .length ↔ ¬lengthGood
  field : x = .error .field ↔ lengthGood ∧ fieldBad

section Judgement

variable {L F : Prop}

theorem Judged.of_length (h : ¬L) : Judged (.error .length) L F := ⟨nofun, by simp [h], by simp [h]⟩

theorem Judged.of_field (h : L) (hf : F) : Judged (.error .field) L F := ⟨nofun, by simp [h], by simp [h, hf]⟩

theorem Judged.of_ok (r : Record) (h : L) (hf : ¬F) : Judged (.ok r) L F := ⟨nofun, by simp [h], by simp [hf]⟩

/-- The presence byte decides the length first, then fails a field where it is neither 0 nor 1 (R198, R200). -/
theorem Judged.of_presence {p x y : Byte} {c : Except RecordCause Record} (hx : p.toNat ≠ x.toNat ↔ L)
    (hy : p.toNat ≠ x.toNat → p.toNat ≠ y.toNat → F) (hc : p.toNat = y.toNat → Judged c L F) :
    Judged (if p = x then .error .length else if p ≠ y then .error .field else c) L F := by
  rw [BitVec.toNat_inj] at hc
  simp only [ne_eq, BitVec.toNat_inj] at hx hy
  split
  · rename_i h
    exact .of_length (hx.not.mp (not_not_intro h))
  · rename_i h
    split
    · rename_i hne
      exact .of_field (hx.mp h) (hy h hne)
    · rename_i heq
      exact hc (not_not.mp heq)

theorem cueFields_judged {feed kind cls form : Byte} {id x : BitVec 32} {d : Option (BitVec 32)} (h : L)
    (hbad : F ↔ 31 < feed.toNat ∨ 3 < kind.toNat ∨ 1 < form.toNat ∨ (form.toNat = 1 ∧ 1800000 < x.toNat)) :
    Judged (cueFields feed kind id cls form x d) L F := by
  have hnone : F ↔ toFin 32 feed = none ∨ cueKindOf kind = none ∨ timingOf form x = none := by
    rw [hbad, toFin_eq_none, cueKindOf_eq_none, timingOf_eq_none]; rfl
  unfold cueFields; split
  · rename_i hf hk ht
    exact .of_ok _ h (by simp [hnone, hf, hk, ht])
  · rename_i hsome
    refine .of_field h (hnone.mpr ?_)
    by_contra hall
    simp only [not_or, ← ne_eq, Option.ne_none_iff_exists'] at hall
    obtain ⟨⟨f, hf⟩, ⟨k, hk⟩, t, ht⟩ := hall
    exact hsome f k t hf hk ht

theorem decodeTimeref_fields_judged {type feed s3 s2 s1 s0 flag sum : Byte} (h : L) (hbad : F ↔ 31 < feed.toNat ∨ 1 < flag.toNat) :
    Judged (decodeTimeref [type, feed, s3, s2, s1, s0, flag, sum]) L F := by
  have hnone : F ↔ toFin 32 feed = none ∨ toFlag flag = none := by rw [hbad, toFin_eq_none, toFlag_eq_none]; rfl
  unfold decodeTimeref; dsimp only; split
  · rename_i hf hd
    exact .of_ok _ h (by simp [hnone, hf, hd])
  · rename_i hsome
    refine .of_field h (hnone.mpr ?_)
    by_contra hall
    simp only [not_or, ← ne_eq, Option.ne_none_iff_exists'] at hall
    obtain ⟨⟨f, hf⟩, d, hd⟩ := hall
    exact hsome f d hf hd

end Judgement

section Length

variable {bytes : List Byte}

/-- A record spelt by its bytes. -/
theorem eq_map_getD {n : Nat} (h : bytes.length = n) : bytes = (List.range n).map fun i => bytes.getD i 0 := by
  apply List.ext_getElem
  · simp [h]
  · intro i hi _
    simp [List.getD_eq_getElem?_getD, List.getElem?_eq_getElem hi]

/-- A record of 15 bytes, byte by byte: a CUE without a duration (R200). -/
theorem decodeCue_fifteen (h : bytes.length = 15) :
    let b := fun i => bytes.getD i 0
    decodeCue bytes = if b 13 = 1 then .error .length else if b 13 ≠ 0 then .error .field
      else cueFields (b 1) (b 2) (word32 (b 3) (b 4) (b 5) (b 6)) (b 7) (b 8) (word32 (b 9) (b 10) (b 11) (b 12)) none :=
  congrArg decodeCue (eq_map_getD h)

/-- A record of 19 bytes, byte by byte: a CUE with a duration (R200). -/
theorem decodeCue_nineteen (h : bytes.length = 19) :
    let b := fun i => bytes.getD i 0
    decodeCue bytes = if b 13 = 0 then .error .length else if b 13 ≠ 1 then .error .field
      else cueFields (b 1) (b 2) (word32 (b 3) (b 4) (b 5) (b 6)) (b 7) (b 8) (word32 (b 9) (b 10) (b 11) (b 12))
        (some (word32 (b 14) (b 15) (b 16) (b 17))) :=
  congrArg decodeCue (eq_map_getD h)

theorem decodeCue_length (h15 : bytes.length ≠ 15) (h19 : bytes.length ≠ 19) : decodeCue bytes = .error .length := by
  unfold decodeCue; split
  · exact (h15 rfl).elim
  · exact (h19 rfl).elim
  · rfl

theorem decodeTimeref_length (h : bytes.length ≠ 8) : decodeTimeref bytes = .error .length := by
  unfold decodeTimeref; split
  · exact (h rfl).elim
  · rfl

end Length

/-- A CUE's length goes with its presence byte, and a field outside its range fails it (R59, R200). -/
theorem decodeCue_judged (bytes : List Byte) :
    let b := fun i : Nat => (bytes.getD i 0).toNat
    let lead := ((b 9 * 256 + b 10) * 256 + b 11) * 256 + b 12
    Judged (decodeCue bytes) ((bytes.length = 15 ∧ b 13 ≠ 1) ∨ (bytes.length = 19 ∧ b 13 ≠ 0))
      (31 < b 1 ∨ 3 < b 2 ∨ 1 < b 8 ∨ (b 8 = 1 ∧ 1800000 < lead) ∨ 1 < b 13) := by
  intro b lead
  have hlead : (word32 (bytes.getD 9 0) (bytes.getD 10 0) (bytes.getD 11 0) (bytes.getD 12 0)).toNat = lead := word32_toNat ..
  have h0 : (0 : Byte).toNat = 0 := rfl
  have h1 : (1 : Byte).toNat = 1 := rfl
  by_cases h15 : bytes.length = 15
  · rw [decodeCue_fifteen h15]
    refine .of_presence ?_ ?_ fun hp => cueFields_judged ?_ ?_
    all_goals simp only [hlead, h0, h1, b] at *; omega
  · by_cases h19 : bytes.length = 19
    · rw [decodeCue_nineteen h19]
      refine .of_presence ?_ ?_ fun hp => cueFields_judged ?_ ?_
      all_goals simp only [hlead, h0, h1, b] at *; omega
    · rw [decodeCue_length h15 h19]
      exact .of_length (by omega)

/-- A TIMEREF has 8 bytes, and a field outside its range fails it (R61, R200). -/
theorem decodeTimeref_judged (bytes : List Byte) :
    let b := fun i : Nat => (bytes.getD i 0).toNat
    Judged (decodeTimeref bytes) (bytes.length = 8) (31 < b 1 ∨ 1 < b 6) := by
  intro b
  by_cases h : bytes.length = 8
  · rw [show decodeTimeref bytes = _ from congrArg decodeTimeref (eq_map_getD h)]
    exact decodeTimeref_fields_judged h .rfl
  · rw [decodeTimeref_length h]
    exact .of_length h

end Sys2Proof
end

section
/-! Messages of the links: laid out right, they are read as what they spell. -/

namespace Sys2Proof.Certificates

open Sys2Proof.Machine

/-- Settles O3: DONE, FAULT, CUE and TIMEREF by their layouts. -/
theorem linkRoundTrips : Obligations.LinkRoundTrips := by
  have hfin : ∀ i : Fin 32, toFin 32 (BitVec.ofNat 8 i.val) = some i := toFin_ofNat (by decide)
  have hfault : ∀ (l : Fin 32) (seq code : Byte) (c : FabricCode), fabricCodeOf code = some c →
      let m : List Byte := [3, BitVec.ofNat 8 l.val, seq, code]
      decodeFabric (m ++ [checkByte m]) = .ok (.fault l seq c) := fun l seq code c hc =>
    decodeFabric_fault (byteSum_checkByte [3, BitVec.ofNat 8 l.val, seq, code]) (hfin l) hc
  refine ⟨fun l seq => ⟨decodeFabric_done (byteSum_checkByte [2, BitVec.ofNat 8 l.val, seq]) (hfin l),
      hfault l seq 1 _ rfl, hfault l seq 2 _ rfl, hfault l seq 3 _ rfl⟩, fun f k id cls tm d hlead => ?_,
    fun f stamp => ⟨decodeRecord_timeref_layout (hfin f) rfl, decodeRecord_timeref_layout (hfin f) rfl⟩⟩
  intro kind time duration r
  cases tm with
  | stamped stamp =>
    refine decodeRecord_cue_layout (hfin f) (cueKindOf_code k) (timingOf_stamped stamp) ?_
    cases d <;> rfl
  | lead n =>
    refine decodeRecord_cue_layout (hfin f) (cueKindOf_code k) (timingOf_lead (hlead n rfl)) ?_
    cases d <;> rfl

end Sys2Proof.Certificates
end

section
/-! SUPPORT. The Cue Intake Unit: a record's arrival (R53, R56), its taking by what it is read as (R57, R58, R60, R61), and the notices of a
discontinuity (R63) as one list of notices. -/

namespace Sys2Proof.Machine

/-! ## Arrival (R53, R55, R56) -/

theorem ready_iff (s : State) : s.ready = true ↔ s.fifo.length < 16 := decide_eq_true_iff

theorem takeArrival_room {bytes : List Byte} {s : State} (h : s.fifo.length < 16) :
    takeArrival bytes s = { s with fifo := s.fifo ++ [{ bytes, arrival := s.tick }] } := if_pos h

theorem takeArrival_overrun {bytes : List Byte} {s : State} (h : 16 ≤ s.fifo.length) :
    takeArrival bytes s = { s with overruns := min (s.overruns + 1) 65535, lastOverrun := some s.tick } := if_neg (Nat.not_lt.mpr h)

/-! ## A list of notices at one port (R192) -/

/-- A subscribed port that is not in DETACHED and whose queue has room receives a notice at its tail. -/
theorem raise_queue {n : Notice} {s : State} {p : Fin 4} (hst : (s.port p).state ≠ .detached)
    (hsub : (s.port p).subscribed n = true) (hroom : (s.port p).queue.length < 16) :
    (raise n [] s).port p = { s.port p with queue := (s.port p).queue ++ [n] } := by
  rw [raise_port]
  unfold Port.receive
  rw [if_neg (by simp [hsub]), if_neg hst]
  exact if_neg (Nat.not_le.mpr hroom)

/-- Such a port receives a list of notices in its order, where its queue has room for all of them. -/
theorem raiseAll_queue {p : Fin 4} (ns : List Notice) (s : State) (hst : (s.port p).state ≠ .detached)
    (hsub : ∀ n ∈ ns, (s.port p).subscribed n = true) (hroom : (s.port p).queue.length + ns.length ≤ 16) :
    ((raiseAll ns s).port p).queue = (s.port p).queue ++ ns := by
  induction ns generalizing s with
  | nil => exact (List.append_nil _).symm
  | cons n ns ih =>
    rw [List.length_cons] at hroom
    have hport := raise_queue hst (hsub n (.head ns)) (by omega)
    change ((raiseAll ns (raise n [] s)).port p).queue = _
    rw [ih (raise n [] s) (by rw [hport]; exact hst) (fun m hm => by rw [hport]; exact hsub m (.tail n hm))
      (by rw [hport, List.length_append, List.length_singleton]; omega), hport, List.append_assoc]
    rfl

/-! ## The notices of a discontinuity (R63) -/

/-- The LANE_STATE that a discontinuity raises for a lane as it stands (R26, R63). -/
def discontinuityNotice (s : State) (l : Fin 32) : Notice :=
  .laneState l .discontinuity (s.lane l).state (s.lane l).owner (s.lane l).confirmed (s.lane l).faultReason s.tick

/-- The lanes of a feed, ascending. -/
def lanesOf (f : Fin 32) (s : State) : List (Fin 32) := (List.finRange 32).filter fun l => decide ((s.lane l).cfg.feed = f)

/-- Raising for the lanes of a feed among some lanes, one after the other, is raising the list of their notices. -/
theorem foldl_raise_lanes (f : Fin 32) (s t : State) (ls : List (Fin 32)) :
    ls.foldl (fun x l => if (s.lane l).cfg.feed = f then raise (discontinuityNotice s l) [] x else x) t =
      raiseAll ((ls.filter fun l => decide ((s.lane l).cfg.feed = f)).map (discontinuityNotice s)) t := by
  unfold raiseAll
  rw [List.foldl_map, List.foldl_filter]
  simp only [decide_eq_true_eq]

/-- The notices of one lane change none of the lanes, so that each lane's notice shows it as it stood at the taking. -/
theorem raiseDiscontinuity_eq {s t : State} (f : Fin 32) (hlane : ∀ l, t.lane l = s.lane l) (htick : t.tick = s.tick) :
    raiseDiscontinuity f t = raiseAll ((lanesOf f s).map (discontinuityNotice s)) t := by
  have hsame : ∀ (ls : List (Fin 32)) (t : State), (∀ l, t.lane l = s.lane l) → t.tick = s.tick →
      ls.foldl (fun x l => if (x.lane l).cfg.feed = f then raiseLaneState l .discontinuity x else x) t =
        ls.foldl (fun x l => if (s.lane l).cfg.feed = f then raise (discontinuityNotice s l) [] x else x) t := by
    intro ls
    induction ls with
    | nil => exact fun _ _ _ => rfl
    | cons l ls ih =>
      intro t hlane htick
      have hnotice : raiseLaneState l .discontinuity t = raise (discontinuityNotice s l) [] t := by
        unfold raiseLaneState discontinuityNotice; rw [hlane, htick]
      rw [List.foldl_cons, List.foldl_cons, hlane, hnotice]
      split
      · exact ih _ hlane htick
      · exact ih _ hlane htick
  exact (hsame _ t hlane htick).trans (foldl_raise_lanes f s t _)

/-! ## Taking (R57, R58, R60, R61) -/

theorem recordFeed_eq (bytes : List Byte) : recordFeed bytes = if 3 ≤ bytes.length then bytes[1]? else none := by
  match bytes with
  | [] | [_] | [_, _] => rfl
  | _ :: feed :: _ :: rest => exact (if_pos (Nat.le_add_left 3 rest.length)).symm

section Taking

variable {e : IntakeEntry} {rest : List IntakeEntry} {s : State}

theorem takeIntake_cons (h : s.fifo = e :: rest) : takeIntake s = takeRecord e { s with fifo := rest } := by
  unfold takeIntake; rw [h]

theorem takeRecord_error {cause : RecordCause} (h : decodeRecord e.bytes = .error cause) : takeRecord e s = rejectRecord e cause s := by
  unfold takeRecord; rw [h]

theorem takeRecord_timeref {f : Fin 32} {stamp : Stamp} {d : Bool} (h : decodeRecord e.bytes = .ok (.timeref f stamp d)) :
    takeRecord e s = takeTimeref f stamp e.arrival d s := by
  unfold takeRecord; rw [h]

/-- A flagged TIMEREF raises its notices after the reference is replaced, which changes no lane (R61, R63). -/
theorem takeTimeref_flagged {t : State} (f : Fin 32) (stamp : Stamp) (a : Tick) (hlane : ∀ l, t.lane l = s.lane l)
    (htick : t.tick = s.tick) : takeTimeref f stamp a true t =
    raiseAll ((lanesOf f s).map (discontinuityNotice s)) (t.setFeedRef f { valid := true, stamp := stamp, station := a }) := by
  unfold takeTimeref
  exact raiseDiscontinuity_eq f hlane htick

theorem takeRecord_cue {f : Fin 32} {k : CueKind} {id : BitVec 32} {cls : Byte} {tm : Timing} {d : Option (BitVec 32)}
    (h : decodeRecord e.bytes = .ok (.cue f k id cls tm d)) :
    takeRecord e s = deliverCue { feed := f, kind := k, eventId := id, cls := cls, timing := tm, duration := d,
                                  origin := .inband, arrival := e.arrival } s := by
  unfold takeRecord; rw [h]

/-- An invalid record is counted, and recorded with the feed of a record of three bytes or more (R58; log entry 17). -/
theorem rejectRecord_eq (e : IntakeEntry) (cause : RecordCause) (s : State) : rejectRecord e cause s = { s with
    intakeErrors := min (s.intakeErrors + 1) 65535
    lastIntakeError := some { cause := cause, typeCode := e.bytes.headD 0, feed := if 3 ≤ e.bytes.length then e.bytes[1]? else none
                              arrival := e.arrival, tick := s.tick } } := by
  unfold rejectRecord; rw [recordFeed_eq]; rfl

end Taking

end Sys2Proof.Machine
end

section
/-! The intake: the arrival of a record and its taking. -/

namespace Sys2Proof.Certificates

open Sys2Proof.Machine

/-- Settles O41: by the room of the FIFO. -/
theorem recordArrival : Obligations.RecordArrival :=
  ⟨rfl, rfl, rfl, ready_iff, fun _ _ => ⟨fun h => congrArg _ (takeArrival_room h), fun h => congrArg _ (takeArrival_overrun h)⟩⟩

/-- CHECK is the cause where the bytes do not sum to 0, whatever else fails (R58). -/
theorem decodeRecord_check_iff (bytes : List Byte) : decodeRecord bytes = .error .check ↔ byteSum bytes ≠ 0 := by
  refine ⟨fun hcheck hsum => ?_, decodeRecord_check⟩
  by_cases h1 : (bytes.getD 0 0).toNat = 1
  · exact (decodeCue_judged bytes).check (decodeRecord_cue hsum h1 ▸ hcheck)
  · by_cases h2 : (bytes.getD 0 0).toNat = 2
    · exact (decodeTimeref_judged bytes).check (decodeRecord_timeref hsum h2 ▸ hcheck)
    · rw [decodeRecord_type hsum h1 h2] at hcheck; cases hcheck

/-- Settles O42: the causes by the sum, the type and the judgement of each type, then the taking of a record by what it is read as. -/
theorem intakeTaking : Obligations.IntakeTaking := by
  refine ⟨fun bytes => ?_, fun e rest s hfifo => ?_⟩
  · have hsum : bytes.foldl (· + ·) 0 = byteSum bytes := by rw [foldl_eq_byteSum]; exact BitVec.zero_add _
    intro b sums
    simp only [sums, hsum]
    refine ⟨decodeRecord_check_iff bytes, decodeRecord_type, fun h h1 => ?_, fun h h2 => ?_⟩
    · rw [decodeRecord_cue h h1]
      exact ⟨(decodeCue_judged bytes).length, (decodeCue_judged bytes).field⟩
    · rw [decodeRecord_timeref h h2]
      exact ⟨(decodeTimeref_judged bytes).length, (decodeTimeref_judged bytes).field⟩
  · intro s1
    have htaken {t : State} (h : takeRecord e s1 = t) : exec .intakeTaking s = .next t :=
      congrArg _ ((takeIntake_cons hfifo).trans h)
    have hflagged (f : Fin 32) (stamp : Stamp) (h : decodeRecord e.bytes = .ok (.timeref f stamp true)) :
        exec .intakeTaking s = .next (raiseAll ((lanesOf f s).map (discontinuityNotice s))
          (s1.setFeedRef f { valid := true, stamp := stamp, station := e.arrival })) :=
      htaken ((takeRecord_timeref h).trans (takeTimeref_flagged f stamp e.arrival (fun _ => rfl) rfl))
    refine ⟨fun cause h => htaken ((takeRecord_error h).trans (rejectRecord_eq ..)), fun f stamp h => htaken (takeRecord_timeref h),
      fun f stamp h => ⟨_, hflagged f stamp h, raiseAll_ports .., fun p hst hmask hroom => ?_⟩,
      fun f stamp h => (hflagged f stamp h).trans (congrArg _ (foldl_raise_lanes f s _ _).symm),
      fun f k id cls tm d h => htaken (takeRecord_cue h)⟩
    refine raiseAll_queue _ _ hst (fun n hn => ?_) ((List.length_map _).symm ▸ hroom)
    obtain ⟨l, -, rfl⟩ := List.mem_map.mp hn
    exact hmask

end Sys2Proof.Certificates
end

section
/-! SUPPORT. The cells and the pairs (R68, R79): which commands leave all of them as they were. -/

namespace Sys2Proof

open Sys2Proof.Machine

/-- The cells and the pairs. -/
def Machine.State.array (s : State) : Vector Cell 12 × Vector Pair 6 := (s.cells, s.pairs)

/-- No cell and no pair differs. -/
def ArrayKept (s t : State) : Prop := t.array = s.array

theorem ArrayKept.refl (s : State) : ArrayKept s s := rfl
theorem ArrayKept.trans {s t u : State} (h : ArrayKept s t) (g : ArrayKept t u) : ArrayKept s u := Eq.trans g h

theorem ArrayKept.ite {s t u : State} {c : Prop} [Decidable c] (h : ArrayKept s t) (g : ArrayKept s u) :
    ArrayKept s (if c then t else u) := by
  split
  · exact h
  · exact g

theorem ArrayKept.cell {s t : State} (h : ArrayKept s t) (n : Fin 12) : t.cell n = s.cell n :=
  congrArg (fun a : Vector Cell 12 × Vector Pair 6 => a.1[n.val]) h

theorem ArrayKept.pair {s t : State} (h : ArrayKept s t) (k : Fin 6) : t.pair k = s.pair k :=
  congrArg (fun a : Vector Cell 12 × Vector Pair 6 => a.2[k.val]) h

theorem BreakOnly.arrayKept {s t : State} (h : BreakOnly s t) : ArrayKept s t := by unfold BreakOnly at h; rw [h]; rfl
theorem CueOnly.arrayKept {s t : State} (h : CueOnly s t) : ArrayKept s t := by unfold CueOnly at h; rw [h]; rfl
theorem AvailsOnly.arrayKept {s t : State} (h : AvailsOnly s t) : ArrayKept s t := h.break.arrayKept
theorem PortsOnly.arrayKept {s t : State} (h : PortsOnly s t) : ArrayKept s t := h.break.arrayKept

theorem foldl_arrayKept {α : Type} (f : State → α → State) (hf : ∀ s a, ArrayKept s (f s a)) (xs : List α) (s : State) :
    ArrayKept s (xs.foldl f s) := foldl_keeps ArrayKept .refl (fun _ _ _ => .trans) f hf xs s

end Sys2Proof

namespace Sys2Proof.Machine

/-! ## The order link, the intake and the port events -/

theorem takeDone_arrayKept (l : Fin 32) (seq : Byte) (s : State) : ArrayKept s (takeDone l seq s) := by
  unfold takeDone; split
  · exact (orderDone_break ..).arrayKept
  · rfl

theorem setOrder_arrayKept (l : Fin 32) (o : Option Outstanding) (s : State) : ArrayKept s (s.setOrder l o) := rfl

theorem takeFault_arrayKept (l : Fin 32) (seq : Byte) (c : FabricCode) (s : State) : ArrayKept s (takeFault l seq c s) := by
  unfold takeFault; split
  · exact (setOrder_arrayKept ..).trans (laneFault_break ..).arrayKept
  · rfl

theorem takeAckExpiry_arrayKept (l : Fin 32) (s : State) : ArrayKept s (takeAckExpiry l s) := by
  unfold takeAckExpiry; split
  · refine .ite (.trans (.trans ?_ (setOrder_arrayKept ..)) (laneFault_break ..).arrayKept) (.refl s)
    exact .ite (.refl s) (.ite rfl rfl)
  · rfl

theorem startSend_arrayKept (s : State) : ArrayKept s (startSend s) := by unfold startSend; split <;> rfl

theorem endSend_arrayKept (s : State) : ArrayKept s (endSend s) := by
  unfold endSend; split
  · exact .ite rfl rfl
  · rfl

theorem takeMalformed_arrayKept (bytes : List Byte) (s : State) : ArrayKept s (takeMalformed bytes s) := by
  unfold takeMalformed; split <;> rfl

theorem takeIntake_arrayKept (s : State) : ArrayKept s (takeIntake s) := by
  have htimeref (f : Fin 32) (stamp : Stamp) (a : Tick) (d : Bool) (x : State) : ArrayKept x (takeTimeref f stamp a d x) := by
    unfold takeTimeref; dsimp only; split
    · exact ArrayKept.trans (t := x.setFeedRef f _) rfl (raiseDiscontinuity_ports ..).arrayKept
    · rfl
  unfold takeIntake takeRecord; split
  · rfl
  · rename_i rest _
    have htaken : ArrayKept s { s with fifo := rest } := rfl
    split
    · rfl
    · exact htaken.trans (deliverCue_cue ..).arrayKept
    · exact htaken.trans (htimeref ..)

theorem detach_arrayKept (p : Fin 4) (s : State) : ArrayKept s (detach p s) := by
  have hclaims (x : State) : ArrayKept x (detachClaims p x) :=
    (foldl_arrayKept (fun s l => s.setPlace l p none) (fun _ _ => rfl) _ _).trans
      (foldl_arrayKept _ (fun x i => (detachAvail_avails p x i).arrayKept) _ _)
  exact ((updPort_ports p Port.detached s).arrayKept.trans (hclaims _)).trans (raise_ports ..).arrayKept

theorem takeBytes_arrayKept (p : Fin 4) (bytes : List Byte) (s : State) : ArrayKept s (takeBytes p bytes s) := by
  unfold takeBytes takeMalformedFrame; dsimp only; split
  · refine .ite (.refl _) (.ite ?_ ?_)
    · exact (updPort_ports ..).arrayKept.trans (detach_arrayKept ..)
    · exact ((updPort_ports ..).trans ((updPort_ports ..).trans (setErrors_ports ..))).arrayKept
  · rfl
  · rfl

/-! ## Windows and alerts -/

theorem takeBoundary_arrayKept (s : State) : ArrayKept s (takeBoundary s) :=
  .ite (windowBoundary_frame { s with boundaryDue := false, calendar := s.calendar.advance }).arrayKept (.refl s)

theorem writeWindowAct_arrayKept (r : RawWindow) (s : State) : ArrayKept s (writeWindowAct r s).state := by
  unfold writeWindowAct; split
  · rfl
  · dsimp only; split
    · rfl
    · exact (acceptWindow_break ..).arrayKept

theorem takeAlertExpiry_arrayKept (a : Fin 4) (s : State) : ArrayKept s (takeAlertExpiry a s) := (takeAlertExpiry_frame a s).arrayKept

theorem startAlert_arrayKept (A : Alert) (s : State) : ArrayKept s (startAlert A s).state := by
  have hbegin (a : Fin 4) (c : BeginCause) (x : State) : ArrayKept x (beginAlert a A c x) := rfl
  have hend (a : Fin 4) (B : Alert) (r : EndReason) (e : Option (Fin 4)) : ArrayKept s (endAlert a B r e s) := rfl
  unfold startAlert; split
  · exact (hbegin ..).trans (alertChange_break ..).arrayKept
  · split
    · exact (hbegin ..).trans (alertChange_break ..).arrayKept
    · split
      · rfl
      · split
        · rfl
        · exact ((hend ..).trans (hbegin ..)).trans (alertChange_break ..).arrayKept

theorem alertStartAct_arrayKept (p : Fin 4) (r : RawAlert) (s : State) : ArrayKept s (alertStartAct p r s).state := by
  unfold alertStartAct; split
  · rfl
  · exact startAlert_arrayKept ..

theorem alertEndAct_arrayKept (p : Fin 4) (b : Byte) (s : State) : ArrayKept s (alertEndAct p b s).state := by
  have hend (a : Fin 4) (B : Alert) (r : EndReason) (e : Option (Fin 4)) : ArrayKept s (endAlert a B r e s) := rfl
  unfold alertEndAct; split
  · rfl
  · split
    · rfl
    · split
      · rfl
      · exact (hend ..).trans (alertChange_break ..).arrayKept

/-! ## Every command -/

/-- The taking of a request keeps the array where its block does (R188). -/
theorem takeRequest_arrayKept (p : Fin 4) (r : Req) (act : State → Answer) (hact : ∀ x, ArrayKept x (act x).state) (s : State) :
    ArrayKept s (takeRequest p r act s) :=
  takeRequest_keeps ArrayKept (fun _ _ => PortsOnly.arrayKept) (fun _ _ _ => .trans) p r act hact s

/-- The commands that can reach a cell or a pair (R67, R72, R80, R81; log entry 4). -/
def setsArray : Instr → Bool
  | .powerOnReset _ _ | .lineChange _ _ | .settleExpiry _ | .writePair _ _ | .enablePair _ _ | .stationTick => true
  | _ => false

/-- Every other command leaves the cells and the pairs as they were. -/
theorem exec_arrayKept (c : Instr) (s t : State) (hc : setsArray c = false) (h : exec c s = .next t) : ArrayKept s t := by
  cases c <;> first | (cases hc; done) | (have ht := Host.Outcome.next.inj h; subst ht)
  case secondBoundary => exact takeBoundary_arrayKept s
  case chipSelectAssert => rfl
  case fetchCheckByte => rfl
  case malformedFrame => exact takeBytes_arrayKept ..
  case fetch => exact (takeFetch_ports ..).arrayKept
  case quietExpiry => exact (takeQuietExpiry_ports ..).arrayKept
  case orderSendStart => exact startSend_arrayKept s
  case orderSendEnd => exact endSend_arrayKept s
  case done => exact takeDone_arrayKept ..
  case fault => exact takeFault_arrayKept ..
  case fabricMessageMalformed => exact takeMalformed_arrayKept ..
  case ackTimerExpiry => exact takeAckExpiry_arrayKept ..
  case recordArrival => exact .ite rfl rfl
  case intakeTaking => exact takeIntake_arrayKept s
  case claimClose => exact (takeClaimClose_avails ..).arrayKept
  case outCommitPoint => exact (takeOutCommit_break ..).arrayKept
  case fillCommitPoint => exact (takeFillCommit_break ..).arrayKept
  case inCommitPoint => exact (takeInCommit_break ..).arrayKept
  case alertExpiry => exact takeAlertExpiry_arrayKept ..
  all_goals apply takeRequest_arrayKept; intro x
  case status => rfl
  case subscribe => unfold subscribeAct; split <;> rfl
  case rejoin => unfold rejoinAct; dsimp only; split <;> rfl
  case readTime => rfl
  case setCalendar => unfold setCalendarAct; split <;> rfl
  case readLane => rw [readLaneAct_state]; rfl
  case writeLane => exact (writeLaneAct_break ..).arrayKept
  case laneReset => exact (laneResetAct_break ..).arrayKept
  case readOrderLink => rfl
  case readIntake => rfl
  case readFeed => rw [readFeedAct_state]; rfl
  case readCueLogic => rfl
  case readPair => rw [readPairAct_state]; rfl
  case setCueOutput => unfold setCueOutputAct; split <;> rfl
  case readFilter => rw [readFilterAct_state]; rfl
  case writeFilter =>
    unfold writeFilterAct; split
    · rfl
    · dsimp only; split <;> rfl
  case readHit => unfold readHitAct; split <;> rfl
  case readStrays => rfl
  case takeStray => unfold takeStrayAct; split <;> rfl
  case readAvail => rw [readAvailAct_state]; rfl
  case readLaneAvails => rw [readLaneAvailsAct_state]; rfl
  case bookAvail => exact (bookAct_avails ..).arrayKept
  case cancelAvail => exact (cancelAct_avails ..).arrayKept
  case release => exact (releaseAct_avails ..).arrayKept
  case claim => exact (claimAct_avails ..).arrayKept
  case withdraw => exact (withdrawAct_avails ..).arrayKept
  case stand => unfold standAct; split <;> rfl
  case standClear =>
    unfold standClearAct; split
    · rfl
    · split <;> rfl
  case standPause =>
    unfold setPaused; split
    · rfl
    · split <;> rfl
  case standResume =>
    unfold setPaused; split
    · rfl
    · split <;> rfl
  case readStanding => rw [readStandingAct_state]; rfl
  case readWindow => rw [readWindowAct_state]; rfl
  case writeWindow => exact writeWindowAct_arrayKept ..
  case readAlerts => rfl
  case alertStart => exact alertStartAct_arrayKept ..
  case alertEnd => exact alertEndAct_arrayKept ..

end Sys2Proof.Machine
end

section
/-! SUPPORT. Disabled pairs at rest (R68, R82): every write of a cell or a pair leaves them so. -/

namespace Sys2Proof

open Sys2Proof.Machine

/-- A cell of a disabled pair: its outputs are low and its timer is stopped (R82). -/
def Machine.Cell.AtRest (c : Cell) : Prop := c.raw = false ∧ c.filtered = false ∧ c.timer = none

/-- The element of a disabled pair: its output and the odd level that it saw last are low (R82). -/
def Machine.Pair.AtRest (P : Pair) : Prop := P.output = false ∧ P.oddSeen = false

theorem Machine.pairOf_evenCell (k : Fin 6) : pairOf (evenCell k) = k := Fin.ext (by simp [pairOf, evenCell])
theorem Machine.pairOf_oddCell (k : Fin 6) : pairOf (oddCell k) = k := Fin.ext (by simp [pairOf, oddCell]; omega)

/-- The cells of a pair are its even and its odd cell. -/
theorem Machine.pairOf_eq_iff {n : Fin 12} {k : Fin 6} : pairOf n = k ↔ n = evenCell k ∨ n = oddCell k := by
  simp only [Fin.ext_iff, pairOf, evenCell, oddCell]; omega

theorem Machine.evenCell_ne_oddCell (k : Fin 6) : evenCell k ≠ oddCell k := by
  simp only [ne_eq, Fin.ext_iff, evenCell, oddCell]; omega

theorem pairsSound_iff {s : State} : PairsSound s ↔
    (∀ k, (s.pair k).enable = false → (s.pair k).AtRest) ∧ ∀ n, (s.pair (pairOf n)).enable = false → (s.cell n).AtRest := by
  refine ⟨fun h => ⟨fun k hk => ?_, fun n hn => ?_⟩, fun ⟨hpairs, hcells⟩ k hk => ?_⟩
  · obtain ⟨hout, hseen, -⟩ := h k hk
    exact ⟨hout, hseen⟩
  · obtain ⟨-, -, ho1, ho2, ho3, he1, he2, he3⟩ := h (pairOf n) hn
    rcases pairOf_eq_iff.mp (rfl : pairOf n = pairOf n) with e | e <;> rw [e]
    · exact ⟨he1, he2, he3⟩
    · exact ⟨ho1, ho2, ho3⟩
  · obtain ⟨hout, hseen⟩ := hpairs k hk
    obtain ⟨ho1, ho2, ho3⟩ := hcells (oddCell k) (by rw [pairOf_oddCell]; exact hk)
    obtain ⟨he1, he2, he3⟩ := hcells (evenCell k) (by rw [pairOf_evenCell]; exact hk)
    exact ⟨hout, hseen, ho1, ho2, ho3, he1, he2, he3⟩

/-- The disabled pairs stay at rest. -/
structure PairsKept (s t : State) : Prop where
  sound : PairsSound s → PairsSound t

theorem PairsKept.refl (s : State) : PairsKept s s := ⟨id⟩
theorem PairsKept.trans {s t u : State} (h : PairsKept s t) (g : PairsKept t u) : PairsKept s u := ⟨g.sound ∘ h.sound⟩

theorem PairsKept.ite {s t u : State} {c : Prop} [Decidable c] (h : PairsKept s t) (g : PairsKept s u) :
    PairsKept s (if c then t else u) := by
  split
  · exact h
  · exact g

theorem ArrayKept.pairsKept {s t : State} (h : ArrayKept s t) : PairsKept s t := ⟨fun hs => by
  simp only [pairsSound_iff, h.cell, h.pair]
  exact pairsSound_iff.mp hs⟩

end Sys2Proof

namespace Sys2Proof.Machine

/-! ## One record -/

theorem updCell_pairsKept (n : Fin 12) (f : Cell → Cell) (s : State)
    (hf : (s.pair (pairOf n)).enable = false → (s.cell n).AtRest → (f (s.cell n)).AtRest) : PairsKept s (s.updCell n f) := ⟨fun hs => by
  obtain ⟨hpairs, hcells⟩ := pairsSound_iff.mp hs
  refine pairsSound_iff.mpr ⟨hpairs, fun m hm => ?_⟩
  rw [State.updCell_pair] at hm
  rw [State.updCell_cell]; split
  · rename_i e; subst e
    exact hf hm (hcells m hm)
  · exact hcells m hm⟩

/-- A written pair that is then disabled is at rest, and so are its cells. -/
theorem updPair_pairsSound {k : Fin 6} {f : Pair → Pair} {s : State} (hs : PairsSound s)
    (hf : (f (s.pair k)).enable = false → (f (s.pair k)).AtRest ∧ ∀ n, pairOf n = k → (s.cell n).AtRest) :
    PairsSound (s.updPair k f) := by
  obtain ⟨hpairs, hcells⟩ := pairsSound_iff.mp hs
  refine pairsSound_iff.mpr ⟨fun j => ?_, fun n => ?_⟩
  · rw [State.updPair_pair]; split
    · exact fun h => (hf h).1
    · exact hpairs j
  · rw [State.updPair_pair, State.updPair_cell]; split
    · rename_i e
      exact fun h => (hf h).2 n e
    · exact hcells n

/-- A pair that is enabled before or after a write. -/
theorem updPair_pairsKept (k : Fin 6) (f : Pair → Pair) (s : State)
    (hf : (f (s.pair k)).enable = false → (s.pair k).enable = false ∧ ((s.pair k).AtRest → (f (s.pair k)).AtRest)) :
    PairsKept s (s.updPair k f) := ⟨fun hs => by
  refine updPair_pairsSound hs fun h => ?_
  obtain ⟨hen, hrest⟩ := hf h
  obtain ⟨hpairs, hcells⟩ := pairsSound_iff.mp hs
  exact ⟨hrest (hpairs k hen), fun n hn => hcells n (by rw [hn]; exact hen)⟩⟩

/-! ## Evaluation passes (R69 to R78) -/

/-- A cell that emits keeps its outputs and its timer. -/
theorem emit_pairsKept (n : Fin 12) (b : Bool) (x : Pass) : PairsKept x.1 (emit n b x).1 := by
  unfold emit; dsimp only; split
  · exact .refl _
  · dsimp only
    exact updCell_pairsKept _ _ _ fun _ => id

theorem emitOn_pairsKept (src : EmitSource) (n : Fin 12) (b : Bool) (x : Pass) : PairsKept x.1 (emitOn src n b x).1 := by
  unfold emitOn; split
  · exact emit_pairsKept ..
  · exact .refl _

/-- A pass writes the outputs and the timer of a cell only where its pair is enabled (R73). -/
theorem evalCell_pairsKept (n : Fin 12) (x : Pass) : PairsKept x.1 (evalCell n x).1 := by
  unfold evalCell; dsimp only; split
  · exact .refl _
  · rename_i hen
    have hwrite (f : Cell → Cell) : PairsKept x.1 (x.1.updCell n f) := updCell_pairsKept _ _ _ fun h => (hen h).elim
    split
    · exact .refl _
    · split
      · split
        · dsimp only; exact hwrite _
        · refine .trans ?_ (emitOn_pairsKept ..)
          dsimp only; exact hwrite _
      · dsimp only; exact hwrite _

/-- A pass writes a pair element only where its pair is enabled (R73), and leaves it enabled. -/
theorem evalElement_pairsKept (k : Fin 6) (x : Pass) : PairsKept x.1 (evalElement k x).1 := by
  unfold evalElement; dsimp only; split
  · exact .refl _
  · rename_i hen
    have hwrite (out seen : Bool) : PairsKept x.1 (x.1.updPair k fun P => { P with output := out, oddSeen := seen }) :=
      updPair_pairsKept _ _ _ fun h => (hen h).elim
    split
    · exact hwrite _ _
    · exact ((hwrite _ _).trans (emitOn_pairsKept _ _ _ (_, _))).trans (emitOn_pairsKept ..)

theorem evalPass_pairsKept (x : Pass) : PairsKept x.1 (evalPass x).1 :=
  foldl_keeps (fun a b : Pass => PairsKept a.1 b.1) (fun _ => .refl _) (fun _ _ _ => PairsKept.trans) evalPair
    (fun _ _ => ((evalCell_pairsKept ..).trans (evalCell_pairsKept ..)).trans (evalElement_pairsKept ..)) _ x

theorem runPass_pairsKept (x : Pass) : PairsKept x.1 (runPass x) :=
  (evalPass_pairsKept x).trans (deliverCues_cue ..).arrayKept.pairsKept

/-! ## Events of the array -/

theorem takeLineChange_pairsKept (k : Fin 24) (b : Bool) (s : State) : PairsKept s (takeLineChange k b s) := by
  have hline : PairsKept s { s with lines := setLine s.lines k b } := ArrayKept.pairsKept rfl
  exact .ite (.refl s) (hline.trans (runPass_pairsKept (_, [])))

/-- A cell of a disabled pair has a low raw output, which a settle expiry passes on (R72). -/
theorem settledCell_pairsKept (n : Fin 12) (s : State) : PairsKept s (settledCell n s) :=
  updCell_pairsKept _ _ _ fun _ ⟨hraw, _, _⟩ => ⟨hraw, hraw, rfl⟩

theorem takeSettle_pairsKept (n : Fin 12) (s : State) : PairsKept s (takeSettle n s) := by
  have hstop := settledCell_pairsKept n s
  refine .ite ?_ (.refl s)
  unfold settle; dsimp only; split
  · exact hstop.trans (runPass_pairsKept (settledCell n s, []))
  · exact (hstop.trans (emitOn_pairsKept _ _ _ (settledCell n s, []))).trans (runPass_pairsKept _)

/-! ## Requests (R80 to R82) -/

theorem writePairAct_pairsKept (r : RawPair) (s : State) : PairsKept s (writePairAct r s).state := by
  have hcell (n : Fin 12) (cfg : CellConfig) (x : State) : PairsKept x (x.updCell n fun c => { c with cfg := cfg }) :=
    updCell_pairsKept _ _ _ fun _ => id
  unfold writePairAct; split
  · exact .refl s
  · dsimp only; split
    · exact .refl s
    · split
      · exact .refl s
      · dsimp only
        exact ((hcell ..).trans (hcell ..)).trans (updPair_pairsKept _ _ _ fun h => ⟨h, id⟩)

/-- The enabling of a pair, before its cells are primed (R81). -/
def enabledPair (k : Fin 6) (s : State) : State := s.updPair k fun P => { P with enable := true, output := false }

/-- The enabling of a pair with its cells primed, the odd cell first (R81). -/
def primedCells (k : Fin 6) (s : State) : State := primeCell (evenCell k) (primeCell (oddCell k) (enabledPair k s))

theorem primePair_eq (k : Fin 6) (s : State) : primePair k s =
    (primedCells k s).updPair k fun P => { P with oddSeen := ((primedCells k s).cell (oddCell k)).filtered } := rfl

theorem primedCells_pair (k j : Fin 6) (s : State) : (primedCells k s).pair j = (enabledPair k s).pair j := rfl

theorem enabledPair_enable (k : Fin 6) (s : State) : ((enabledPair k s).pair k).enable = true := by
  unfold enabledPair; rw [State.updPair_pair_self]

/-- Only disabled pairs are at rest, and priming works on an enabled one (R81). -/
theorem primePair_pairsKept (k : Fin 6) (s : State) : PairsKept s (primePair k s) := by
  have hen := enabledPair_enable k s
  have hprime (n : Fin 12) (hn : pairOf n = k) (x : State) (hx : (x.pair k).enable = true) : PairsKept x (primeCell n x) := by
    unfold primeCell
    exact updCell_pairsKept _ _ _ fun h => by rw [hn, hx] at h; cases h
  have henabled : PairsKept s (enabledPair k s) := updPair_pairsKept _ _ _ fun h => nomatch h
  have hprimed : PairsKept s (primedCells k s) :=
    (henabled.trans (hprime _ (pairOf_oddCell k) _ hen)).trans
      (hprime _ (pairOf_evenCell k) _ hen)
  rw [primePair_eq]
  refine hprimed.trans (updPair_pairsKept _ _ _ fun h => ?_)
  rw [primedCells_pair, hen] at h; cases h

theorem forceCell_atRest (n : Fin 12) (s : State) : ((forceCell n s).cell n).AtRest := by
  unfold forceCell; rw [State.updCell_cell_self]; exact ⟨rfl, rfl, rfl⟩

theorem forceCell_pairsKept (n : Fin 12) (s : State) : PairsKept s (forceCell n s) :=
  updCell_pairsKept _ _ _ fun _ _ => ⟨rfl, rfl, rfl⟩

/-- A pair is disabled after its cells and its element were forced low (R82). -/
theorem forcePair_pairsKept (k : Fin 6) (s : State) : PairsKept s (forcePair k s) := ⟨fun hs => by
  have hforced := ((forceCell_pairsKept (oddCell k) s).trans (forceCell_pairsKept (evenCell k) _)).sound hs
  refine updPair_pairsSound hforced fun _ => ⟨⟨rfl, rfl⟩, fun n hn => ?_⟩
  rcases pairOf_eq_iff.mp hn with e | e <;> subst e
  · exact forceCell_atRest ..
  · unfold forceCell
    rw [State.updCell_cell, if_neg (evenCell_ne_oddCell k).symm]
    exact forceCell_atRest ..⟩

theorem enablePairAct_pairsKept (r : RawEnable) (s : State) : PairsKept s (enablePairAct r s).state := by
  have hrevise (k : Fin 6) (v : Byte) : PairsKept s (s.updPair k fun P => { P with revision := v }) :=
    updPair_pairsKept _ _ _ fun h => ⟨h, id⟩
  unfold enablePairAct; split
  · exact .refl s
  · dsimp only; split
    · exact .refl s
    · dsimp only; split
      · exact (hrevise ..).trans (primePair_pairsKept ..)
      · exact (hrevise ..).trans (forcePair_pairsKept ..)
      all_goals exact hrevise ..

/-! ## The clock and every command -/

theorem sweep_pairsKept {n : Nat} (take : Fin n → State → State) (h : ∀ i s, PairsKept s (take i s)) (s : State) :
    PairsKept s (sweep take s) := sweep_keeps PairsKept .refl (fun _ _ _ => .trans) take h s

theorem sweep_arrayKept {n : Nat} (take : Fin n → State → State) (h : ∀ i s, ArrayKept s (take i s)) (s : State) :
    ArrayKept s (sweep take s) := sweep_keeps ArrayKept .refl (fun _ _ _ => .trans) take h s

/-- Of the sweep's events only the settle expiries reach the array. -/
theorem settleTick_pairsKept (s : State) : PairsKept s (settleTick s) := by
  have hsettle : PairsKept s (sweep takeSettle (takeBoundary s)) :=
    (takeBoundary_arrayKept s).pairsKept.trans (sweep_pairsKept _ takeSettle_pairsKept _)
  refine hsettle.trans (ArrayKept.pairsKept ?_)
  unfold settleTick
  refine .trans ?_ (startSend_arrayKept _)
  refine .trans ?_ (sweep_arrayKept _ (fun i s => (takeInCommit_break i s).arrayKept) _)
  refine .trans ?_ (sweep_arrayKept _ (fun i s => (takeFillCommit_break i s).arrayKept) _)
  refine .trans ?_ (sweep_arrayKept _ (fun i s => (takeOutCommit_break i s).arrayKept) _)
  refine .trans ?_ (sweep_arrayKept _ (fun i s => (takeClaimClose_avails i s).arrayKept) _)
  refine .trans ?_ (sweep_arrayKept _ takeAckExpiry_arrayKept _)
  refine .trans ?_ (sweep_arrayKept _ (fun p s => (takeQuietExpiry_ports p s).arrayKept) _)
  exact sweep_arrayKept _ takeAlertExpiry_arrayKept _

theorem advanceTick_arrayKept (s : State) : ArrayKept s (advanceTick s) := rfl

theorem released_pairsSound (roles : Vector Role 4) (lines : BitVec 24) (q : List Instr) : PairsSound (State.released roles lines q) :=
  fun k _ => by simp only [released_pair, released_cell]; simp

theorem takeRequest_pairsKept (p : Fin 4) (r : Req) (act : State → Answer) (hact : ∀ x, PairsKept x (act x).state) (s : State) :
    PairsKept s (takeRequest p r act s) :=
  takeRequest_keeps PairsKept (fun _ _ h => h.arrayKept.pairsKept) (fun _ _ _ => .trans) p r act hact s

theorem exec_pairsKept (c : Instr) (s t : State) (h : exec c s = .next t) : PairsKept s t := by
  by_cases hc : setsArray c = false
  · exact (exec_arrayKept c s t hc h).pairsKept
  cases c <;> first | exact (hc rfl).elim | (have ht := Host.Outcome.next.inj h; subst ht)
  case powerOnReset => exact ⟨fun _ => released_pairsSound _ _ _⟩
  case lineChange => exact takeLineChange_pairsKept ..
  case settleExpiry => exact takeSettle_pairsKept ..
  case writePair => exact takeRequest_pairsKept _ _ _ (writePairAct_pairsKept _) s
  case enablePair => exact takeRequest_pairsKept _ _ _ (enablePairAct_pairsKept _) s
  case stationTick => exact (settleTick_pairsKept s).trans (advanceTick_arrayKept _).pairsKept

end Sys2Proof.Machine
end

section
/-! Cue logic: every command keeps the disabled pairs at rest. -/

namespace Sys2Proof.Certificates

open Sys2Proof.Machine

/-- Settles O47: what every command writes of a cell or a pair leaves a disabled pair at rest. -/
theorem pairsSoundKept : Obligations.PairsSoundKept :=
  step_keeps PairsSound (fun _ _ => (ArrayKept.pairsKept rfl).sound) fun c s t h => (exec_pairsKept c s t h).sound

end Sys2Proof.Certificates
end

section
/-! SUPPORT. The parts of an evaluation pass, case by case (R69 to R78): the raw output, a cell, a pair element, an emission. -/

namespace Sys2Proof.Machine

/-! ## The raw output (R69, R70) -/

/-- The cell that LINK reads is the next one, and cell 0 after cell 11 (R69). -/
theorem linkCell_eq (n : Fin 12) : linkCell n = if n = 11 then 0 else n + 1 := by revert n; decide

theorem State.laneOut_eq (s : State) (l : Fin 32) :
    s.laneOut l = decide (∃ i, ((s.avail i).state = .out ∨ (s.avail i).state = .returning) ∧ (s.avail i).lane = l) := by
  unfold State.laneOut
  rw [Bool.eq_iff_iff]
  simp [Avail.airing_iff]

theorem State.alertAny_eq (s : State) : s.alertAny = decide (∃ a, (s.alert a).isSome = true) := by
  unfold State.alertAny
  rw [Bool.eq_iff_iff]
  simp

/-! ## Emission (R75 to R78) -/

section Emission

variable {n : Fin 12} {rising : Bool} {x : Pass}

theorem emit_none (h : emittedKind (x.1.cell n).cfg rising = none) : emit n rising x = x := by
  unfold emit; dsimp only; rw [h]

theorem emit_some {k : CueKind} (h : emittedKind (x.1.cell n).cfg rising = some k) :
    emit n rising x =
      let c := x.1.cell n
      let sequence := if k = .out then c.sequence + 1 else c.sequence
      (x.1.updCell n fun c => { c with sequence := sequence },
        x.2 ++ [{ feed := c.cfg.feed, kind := k, eventId := cellEventId c.cfg.feed sequence, cls := c.cfg.cls
                  timing := .lead c.cfg.lead, duration := none, origin := .cell n, arrival := x.1.tick }]) := by
  unfold emit; dsimp only; rw [h]

theorem emit_pair (n : Fin 12) (rising : Bool) (x : Pass) (k : Fin 6) : (emit n rising x).1.pair k = x.1.pair k := by
  unfold emit; dsimp only; split <;> rfl

theorem emitOn_pair (src : EmitSource) (n : Fin 12) (rising : Bool) (x : Pass) (k : Fin 6) :
    (emitOn src n rising x).1.pair k = x.1.pair k := by
  unfold emitOn; split
  · exact emit_pair ..
  · rfl

/-- An emission writes the sequence of its cell only. -/
theorem emit_cell (n : Fin 12) (rising : Bool) (x : Pass) (m : Fin 12) :
    ∃ q, (emit n rising x).1.cell m = { x.1.cell m with sequence := q } := by
  cases h : emittedKind (x.1.cell n).cfg rising with
  | none => rw [emit_none h]; exact ⟨_, rfl⟩
  | some k =>
    rw [emit_some h]
    simp only [State.updCell_cell]; split
    · rename_i e; subst e; exact ⟨_, rfl⟩
    · exact ⟨_, rfl⟩

end Emission

/-! ## One evaluation of a cell (R71) -/

section Cells

variable {n : Fin 12} {x : Pass}

/-- The raw output that a pass computes for a cell (R70, R73). -/
def passRaw (n : Fin 12) (x : Pass) : Bool := rawOutput x.1 n (x.1.pair (pairOf n)).output

theorem evalCell_disabled (hen : (x.1.pair (pairOf n)).enable = false) : evalCell n x = x := if_pos hen

theorem evalCell_unchanged (hraw : passRaw n x = (x.1.cell n).raw) : evalCell n x = x := by
  unfold evalCell; exact (congrArg _ (if_pos hraw)).trans (ite_self _)

/-- A change of the raw output, with no settle time, passes at once. -/
theorem evalCell_instant (hen : (x.1.pair (pairOf n)).enable = true) (hraw : passRaw n x ≠ (x.1.cell n).raw)
    (hsettle : (x.1.cell n).cfg.settle = 0) :
    evalCell n x =
      let x1 : Pass := (x.1.updCell n fun c => { c with raw := passRaw n x, filtered := passRaw n x }, x.2)
      if (x.1.cell n).filtered ≠ passRaw n x ∧ (x.1.cell n).cfg.source = .filtered then emit n (passRaw n x) x1 else x1 := by
  have hchange : evalCell n x =
      let x1 : Pass := (x.1.updCell n fun c => { c with raw := passRaw n x, filtered := passRaw n x }, x.2)
      if (x.1.cell n).filtered = passRaw n x then x1 else emitOn .filtered n (passRaw n x) x1 :=
    (if_neg (by rw [hen]; decide)).trans ((if_neg hraw).trans (if_pos hsettle))
  rw [hchange, ite_and, ite_not]
  unfold emitOn
  simp only [State.updCell_cell_self]

/-- A change of the raw output, with a settle time, starts the settle timer afresh. -/
theorem evalCell_timed (hen : (x.1.pair (pairOf n)).enable = true) (hraw : passRaw n x ≠ (x.1.cell n).raw)
    (hsettle : (x.1.cell n).cfg.settle ≠ 0) :
    evalCell n x = (x.1.updCell n fun c => { c with
      raw := passRaw n x, timer := some (addTicks x.1.tick ((x.1.cell n).cfg.settle * 180)) }, x.2) :=
  (if_neg (by rw [hen]; decide)).trans ((if_neg hraw).trans (if_neg hsettle))

theorem evalCell_timed_cell (hen : (x.1.pair (pairOf n)).enable = true) (hraw : passRaw n x ≠ (x.1.cell n).raw)
    (hsettle : (x.1.cell n).cfg.settle ≠ 0) :
    (evalCell n x).1.cell n = { x.1.cell n with
      raw := passRaw n x, timer := some (addTicks x.1.tick ((x.1.cell n).cfg.settle * 180)) } := by
  rw [evalCell_timed hen hraw hsettle]; exact State.updCell_cell_self ..

theorem evalCell_instant_cell (hen : (x.1.pair (pairOf n)).enable = true) (hraw : passRaw n x ≠ (x.1.cell n).raw)
    (hsettle : (x.1.cell n).cfg.settle = 0) :
    let d := (evalCell n x).1.cell n
    d.raw = passRaw n x ∧ d.filtered = passRaw n x ∧ d.timer = (x.1.cell n).timer := by
  rw [evalCell_instant hen hraw hsettle]; dsimp only; split
  · obtain ⟨q, hq⟩ := emit_cell n (passRaw n x) (x.1.updCell n fun c => { c with raw := passRaw n x, filtered := passRaw n x }, x.2) n
    rw [hq, State.updCell_cell_self]
    exact ⟨rfl, rfl, rfl⟩
  · rw [State.updCell_cell_self]
    exact ⟨rfl, rfl, rfl⟩

end Cells

/-! ## One evaluation of a pair element (R74, R75) -/

/-- CAPTURE takes the even cell's output at a rising edge of the odd one, and TOGGLE turns over there where that is high (R74). -/
theorem elementNext_capture (output oddSeen odd even : Bool) :
    elementNext .capture output oddSeen odd even = if oddSeen = false ∧ odd = true then even else output := by
  cases oddSeen <;> cases odd <;> rfl

theorem elementNext_toggle (output oddSeen odd even : Bool) :
    elementNext .toggle output oddSeen odd even =
      if (oddSeen = false ∧ odd = true) ∧ even = true then !output else output := by
  cases oddSeen <;> cases odd <;> cases even <;> rfl

section Elements

variable {k : Fin 6} {x : Pass}

/-- An enabled pair's record after an evaluation of its element (R74). -/
def elementStep (k : Fin 6) (x : Pass) : Pair :=
  let P := x.1.pair k
  let odd := (x.1.cell (oddCell k)).filtered
  { P with output := elementNext P.mode P.output P.oddSeen odd (x.1.cell (evenCell k)).filtered, oddSeen := odd }

theorem evalElement_disabled (hen : (x.1.pair k).enable = false) : evalElement k x = x := if_pos hen

theorem evalElement_enabled (hen : (x.1.pair k).enable = true) :
    evalElement k x =
      let Q := elementStep k x
      let x1 : Pass := (x.1.updPair k fun P => { P with output := Q.output, oddSeen := Q.oddSeen }, x.2)
      if Q.output = (x.1.pair k).output then x1
      else emitOn .pair (evenCell k) Q.output (emitOn .pair (oddCell k) Q.output x1) := by
  have hodd : x.1.filteredOut (oddCell k) = (x.1.cell (oddCell k)).filtered := by
    unfold State.filteredOut; rw [pairOf_oddCell, hen]; rfl
  have heven : x.1.filteredOut (evenCell k) = (x.1.cell (evenCell k)).filtered := by
    unfold State.filteredOut; rw [pairOf_evenCell, hen]; rfl
  unfold evalElement elementStep; dsimp only
  rw [hodd, heven]
  exact if_neg (by rw [hen]; decide)

theorem evalElement_pair_self (hen : (x.1.pair k).enable = true) : (evalElement k x).1.pair k = elementStep k x := by
  rw [evalElement_enabled hen]; dsimp only; split
  · rw [State.updPair_pair_self]; rfl
  · rw [emitOn_pair, emitOn_pair, State.updPair_pair_self]; rfl

end Elements

/-! ## The order of a pass (R73) -/

theorem evalPair_eq (k : Fin 6) (even odd : Fin 12) (he : evenCell k = even) (ho : oddCell k = odd) (x : Pass) :
    evalPair x k = evalElement k (evalCell even (evalCell odd x)) := by subst he ho; rfl

/-- From pair 5 down to pair 0, each with its odd cell, its even cell, its element. -/
theorem evalPass_eq (x : Pass) : evalPass x =
    evalElement 0 (evalCell 0 (evalCell 1 (evalElement 1 (evalCell 2 (evalCell 3 (evalElement 2 (evalCell 4 (evalCell 5
      (evalElement 3 (evalCell 6 (evalCell 7 (evalElement 4 (evalCell 8 (evalCell 9 (evalElement 5 (evalCell 10 (evalCell 11 x)))))))))))))))))
    := by
  unfold evalPass
  simp only [List.foldl_cons, List.foldl_nil]
  rw [evalPair_eq 5 10 11 rfl rfl, evalPair_eq 4 8 9 rfl rfl, evalPair_eq 3 6 7 rfl rfl, evalPair_eq 2 4 5 rfl rfl,
    evalPair_eq 1 2 3 rfl rfl, evalPair_eq 0 0 1 rfl rfl]

end Sys2Proof.Machine
end

section
/-! Cue logic: the evaluations of the array. -/

namespace Sys2Proof.Certificates

open Sys2Proof.Machine

/-- Settles O45: each part of a pass by its cases. -/
theorem evaluations : Obligations.Evaluations := by
  refine ⟨fun k => ⟨rfl, rfl, pairOf_evenCell k, pairOf_oddCell k⟩, fun k => ?_, fun s n out => ?_,
    fun n x => ⟨evalCell_disabled, fun hen => ⟨evalCell_unchanged, fun hraw hsettle => ?_, fun hraw hsettle => ?_⟩⟩,
    evalPass_eq, fun k x => ⟨evalElement_disabled, fun hen => ?_⟩, fun n rising x => ⟨emit_none, fun k hk => emit_some hk⟩⟩
  · rw [reset_eq_released, released_pair]; exact ⟨rfl, rfl, rfl⟩
  · intro value high c
    have hvalue : inputValue s n out = value := by
      funext sel
      cases sel with
      | link => show s.filteredOut _ = _; rw [linkCell_eq]; rfl
      | laneOut l => exact s.laneOut_eq l
      | alertAny => exact s.alertAny_eq
      | _ => rfl
    unfold rawOutput
    rw [hvalue]
  · obtain ⟨h1, h2, h3⟩ := evalCell_instant_cell hen hraw hsettle
    exact ⟨h1, h2, h3, evalCell_instant hen hraw hsettle⟩
  · have hcell := evalCell_timed_cell hen hraw hsettle
    exact ⟨hcell, (evalCell_timed hen hraw hsettle).trans (congrArg (fun d => (x.1.updCell n fun _ => d, x.2)) hcell.symm)⟩
  · intro P odd even edge Q
    rw [show Q = elementStep k x from evalElement_pair_self hen]
    refine ⟨rfl, rfl, fun h => ?_, fun h => ?_, fun h => ?_, fun h => ?_, fun h => ?_, evalElement_enabled hen⟩
    all_goals unfold elementStep; dsimp only; rw [h]
    · rfl
    · rfl
    · rfl
    · exact elementNext_capture ..
    · exact elementNext_toggle ..

end Sys2Proof.Certificates
end

section
/-! SUPPORT. The events of the array (R67, R72): what a line change and a settle expiry leave, and the filtered outputs that a pass keeps. -/

namespace Sys2Proof

open Sys2Proof.Machine

theorem ArrayOnly.lines {s t : State} (h : ArrayOnly s t) : t.lines = s.lines := by unfold ArrayOnly at h; rw [h]

/-- No cell's configuration differs, and a cell with a settle time keeps its filtered output. -/
structure FilteredKept (s t : State) : Prop where
  cells : ∀ n, (t.cell n).cfg = (s.cell n).cfg ∧ ((s.cell n).cfg.settle ≠ 0 → (t.cell n).filtered = (s.cell n).filtered)

theorem FilteredKept.refl (s : State) : FilteredKept s s := ⟨fun _ => ⟨rfl, fun _ => rfl⟩⟩

theorem FilteredKept.trans {s t u : State} (h : FilteredKept s t) (g : FilteredKept t u) : FilteredKept s u := ⟨fun n => by
  obtain ⟨hcfg, hfiltered⟩ := h.cells n
  obtain ⟨gcfg, gfiltered⟩ := g.cells n
  exact ⟨gcfg.trans hcfg, fun hs => (gfiltered (by rw [hcfg]; exact hs)).trans (hfiltered hs)⟩⟩

end Sys2Proof

namespace Sys2Proof.Machine

/-! ## Filtered outputs in a pass (R71, R72) -/

theorem updCell_filteredKept (n : Fin 12) (f : Cell → Cell) (s : State)
    (hf : (f (s.cell n)).cfg = (s.cell n).cfg ∧ ((s.cell n).cfg.settle ≠ 0 → (f (s.cell n)).filtered = (s.cell n).filtered)) :
    FilteredKept s (s.updCell n f) := ⟨fun m => by
  rw [State.updCell_cell]; split
  · rename_i e; subst e; exact hf
  · exact ⟨rfl, fun _ => rfl⟩⟩

theorem updPair_filteredKept (k : Fin 6) (f : Pair → Pair) (s : State) : FilteredKept s (s.updPair k f) := ⟨fun _ => ⟨rfl, fun _ => rfl⟩⟩

theorem emit_filteredKept (n : Fin 12) (b : Bool) (x : Pass) : FilteredKept x.1 (emit n b x).1 := ⟨fun m => by
  obtain ⟨q, hq⟩ := emit_cell n b x m
  rw [hq]; exact ⟨rfl, fun _ => rfl⟩⟩

theorem emitOn_filteredKept (src : EmitSource) (n : Fin 12) (b : Bool) (x : Pass) : FilteredKept x.1 (emitOn src n b x).1 := by
  unfold emitOn; split
  · exact emit_filteredKept ..
  · exact .refl _

/-- A change passes to the filtered output at once only with no settle time (R71). -/
theorem evalCell_filteredKept (n : Fin 12) (x : Pass) : FilteredKept x.1 (evalCell n x).1 := by
  cases hen : (x.1.pair (pairOf n)).enable with
  | false => rw [evalCell_disabled hen]; exact .refl _
  | true =>
    by_cases hraw : passRaw n x = (x.1.cell n).raw
    · rw [evalCell_unchanged hraw]; exact .refl _
    by_cases hsettle : (x.1.cell n).cfg.settle = 0
    · have hpassed : FilteredKept x.1 (x.1.updCell n fun c => { c with raw := passRaw n x, filtered := passRaw n x }) :=
        updCell_filteredKept _ _ _ ⟨rfl, fun h => (h hsettle).elim⟩
      rw [evalCell_instant hen hraw hsettle]; dsimp only; split
      · exact hpassed.trans (emit_filteredKept _ _ (_, _))
      · exact hpassed
    · rw [evalCell_timed hen hraw hsettle]; dsimp only
      exact updCell_filteredKept _ _ _ ⟨rfl, fun _ => rfl⟩

theorem evalElement_filteredKept (k : Fin 6) (x : Pass) : FilteredKept x.1 (evalElement k x).1 := by
  cases hen : (x.1.pair k).enable with
  | false => rw [evalElement_disabled hen]; exact .refl _
  | true =>
    have hwrite (out seen : Bool) : FilteredKept x.1 (x.1.updPair k fun P => { P with output := out, oddSeen := seen }) :=
      updPair_filteredKept ..
    rw [evalElement_enabled hen]; dsimp only; split
    · exact hwrite _ _
    · exact ((hwrite _ _).trans (emitOn_filteredKept _ _ _ (_, _))).trans (emitOn_filteredKept ..)

theorem evalPass_filteredKept (x : Pass) : FilteredKept x.1 (evalPass x).1 :=
  foldl_keeps (fun a b : Pass => FilteredKept a.1 b.1) (fun _ => .refl _) (fun _ _ _ => FilteredKept.trans) evalPair
    (fun _ _ => ((evalCell_filteredKept ..).trans (evalCell_filteredKept ..)).trans (evalElement_filteredKept ..)) _ x

/-! ## A pass with every pair disabled (R73) -/

theorem evalPair_disabled {x : Pass} {k : Fin 6} (hen : (x.1.pair k).enable = false) : evalPair x k = x := by
  have hodd : evalCell (oddCell k) x = x := evalCell_disabled (by rw [pairOf_oddCell]; exact hen)
  have heven : evalCell (evenCell k) x = x := evalCell_disabled (by rw [pairOf_evenCell]; exact hen)
  unfold evalPair
  rw [hodd, heven, evalElement_disabled hen]

theorem evalPass_disabled {x : Pass} (hen : ∀ k, (x.1.pair k).enable = false) : evalPass x = x :=
  List.foldl_fixed' (fun k => evalPair_disabled (hen k)) _

/-! ## Line changes (R67) -/

/-- A line that takes a level, and every other one. -/
theorem setLine_getLsbD (lines : BitVec 24) (k j : Fin 24) (level : Bool) :
    (setLine lines k level).getLsbD j.val = if j = k then level else lines.getLsbD j.val := by
  by_cases e : j = k
  · subst e; cases level <;> simp [setLine]
  · have hne : j.val ≠ k.val := fun h => e (Fin.ext h)
    cases level <;> simp [setLine, e, hne]

theorem takeLineChange_same {k : Fin 24} {level : Bool} {s : State} (h : s.lines.getLsbD k.val = level) : takeLineChange k level s = s :=
  if_pos h

theorem takeLineChange_changed {k : Fin 24} {level : Bool} {s : State} (h : s.lines.getLsbD k.val ≠ level) :
    takeLineChange k level s = runPass ({ s with lines := setLine s.lines k level }, []) := if_neg h

theorem runPass_disabled {s : State} (hen : ∀ k, (s.pair k).enable = false) : runPass (s, []) = s := by
  unfold runPass; rw [evalPass_disabled hen]; rfl

/-! ## Settle expiries (R72) -/

/-- What a settle expiry hands to its pass: the emission of its own change comes first. -/
def settledPass (n : Fin 12) (s : State) : Pass :=
  if (s.cell n).raw ≠ (s.cell n).filtered ∧ (s.cell n).cfg.source = .filtered then emit n (s.cell n).raw (settledCell n s, [])
  else (settledCell n s, [])

theorem settle_eq (n : Fin 12) (s : State) : settle n s = runPass (settledPass n s) := by
  have hcfg : ((settledCell n s).cell n).cfg = (s.cell n).cfg := by unfold settledCell; rw [State.updCell_cell_self]
  have hpass : settle n s = runPass (if (s.cell n).raw = (s.cell n).filtered then (settledCell n s, [])
      else emitOn .filtered n (s.cell n).raw (settledCell n s, [])) := rfl
  rw [hpass]
  unfold settledPass emitOn
  rw [hcfg, ite_and, ite_not]

theorem takeSettle_due {n : Fin 12} {s : State} (h : (s.cell n).timer = some s.tick) : takeSettle n s = runPass (settledPass n s) :=
  (if_pos (decide_eq_true h)).trans (settle_eq n s)

/-- The filtered output that a settle expiry leaves, where its cell has a settle time. -/
theorem takeSettle_filtered {n : Fin 12} {s : State} (h : (s.cell n).timer = some s.tick) (hsettle : (s.cell n).cfg.settle ≠ 0) :
    ((takeSettle n s).cell n).filtered = (s.cell n).raw := by
  have hstart : (settledCell n s).cell n = { s.cell n with timer := none, filtered := (s.cell n).raw } := State.updCell_cell_self ..
  have hemit : FilteredKept (settledCell n s) (settledPass n s).1 := by
    unfold settledPass; split
    · exact emit_filteredKept n _ (settledCell n s, [])
    · exact .refl _
  obtain ⟨-, hfiltered⟩ := (hemit.trans (evalPass_filteredKept _)).cells n
  rw [hstart] at hfiltered
  rw [takeSettle_due h, runPass_cell]
  exact hfiltered hsettle

end Sys2Proof.Machine
end

section
/-! Cue logic: the events of the array. -/

namespace Sys2Proof.Certificates

open Sys2Proof.Machine

/-- Settles O44: an event is a pass over the state that it begins with, and the pass's frame. -/
theorem cueLogicEvents : Obligations.CueLogicEvents := by
  refine ⟨fun k level s => ⟨fun hsame => congrArg _ (takeLineChange_same hsame), fun hchange => ?_⟩, fun n s hdue => ?_⟩
  · have hexec := takeLineChange_changed hchange
    have harray := runPass_array ({ s with lines := setLine s.lines k level }, [])
    rw [← hexec] at harray
    have hlines : (takeLineChange k level s).lines = setLine s.lines k level := harray.lines
    refine ⟨_, rfl, fun j => ?_, ?_, fun hen => ?_, ?_⟩ <;> rw [hlines]
    · exact setLine_getLsbD ..
    · exact harray
    · exact hexec.trans (runPass_disabled hen)
    · exact hexec
  · exact ⟨_, rfl, takeSettle_filtered hdue, takeSettle_array n s, takeSettle_due hdue⟩

end Sys2Proof.Certificates
end

section
/-! SUPPORT. The fields of WRITE PAIR, ENABLE PAIR and SET CUE OUTPUT (R68, R79, R83): when a reader answers nothing, and what it answers. -/

namespace Sys2Proof.Machine

/-! ## Named values, in the order of their codes (R198) -/

theorem emitEdgeOf_eq_getElem (b : Byte) : emitEdgeOf b = [EmitEdge.none, .rising, .falling, .both][b.toNat]? := by
  unfold emitEdgeOf
  match b.toNat with
  | 0 | 1 | 2 | 3 => rfl
  | n + 4 => rfl

theorem emitSourceOf_eq_getElem (b : Byte) : emitSourceOf b = [EmitSource.filtered, .pair][b.toNat]? := by
  unfold emitSourceOf
  match b.toNat with
  | 0 | 1 => rfl
  | n + 2 => rfl

theorem cueKindOf_eq_getElem (b : Byte) : cueKindOf b = [CueKind.out, .ret, .cancel, .mark][b.toNat]? := by
  unfold cueKindOf
  match b.toNat with
  | 0 | 1 | 2 | 3 => rfl
  | n + 4 => rfl

theorem elementModeOf_eq_getElem (b : Byte) : elementModeOf b = [ElementMode.off, .follow, .setReset, .capture, .toggle][b.toNat]? := by
  unfold elementModeOf
  match b.toNat with
  | 0 | 1 | 2 | 3 | 4 => rfl
  | n + 5 => rfl

theorem emitEdgeOf_eq_none {b : Byte} : emitEdgeOf b = none ↔ 3 < b.toNat := by rw [emitEdgeOf_eq_getElem, List.getElem?_eq_none_iff]; rfl
theorem emitSourceOf_eq_none {b : Byte} : emitSourceOf b = none ↔ 1 < b.toNat := by
  rw [emitSourceOf_eq_getElem, List.getElem?_eq_none_iff]; rfl
theorem elementModeOf_eq_none {b : Byte} : elementModeOf b = none ↔ 4 < b.toNat := by
  rw [elementModeOf_eq_getElem, List.getElem?_eq_none_iff]; rfl

/-! ## Selectors (R69, R83) -/

/-- A kind without a number, whose number field has to be 0 (R198). -/
theorem unnumbered_eq_none {α : Type} {b : Byte} {x : α} : (if b = 0 then some x else none) = none ↔ b.toNat ≠ 0 := by
  rw [ite_eq_right_iff, ← BitVec.toNat_inj]; simp

theorem unnumbered_eq_some {α : Type} {b : Byte} {x y : α} (h : (if b = 0 then some x else none) = some y) : y = x := by
  split at h
  · exact (Option.some.inj h).symm
  · cases h

/-- A kind with a number. -/
theorem numbered_eq_none {α : Type} {n : Nat} {b : Byte} {f : Fin n → α} : (toFin n b).map f = none ↔ n ≤ b.toNat := by
  rw [Option.map_eq_none_iff, toFin_eq_none]

theorem numbered_eq_some {α : Type} {n : Nat} {b : Byte} {f : Fin n → α} {x : α} (h : (toFin n b).map f = some x) :
    ∃ i : Fin n, b.toNat = i.val ∧ x = f i := by
  obtain ⟨i, hi, rfl⟩ := Option.map_eq_some_iff.mp h
  exact ⟨i, toFin_eq_some.mp hi, rfl⟩

theorem selectorOf_eq_none {r : RawSelector} : selectorOf r = none ↔ SelectorOut r := by
  unfold selectorOf SelectorOut
  match r.kind.toNat with
  | 0 | 2 | 3 | 5 => simp only [unnumbered_eq_none]; omega
  | 1 | 4 => simp only [numbered_eq_none, true_and]; omega
  | n + 6 => simp only [true_iff]; omega

theorem selectorOf_eq_some {r : RawSelector} {x : Selector} (h : selectorOf r = some x) : SelectorSpells r x := by
  unfold selectorOf at h
  unfold SelectorSpells
  match hk : r.kind.toNat with
  | 0 => rw [hk] at h; simpa using unnumbered_eq_some h
  | 1 => rw [hk] at h; simpa using numbered_eq_some h
  | 2 => rw [hk] at h; simpa using unnumbered_eq_some h
  | 3 => rw [hk] at h; simpa using unnumbered_eq_some h
  | 4 => rw [hk] at h; simpa using numbered_eq_some h
  | 5 => rw [hk] at h; simpa using unnumbered_eq_some h
  | n + 6 => rw [hk] at h; cases h

theorem outputSelectionOf_eq_none {r : RawSelector} : outputSelectionOf r = none ↔
    2 < r.kind.toNat ∨ (r.kind.toNat = 0 ∧ r.number.toNat ≠ 0) ∨ (r.kind.toNat = 1 ∧ 11 < r.number.toNat) ∨
      (r.kind.toNat = 2 ∧ 5 < r.number.toNat) := by
  unfold outputSelectionOf
  match r.kind.toNat with
  | 0 => simp only [unnumbered_eq_none, true_and]; omega
  | 1 | 2 => simp only [numbered_eq_none, true_and]; omega
  | n + 3 => simp only [true_iff]; omega

theorem outputSelectionOf_eq_some {r : RawSelector} {x : OutputSelection} (h : outputSelectionOf r = some x) :
    (r.kind.toNat = 0 ∧ x = .low) ∨ (r.kind.toNat = 1 ∧ ∃ n : Fin 12, r.number.toNat = n.val ∧ x = .cell n) ∨
      (r.kind.toNat = 2 ∧ ∃ k : Fin 6, r.number.toNat = k.val ∧ x = .pair k) := by
  unfold outputSelectionOf at h
  match hk : r.kind.toNat with
  | 0 => rw [hk] at h; simpa using unnumbered_eq_some h
  | 1 => rw [hk] at h; simpa using numbered_eq_some h
  | 2 => rw [hk] at h; simpa using numbered_eq_some h
  | n + 3 => rw [hk] at h; cases h

/-! ## Cells and bodies (R68, R79, R83) -/

theorem cellConfigOf_eq_none {r : RawCell} : cellConfigOf r = none ↔ CellOut r := by
  refine bind_eq_none_or selectorOf_eq_none fun _ _ => bind_eq_none_or selectorOf_eq_none fun _ _ =>
    bind_eq_none_or selectorOf_eq_none fun _ _ => bind_eq_none_or emitEdgeOf_eq_none fun _ _ =>
    bind_eq_none_or emitSourceOf_eq_none fun _ _ => bind_eq_none_or toFin_eq_none fun _ _ =>
    bind_eq_none_or cueKindOf_eq_none fun _ _ => ?_
  rw [← or_false (1800000 < r.lead.toNat)]
  exact bind_eq_none_or within_zero_eq_none fun _ _ => ⟨fun h => (nomatch h), False.elim⟩

theorem cellConfigOf_eq_some {r : RawCell} {cfg : CellConfig} (h : cellConfigOf r = some cfg) : CellSpells r cfg := by
  unfold cellConfigOf at h
  simp only [Option.bind_eq_bind, Option.bind_eq_some_iff, Option.pure_def, Option.some.injEq] at h
  obtain ⟨input0, h0, input1, h1, input2, h2, edge, hedge, source, hsource, feed, hfeed, kind, hkind, lead, hlead, rfl⟩ := h
  obtain ⟨rfl, -⟩ := within_eq_some hlead
  rw [emitEdgeOf_eq_getElem] at hedge
  rw [emitSourceOf_eq_getElem] at hsource
  rw [cueKindOf_eq_getElem] at hkind
  exact ⟨selectorOf_eq_some h0, selectorOf_eq_some h1, selectorOf_eq_some h2, rfl, rfl, hedge, hsource, (toFin_eq_some.mp hfeed).symm,
    hkind, rfl, rfl⟩

theorem pairWriteOf_eq_none {r : RawPair} : pairWriteOf r = none ↔
    5 < r.pair.toNat ∨ 4 < r.mode.toNat ∨ CellOut r.even ∨ CellOut r.odd ∨ r.expected.undefinedPresent = true := by
  refine bind_eq_none_or toFin_eq_none fun _ _ => bind_eq_none_or elementModeOf_eq_none fun _ _ =>
    bind_eq_none_or cellConfigOf_eq_none fun _ _ => bind_eq_none_or cellConfigOf_eq_none fun _ _ => ?_
  rw [← or_false (r.expected.undefinedPresent = true)]
  exact bind_eq_none_or check_eq_none fun _ _ => ⟨fun h => (nomatch h), False.elim⟩

theorem pairWriteOf_eq_some {r : RawPair} {k : Fin 6} {mode : ElementMode} {even odd : CellConfig} {e : Option Byte}
    (h : pairWriteOf r = some (k, mode, even, odd, e)) :
    k.val = r.pair.toNat ∧ [ElementMode.off, .follow, .setReset, .capture, .toggle][r.mode.toNat]? = some mode ∧
      CellSpells r.even even ∧ CellSpells r.odd odd ∧ OptSpells r.expected e := by
  unfold pairWriteOf at h
  simp only [Option.bind_eq_bind, Option.bind_eq_some_iff, Option.pure_def, Option.some.injEq, Prod.mk.injEq] at h
  obtain ⟨pair, hpair, mode, hmode, even, heven, odd, hodd, expected, hexpected, rfl, rfl, rfl, rfl, rfl⟩ := h
  rw [elementModeOf_eq_getElem] at hmode
  exact ⟨(toFin_eq_some.mp hpair).symm, hmode, cellConfigOf_eq_some heven, cellConfigOf_eq_some hodd, check_eq_some hexpected⟩

theorem enableWriteOf_eq_none {r : RawEnable} : enableWriteOf r = none ↔
    5 < r.pair.toNat ∨ 1 < r.enable.toNat ∨ r.expected.undefinedPresent = true := by
  refine bind_eq_none_or toFin_eq_none fun _ _ => bind_eq_none_or toFlag_eq_none fun _ _ => ?_
  rw [← or_false (r.expected.undefinedPresent = true)]
  exact bind_eq_none_or check_eq_none fun _ _ => ⟨fun h => (nomatch h), False.elim⟩

theorem enableWriteOf_eq_some {r : RawEnable} {k : Fin 6} {en : Bool} {e : Option Byte} (h : enableWriteOf r = some (k, en, e)) :
    k.val = r.pair.toNat ∧ en = decide (r.enable.toNat = 1) ∧ OptSpells r.expected e := by
  unfold enableWriteOf at h
  simp only [Option.bind_eq_bind, Option.bind_eq_some_iff, Option.pure_def, Option.some.injEq, Prod.mk.injEq] at h
  obtain ⟨pair, hpair, enable, henable, expected, hexpected, rfl, rfl, rfl⟩ := h
  exact ⟨(toFin_eq_some.mp hpair).symm, toFlag_eq_some henable, check_eq_some hexpected⟩

theorem outputWriteOf_eq_none {r : RawOutput} : outputWriteOf r = none ↔
    7 < r.output.toNat ∨ 2 < r.selection.kind.toNat ∨ (r.selection.kind.toNat = 0 ∧ r.selection.number.toNat ≠ 0) ∨
      (r.selection.kind.toNat = 1 ∧ 11 < r.selection.number.toNat) ∨ (r.selection.kind.toNat = 2 ∧ 5 < r.selection.number.toNat) := by
  refine bind_eq_none_or toFin_eq_none fun _ _ => ?_
  rw [← outputSelectionOf_eq_none, ← or_false (outputSelectionOf r.selection = none)]
  exact bind_eq_none_or Iff.rfl fun _ _ => ⟨fun h => (nomatch h), False.elim⟩

theorem outputWriteOf_eq_some {r : RawOutput} {o : Fin 8} {x : OutputSelection} (h : outputWriteOf r = some (o, x)) :
    o.val = r.output.toNat ∧ outputSelectionOf r.selection = some x := by
  unfold outputWriteOf at h
  simp only [Option.bind_eq_bind, Option.bind_eq_some_iff, Option.pure_def, Option.some.injEq, Prod.mk.injEq] at h
  obtain ⟨output, houtput, selection, hselection, rfl, rfl⟩ := h
  exact ⟨(toFin_eq_some.mp houtput).symm, hselection⟩

end Sys2Proof.Machine
end

section
/-! SUPPORT. What WRITE PAIR and ENABLE PAIR write (R80 to R82): one pair and its two cells, priming, forcing. -/

namespace Sys2Proof

open Sys2Proof.Machine

/-- Only pair k and its two cells differ. -/
structure OnlyPair (k : Fin 6) (s t : State) : Prop where
  frame : t = { s with cells := t.cells, pairs := t.pairs }
  pair : ∀ j, j ≠ k → t.pair j = s.pair j
  cell : ∀ n, pairOf n ≠ k → t.cell n = s.cell n

theorem OnlyPair.trans {k : Fin 6} {s t u : State} (h : OnlyPair k s t) (g : OnlyPair k t u) : OnlyPair k s u := by
  refine ⟨?_, fun j hj => (g.pair j hj).trans (h.pair j hj), fun n hn => (g.cell n hn).trans (h.cell n hn)⟩
  have e := g.frame
  rw [h.frame] at e; exact e

end Sys2Proof

namespace Sys2Proof.Machine

theorem updPair_onlyPair (k : Fin 6) (f : Pair → Pair) (s : State) : OnlyPair k s (s.updPair k f) :=
  ⟨rfl, fun _ hj => (State.updPair_pair ..).trans (if_neg hj), fun _ _ => rfl⟩

theorem updCell_onlyPair {n : Fin 12} {k : Fin 6} (hn : pairOf n = k) (f : Cell → Cell) (s : State) : OnlyPair k s (s.updCell n f) :=
  ⟨rfl, fun _ _ => rfl, fun m hm => (State.updCell_cell ..).trans (if_neg fun e => hm (by rw [e]; exact hn))⟩

/-! ## The raw output reads little (R69, R70) -/

/-- What a cell's raw output reads of the array: the cell's configuration and the filtered output of its LINK. -/
theorem rawOutput_congr {s t : State} {n : Fin 12} (hframe : t = { s with cells := t.cells, pairs := t.pairs })
    (hcfg : (t.cell n).cfg = (s.cell n).cfg) (hlink : t.filteredOut (linkCell n) = s.filteredOut (linkCell n)) (out : Bool) :
    rawOutput t n out = rawOutput s n out := by
  have hvalue : inputValue t n out = inputValue s n out := by
    funext sel
    cases sel with
    | link => exact hlink
    | line k => show t.lines.getLsbD _ = _; rw [hframe]; rfl
    | laneOut l => show t.laneOut l = _; rw [hframe]; rfl
    | alertAny => show t.alertAny = _; rw [hframe]; rfl
    | low => rfl
    | pair => rfl
  unfold rawOutput
  rw [hvalue, hcfg]

theorem rawOutput_ports {s t : State} (h : PortsOnly s t) (n : Fin 12) (out : Bool) : rawOutput t n out = rawOutput s n out := by
  unfold PortsOnly at h; rw [h]; rfl

theorem filteredOut_of_onlyPair {k : Fin 6} {s t : State} (h : OnlyPair k s t) {n : Fin 12} (hn : pairOf n ≠ k) :
    t.filteredOut n = s.filteredOut n := by
  unfold State.filteredOut; rw [h.pair _ hn, h.cell n hn]

/-- An odd cell's LINK lies in the next pair, an even cell's is its own pair's odd cell (R69). -/
theorem pairOf_linkCell_oddCell (k : Fin 6) : pairOf (linkCell (oddCell k)) ≠ k := by revert k; decide
theorem linkCell_evenCell (k : Fin 6) : linkCell (evenCell k) = oddCell k := by revert k; decide

/-! ## Priming (R81) -/

section Prime

variable (k : Fin 6) (s : State)

theorem enabledPair_onlyPair : OnlyPair k s (enabledPair k s) := updPair_onlyPair ..

theorem primeCell_onlyPair {n : Fin 12} {k : Fin 6} (hn : pairOf n = k) (s : State) : OnlyPair k s (primeCell n s) := by
  unfold primeCell; exact updCell_onlyPair hn ..

theorem primeCell_cell_self (n : Fin 12) : (primeCell n s).cell n =
    { s.cell n with raw := rawOutput s n false, filtered := rawOutput s n false, timer := none } := by
  unfold primeCell; exact State.updCell_cell_self ..

theorem primeCell_cell_other {n m : Fin 12} (h : m ≠ n) : (primeCell n s).cell m = s.cell m := by
  unfold primeCell; exact (State.updCell_cell ..).trans (if_neg h)

/-- What is left of a priming once its odd cell is primed. -/
theorem primeCell_oddCell_primePair : OnlyPair k (primeCell (oddCell k) (enabledPair k s)) (primePair k s) :=
  primePair_eq k s ▸ (primeCell_onlyPair (pairOf_evenCell k) _).trans (updPair_onlyPair ..)

theorem primePair_onlyPair : OnlyPair k s (primePair k s) :=
  ((enabledPair_onlyPair k s).trans (primeCell_onlyPair (pairOf_oddCell k) _)).trans (primeCell_oddCell_primePair k s)

theorem primePair_pair_self : (primePair k s).pair k =
    { s.pair k with enable := true, output := false, oddSeen := ((primePair k s).cell (oddCell k)).filtered } := by
  have henabled : (primedCells k s).pair k = { s.pair k with enable := true, output := false } := by
    rw [primedCells_pair]; exact State.updPair_pair_self ..
  rw [primePair_eq, State.updPair_pair_self, henabled]; rfl

theorem primePair_cell_odd : (primePair k s).cell (oddCell k) = (primeCell (oddCell k) (enabledPair k s)).cell (oddCell k) :=
  primeCell_cell_other _ (evenCell_ne_oddCell k).symm

/-- The odd cell is primed with its raw output, which reads neither of the two cells. -/
theorem primePair_oddCell : (primePair k s).cell (oddCell k) =
    { s.cell (oddCell k) with
      raw := rawOutput (primePair k s) (oddCell k) false, filtered := rawOutput (primePair k s) (oddCell k) false, timer := none } := by
  have hself := (primePair_cell_odd k s).trans (primeCell_cell_self (enabledPair k s) (oddCell k))
  have honly : OnlyPair k (enabledPair k s) (primePair k s) :=
    (primeCell_onlyPair (pairOf_oddCell k) _).trans (primeCell_oddCell_primePair k s)
  have hraw : rawOutput (primePair k s) (oddCell k) false = rawOutput (enabledPair k s) (oddCell k) false :=
    rawOutput_congr honly.frame (by rw [hself]) (filteredOut_of_onlyPair honly (pairOf_linkCell_oddCell k)) false
  rw [hraw, hself]; rfl

/-- The even cell is primed with its raw output, which may read the odd cell as it was primed before. -/
theorem primePair_evenCell : (primePair k s).cell (evenCell k) =
    { s.cell (evenCell k) with
      raw := rawOutput (primePair k s) (evenCell k) false, filtered := rawOutput (primePair k s) (evenCell k) false, timer := none } := by
  have hself : (primePair k s).cell (evenCell k) = _ := primeCell_cell_self (primeCell (oddCell k) (enabledPair k s)) (evenCell k)
  have hlink : (primePair k s).filteredOut (linkCell (evenCell k)) =
      (primeCell (oddCell k) (enabledPair k s)).filteredOut (linkCell (evenCell k)) := by
    have hen : ((primeCell (oddCell k) (enabledPair k s)).pair k).enable = true := enabledPair_enable k s
    unfold State.filteredOut
    rw [linkCell_evenCell, pairOf_oddCell, primePair_cell_odd, primePair_pair_self, hen]
  have hraw := rawOutput_congr (primeCell_oddCell_primePair k s).frame (by rw [hself]) hlink false
  rw [hraw, hself, primeCell_cell_other _ (evenCell_ne_oddCell k)]; rfl

end Prime

/-! ## Forcing (R82) -/

section Force

variable (k : Fin 6) (s : State)

theorem forceCell_onlyPair {n : Fin 12} {k : Fin 6} (hn : pairOf n = k) (s : State) : OnlyPair k s (forceCell n s) := updCell_onlyPair hn ..

theorem forcePair_onlyPair : OnlyPair k s (forcePair k s) :=
  ((forceCell_onlyPair (pairOf_oddCell k) s).trans (forceCell_onlyPair (pairOf_evenCell k) _)).trans (updPair_onlyPair ..)

theorem forcePair_pair_self :
    (forcePair k s).pair k = { s.pair k with enable := false, output := false, oddSeen := false } := State.updPair_pair_self ..

theorem forceCell_cell (n m : Fin 12) :
    (forceCell n s).cell m = if m = n then { s.cell n with raw := false, filtered := false, timer := none } else s.cell m := by
  unfold forceCell; exact State.updCell_cell ..

theorem forcePair_cell {n : Fin 12} (hn : n = evenCell k ∨ n = oddCell k) :
    (forcePair k s).cell n = { s.cell n with raw := false, filtered := false, timer := none } := by
  have hcells : (forcePair k s).cell n = (forceCell (evenCell k) (forceCell (oddCell k) s)).cell n := rfl
  rw [hcells]
  rcases hn with e | e <;> subst e
  · rw [forceCell_cell, if_pos rfl, forceCell_cell, if_neg (evenCell_ne_oddCell k)]
  · rw [forceCell_cell, if_neg (evenCell_ne_oddCell k).symm, forceCell_cell, if_pos rfl]

end Force

/-! ## The blocks' answers (R80, R81) -/

/-- A written pair, with its cells' new configurations (R80). -/
def writtenPair (k : Fin 6) (mode : ElementMode) (even odd : CellConfig) (s : State) : State :=
  ((s.updCell (evenCell k) fun c => { c with cfg := even }).updCell (oddCell k) fun c => { c with cfg := odd }).updPair k
    fun P => { P with mode := mode, revision := P.revision + 1 }

/-- A pair with its next revision (R81). -/
def revisedPair (k : Fin 6) (s : State) : State := s.updPair k fun P => { P with revision := P.revision + 1 }

/-- What an accepted ENABLE PAIR leaves (R81, R82). -/
def enableResult (k : Fin 6) (en : Bool) (s : State) : State :=
  if en = (s.pair k).enable then revisedPair k s
  else if en then primePair k (revisedPair k s)
  else forcePair k (revisedPair k s)

theorem writtenPair_pair_self (k : Fin 6) (mode : ElementMode) (even odd : CellConfig) (s : State) :
    (writtenPair k mode even odd s).pair k = { s.pair k with mode := mode, revision := (s.pair k).revision + 1 } :=
  State.updPair_pair_self ..

theorem writtenPair_onlyPair (k : Fin 6) (mode : ElementMode) (even odd : CellConfig) (s : State) :
    OnlyPair k s (writtenPair k mode even odd s) :=
  ((updCell_onlyPair (pairOf_evenCell k) _ s).trans (updCell_onlyPair (pairOf_oddCell k) _ _)).trans (updPair_onlyPair ..)

theorem writtenPair_cell (k : Fin 6) (mode : ElementMode) (even odd : CellConfig) (s : State) (n : Fin 12) :
    (writtenPair k mode even odd s).cell n =
      if n = evenCell k then { s.cell n with cfg := even } else if n = oddCell k then { s.cell n with cfg := odd } else s.cell n := by
  unfold writtenPair
  rw [State.updPair_cell, State.updCell_cell]
  by_cases hodd : n = oddCell k
  · subst hodd
    rw [if_pos rfl, if_neg (evenCell_ne_oddCell k).symm, if_pos rfl, State.updCell_cell, if_neg (evenCell_ne_oddCell k).symm]
  · rw [if_neg hodd, if_neg hodd, State.updCell_cell]
    split
    · rename_i heven; subst heven; rfl
    · rfl

theorem revisedPair_pair_self (k : Fin 6) (s : State) :
    (revisedPair k s).pair k = { s.pair k with revision := (s.pair k).revision + 1 } := State.updPair_pair_self ..

theorem enableResult_onlyPair (k : Fin 6) (en : Bool) (s : State) : OnlyPair k s (enableResult k en s) := by
  have hrevised : OnlyPair k s (revisedPair k s) := updPair_onlyPair ..
  unfold enableResult; split
  · exact hrevised
  · split
    · exact hrevised.trans (primePair_onlyPair ..)
    · exact hrevised.trans (forcePair_onlyPair ..)

section Answers

variable {p : Fin 4} {s : State} {k : Fin 6} {e : Option Byte}

theorem goodFrame_cell (p : Fin 4) (s : State) (n : Fin 12) : (goodFrame p s).cell n = s.cell n := (goodFrame_ports p s).arrayKept.cell n

/-- An answer from a state whose cells and pairs alone were written since the frame. -/
theorem answer_onlyPair {k : Fin 6} {g x : State} (h : OnlyPair k g x) (p : Fin 4) (r : Req) (c : ReplyCode) (b : ReplyBody) :
    answer p r c b x = answer p r c b { g with cells := (answer p r c b x).cells, pairs := (answer p r c b x).pairs } :=
  congrArg (answer p r c b) h.frame

section Write

variable {r : RawPair} {mode : ElementMode} {even odd : CellConfig}

theorem exec_writePair_range (ha : Accepts p .writePair s) (h : pairWriteOf r = none) :
    exec (.writePair p r) s = .next (answer p .writePair .range .none (goodFrame p s)) :=
  congrArg _ (takeRequest_eq ha (by unfold writePairAct; rw [h]; rfl))

theorem exec_writePair_stale (ha : Accepts p .writePair s) (h : pairWriteOf r = some (k, mode, even, odd, e))
    (hstale : ∃ v, e = some v ∧ v ≠ (s.pair k).revision) :
    exec (.writePair p r) s = .next (answer p .writePair .stale (.revision (s.pair k).revision) (goodFrame p s)) := by
  refine congrArg _ (takeRequest_eq ha ?_)
  unfold writePairAct; rw [h]; dsimp only
  rw [goodFrame_pair]
  exact if_pos (expected_any.mpr hstale)

theorem exec_writePair_busy (ha : Accepts p .writePair s) (h : pairWriteOf r = some (k, mode, even, odd, e))
    (hfresh : ¬∃ v, e = some v ∧ v ≠ (s.pair k).revision) (hen : (s.pair k).enable = true) :
    exec (.writePair p r) s = .next (answer p .writePair .busy .none (goodFrame p s)) := by
  refine congrArg _ (takeRequest_eq ha ?_)
  unfold writePairAct; rw [h]; dsimp only
  rw [goodFrame_pair]
  exact (if_neg (expected_any.not.mpr hfresh)).trans (if_pos hen)

theorem exec_writePair_ok (ha : Accepts p .writePair s) (h : pairWriteOf r = some (k, mode, even, odd, e))
    (hfresh : ¬∃ v, e = some v ∧ v ≠ (s.pair k).revision) (hen : (s.pair k).enable = false) :
    exec (.writePair p r) s = .next (answer p .writePair .ok (.revision ((s.pair k).revision + 1))
      (writtenPair k mode even odd (goodFrame p s))) := by
  refine congrArg _ (takeRequest_eq ha ?_)
  unfold writePairAct; rw [h]; dsimp only
  rw [goodFrame_pair]
  exact (if_neg (expected_any.not.mpr hfresh)).trans (if_neg (by rw [hen]; decide))

end Write

section Enable

variable {r : RawEnable} {en : Bool}

theorem exec_enablePair_range (ha : Accepts p .enablePair s) (h : enableWriteOf r = none) :
    exec (.enablePair p r) s = .next (answer p .enablePair .range .none (goodFrame p s)) :=
  congrArg _ (takeRequest_eq ha (by unfold enablePairAct; rw [h]; rfl))

theorem exec_enablePair_stale (ha : Accepts p .enablePair s) (h : enableWriteOf r = some (k, en, e))
    (hstale : ∃ v, e = some v ∧ v ≠ (s.pair k).revision) :
    exec (.enablePair p r) s = .next (answer p .enablePair .stale (.revision (s.pair k).revision) (goodFrame p s)) := by
  refine congrArg _ (takeRequest_eq ha ?_)
  unfold enablePairAct; rw [h]; dsimp only
  rw [goodFrame_pair]
  exact if_pos (expected_any.mpr hstale)

theorem exec_enablePair_ok (ha : Accepts p .enablePair s) (h : enableWriteOf r = some (k, en, e))
    (hfresh : ¬∃ v, e = some v ∧ v ≠ (s.pair k).revision) :
    exec (.enablePair p r) s = .next (answer p .enablePair .ok (.revision ((s.pair k).revision + 1))
      (enableResult k en (goodFrame p s))) := by
  refine congrArg _ (takeRequest_eq ha ?_)
  unfold enablePairAct enableResult; rw [h]; dsimp only
  rw [goodFrame_pair, if_neg (expected_any.not.mpr hfresh)]
  cases (s.pair k).enable <;> cases en <;> rfl

end Enable

theorem exec_setCueOutput_range {r : RawOutput} (ha : Accepts p .setCueOutput s) (h : outputWriteOf r = none) :
    exec (.setCueOutput p r) s = .next (answer p .setCueOutput .range .none (goodFrame p s)) :=
  congrArg _ (takeRequest_eq ha (by unfold setCueOutputAct; rw [h]; rfl))

theorem exec_setCueOutput_ok {r : RawOutput} {o : Fin 8} {x : OutputSelection} (ha : Accepts p .setCueOutput s)
    (h : outputWriteOf r = some (o, x)) :
    exec (.setCueOutput p r) s = .next (answer p .setCueOutput .ok .none ((goodFrame p s).setOutput o x)) :=
  congrArg _ (takeRequest_eq ha (by unfold setCueOutputAct; rw [h]))

end Answers

end Sys2Proof.Machine
end

section
/-! Cue logic: WRITE PAIR, ENABLE PAIR and SET CUE OUTPUT. -/

namespace Sys2Proof.Certificates

open Sys2Proof.Machine

/-- What an accepted ENABLE PAIR leaves of the array, by the change of the enable (R81, R82). -/
theorem enableResult_cases (k : Fin 6) (en : Bool) (s : State) :
    let P := s.pair k
    let t := enableResult k en s
    (en = P.enable → t.pair k = { P with revision := P.revision + 1 } ∧ ∀ n, t.cell n = s.cell n) ∧
    (P.enable = true → en = false →
      t.pair k = { P with revision := P.revision + 1, enable := false, output := false, oddSeen := false } ∧
      ∀ n, n = evenCell k ∨ n = oddCell k → t.cell n = { s.cell n with raw := false, filtered := false, timer := none }) ∧
    (P.enable = false → en = true →
      t.pair k = { P with revision := P.revision + 1, enable := true, output := false, oddSeen := (t.cell (oddCell k)).filtered } ∧
      ∀ n, n = evenCell k ∨ n = oddCell k →
        t.cell n = { s.cell n with raw := rawOutput t n false, filtered := rawOutput t n false, timer := none }) := by
  refine ⟨fun hsame => ?_, fun hon hoff => ?_, fun hoff hon => ?_⟩
  · rw [show enableResult k en s = revisedPair k s from if_pos hsame]
    exact ⟨revisedPair_pair_self k s, fun _ => rfl⟩
  · rw [show enableResult k en s = forcePair k (revisedPair k s) by unfold enableResult; rw [hon, hoff]; rfl]
    exact ⟨by rw [forcePair_pair_self, revisedPair_pair_self], fun n => forcePair_cell k (revisedPair k s)⟩
  · rw [show enableResult k en s = primePair k (revisedPair k s) by unfold enableResult; rw [hon, hoff]; rfl]
    refine ⟨(primePair_pair_self k (revisedPair k s)).trans (by rw [revisedPair_pair_self]), fun n hn => ?_⟩
    rcases hn with e | e <;> subst e
    · exact primePair_evenCell k (revisedPair k s)
    · exact primePair_oddCell k (revisedPair k s)

/-- An accepted WRITE PAIR (R80). -/
theorem writePair_accepted {p : Fin 4} {r : RawPair} {s : State} {k : Fin 6} {mode : ElementMode} {even odd : CellConfig}
    {e : Option Byte} (ha : Accepts p .writePair s) (h : pairWriteOf r = some (k, mode, even, odd, e))
    (hfresh : ¬∃ v, e = some v ∧ v ≠ (s.pair k).revision) (hen : (s.pair k).enable = false) :
    let P := s.pair k
    ∃ t, exec (.writePair p r) s = .next t ∧
      t = answer p .writePair .ok (.revision (P.revision + 1)) { goodFrame p s with cells := t.cells, pairs := t.pairs } ∧
      (t.port p).reply = some { request := 15, outcome := .ok, body := .revision (P.revision + 1) } ∧
      t.pair k = { P with mode := mode, revision := P.revision + 1 } ∧ (∀ j, j ≠ k → t.pair j = s.pair j) ∧
      ∀ n, t.cell n = if n = evenCell k then { s.cell n with cfg := even } else if n = oddCell k then { s.cell n with cfg := odd }
        else s.cell n := by
  intro P
  have honly := writtenPair_onlyPair k mode even odd (goodFrame p s)
  refine ⟨_, exec_writePair_ok ha h hfresh hen, answer_onlyPair honly .., answer_reply .., ?_, fun j hj => ?_, fun n => ?_⟩
  · rw [(answer_ports ..).arrayKept.pair, writtenPair_pair_self, goodFrame_pair]
  · rw [(answer_ports ..).arrayKept.pair, honly.pair j hj, goodFrame_pair]
  · rw [(answer_ports ..).arrayKept.cell, writtenPair_cell, goodFrame_cell]

/-- An accepted ENABLE PAIR (R81, R82). -/
theorem enablePair_accepted {p : Fin 4} {r : RawEnable} {s : State} {k : Fin 6} {en : Bool} {e : Option Byte}
    (ha : Accepts p .enablePair s) (h : enableWriteOf r = some (k, en, e)) (hfresh : ¬∃ v, e = some v ∧ v ≠ (s.pair k).revision) :
    let P := s.pair k
    ∃ t, exec (.enablePair p r) s = .next t ∧
      t = answer p .enablePair .ok (.revision (P.revision + 1)) { goodFrame p s with cells := t.cells, pairs := t.pairs } ∧
      (t.port p).reply = some { request := 16, outcome := .ok, body := .revision (P.revision + 1) } ∧
      (∀ j, j ≠ k → t.pair j = s.pair j) ∧ (∀ n, n ≠ evenCell k → n ≠ oddCell k → t.cell n = s.cell n) ∧
      (en = P.enable → t.pair k = { P with revision := P.revision + 1 } ∧ ∀ n, t.cell n = s.cell n) ∧
      (P.enable = true → en = false →
        t.pair k = { P with revision := P.revision + 1, enable := false, output := false, oddSeen := false } ∧
        ∀ n, n = evenCell k ∨ n = oddCell k → t.cell n = { s.cell n with raw := false, filtered := false, timer := none }) ∧
      (P.enable = false → en = true →
        t.pair k = { P with revision := P.revision + 1, enable := true, output := false, oddSeen := (t.cell (oddCell k)).filtered } ∧
        ∀ n, n = evenCell k ∨ n = oddCell k →
          t.cell n = { s.cell n with raw := rawOutput t n false, filtered := rawOutput t n false, timer := none }) := by
  intro P
  have honly := enableResult_onlyPair k en (goodFrame p s)
  have hcases := enableResult_cases k en (goodFrame p s)
  simp only [goodFrame_pair, goodFrame_cell] at hcases
  obtain ⟨hsame, hforced, hprimed⟩ := hcases
  refine ⟨_, exec_enablePair_ok ha h hfresh, answer_onlyPair honly .., answer_reply .., fun j hj => ?_, fun n heven hodd => ?_, hsame,
    hforced, fun hoff hon => ?_⟩
  · exact (honly.pair j hj).trans (goodFrame_pair ..)
  · exact (honly.cell n fun hn => (pairOf_eq_iff.mp hn).elim heven hodd).trans (goodFrame_cell ..)
  · obtain ⟨hpair, hcells⟩ := hprimed hoff hon
    refine ⟨hpair, fun n hn => ?_⟩
    rw [rawOutput_ports (answer_ports ..)]
    exact hcells n hn

/-- Settles O46: the fields of each request, its refusals, and what it writes when it is accepted. -/
theorem pairRequests : Obligations.PairRequests :=
  ⟨fun _ => ⟨pairWriteOf_eq_none, fun _ _ _ _ _ => pairWriteOf_eq_some⟩,
    fun _ => ⟨enableWriteOf_eq_none, fun _ _ _ => enableWriteOf_eq_some⟩,
    fun _ => ⟨outputWriteOf_eq_none, fun _ _ h =>
      have ⟨ho, hx⟩ := outputWriteOf_eq_some h
      ⟨ho, outputSelectionOf_eq_some hx⟩⟩,
    fun _ _ _ ha => ⟨exec_writePair_range ha, fun _ _ _ _ _ h =>
      ⟨exec_writePair_stale ha h, exec_writePair_busy ha h, writePair_accepted ha h⟩⟩,
    fun _ _ _ ha => ⟨exec_enablePair_range ha, fun _ _ _ h => ⟨exec_enablePair_stale ha h, enablePair_accepted ha h⟩⟩,
    fun _ _ _ ha => ⟨exec_setCueOutput_range ha, fun _ _ => exec_setCueOutput_ok ha⟩⟩

end Sys2Proof.Certificates
end

section
/-! SUPPORT. The fields of WRITE FILTER (R86, R198), and what WRITE FILTER, READ HIT and TAKE STRAY answer (R88, R97, R100). -/

namespace Sys2Proof.Machine

/-! ## The fields of WRITE FILTER (R86, R88) -/

theorem originMatchOf_eq_getElem (b : Byte) : originMatchOf b = [OriginMatch.inband, .cell, .any][b.toNat]? := by
  unfold originMatchOf
  match b.toNat with
  | 0 | 1 | 2 => rfl
  | n + 3 => rfl

theorem filterActionOf_eq_getElem (b : Byte) : filterActionOf b = [FilterAction.arm, .forward, .drop][b.toNat]? := by
  unfold filterActionOf
  match b.toNat with
  | 0 | 1 | 2 => rfl
  | n + 3 => rfl

theorem originMatchOf_eq_none {b : Byte} : originMatchOf b = none ↔ 2 < b.toNat := by
  rw [originMatchOf_eq_getElem, List.getElem?_eq_none_iff]; rfl
theorem filterActionOf_eq_none {b : Byte} : filterActionOf b = none ↔ 2 < b.toNat := by
  rw [filterActionOf_eq_getElem, List.getElem?_eq_none_iff]; rfl

/-- A feed is refused above 31, unless it is ANY (R86, R198). -/
theorem feedOrAny_eq_none {b : Byte} : anyOr (toFin 32) b = none ↔ 31 < b.toNat ∧ b.toNat ≠ 255 := by
  unfold anyOr; split
  · rename_i h; simp [eq_255_iff.mp h]
  · rename_i h
    rw [Option.map_eq_none_iff, toFin_eq_none]
    exact ⟨fun hge => ⟨hge, fun e => h (eq_255_iff.mpr e)⟩, And.left⟩

theorem feedOrAny_eq_some {b : Byte} {x : Option (Fin 32)} (hx : anyOr (toFin 32) b = some x) :
    x.map Fin.val = if b.toNat = 255 then none else some b.toNat := by
  unfold anyOr at hx; split at hx
  · rename_i h; cases hx
    rw [if_pos (eq_255_iff.mp h)]; rfl
  · rename_i h
    obtain ⟨f, hf, rfl⟩ := Option.map_eq_some_iff.mp hx
    rw [if_neg fun e => h (eq_255_iff.mpr e), toFin_eq_some.mp hf]; rfl

/-- The class range is refused where it is empty (R86); a byte never exceeds its upper end. -/
theorem classRange_eq_none {low high : Byte} : within low.toNat 255 high.toNat = none ↔ high.toNat < low.toNat := by
  have hhigh : high.toNat < 256 := high.isLt
  rw [within_eq_none]; omega

theorem filterWriteOf_eq_none {r : RawFilter} : filterWriteOf r = none ↔
    47 < r.filter.toNat ∨ 1 < r.enable.toNat ∨ (31 < r.feed.toNat ∧ r.feed.toNat ≠ 255) ∨ 15 < r.kinds.toNat ∨ 2 < r.origin.toNat ∨
      2 < r.action.toNat ∨ 1 < r.notify.toNat ∨ r.classHigh.toNat < r.classLow.toNat ∨ r.expected.undefinedPresent = true := by
  refine bind_eq_none_or toFin_eq_none fun _ _ => bind_eq_none_or toFlag_eq_none fun _ _ => bind_eq_none_or feedOrAny_eq_none fun _ _ =>
    bind_eq_none_or within_zero_eq_none fun _ _ => bind_eq_none_or originMatchOf_eq_none fun _ _ =>
    bind_eq_none_or filterActionOf_eq_none fun _ _ => bind_eq_none_or toFlag_eq_none fun _ _ =>
    bind_eq_none_or classRange_eq_none fun _ _ => ?_
  rw [← or_false (r.expected.undefinedPresent = true)]
  exact bind_eq_none_or check_eq_none fun _ _ => ⟨fun h => (nomatch h), False.elim⟩

theorem filterWriteOf_eq_some {r : RawFilter} {i : Fin 48} {cfg : FilterConfig} {e : Option Byte} (h : filterWriteOf r = some (i, cfg, e)) :
    i.val = r.filter.toNat ∧ cfg.enable = decide (r.enable.toNat = 1) ∧
      cfg.feed.map Fin.val = (if r.feed.toNat = 255 then none else some r.feed.toNat) ∧ cfg.kinds.toNat = r.kinds.toNat ∧
      cfg.idValue = r.idValue ∧ cfg.idMask = r.idMask ∧ cfg.classLow = r.classLow ∧ cfg.classHigh = r.classHigh ∧
      [OriginMatch.inband, .cell, .any][r.origin.toNat]? = some cfg.origin ∧
      [FilterAction.arm, .forward, .drop][r.action.toNat]? = some cfg.action ∧ cfg.notify = decide (r.notify.toNat = 1) ∧
      cfg.lanes = r.lanes ∧ OptSpells r.expected e := by
  unfold filterWriteOf at h
  simp only [Option.bind_eq_bind, Option.bind_eq_some_iff, Option.pure_def, Option.some.injEq, Prod.mk.injEq] at h
  obtain ⟨filter, hfilter, enable, henable, feed, hfeed, kinds, hkinds, origin, horigin, action, haction, notify, hnotify, -, -, expected,
    hexpected, rfl, rfl, rfl⟩ := h
  obtain ⟨rfl, -, kinds_le⟩ := within_eq_some hkinds
  rw [originMatchOf_eq_getElem] at horigin
  rw [filterActionOf_eq_getElem] at haction
  have kinds_eq : (BitVec.ofNat 4 r.kinds.toNat).toNat = r.kinds.toNat := by
    rw [BitVec.toNat_ofNat]; exact Nat.mod_eq_of_lt (by omega)
  exact ⟨(toFin_eq_some.mp hfilter).symm, toFlag_eq_some henable, feedOrAny_eq_some hfeed, kinds_eq, rfl, rfl, rfl, rfl, horigin, haction,
    toFlag_eq_some hnotify, rfl, check_eq_some hexpected⟩

/-! ## The answers (R88, R97, R100) -/

section Answers

variable {p : Fin 4} {s : State} {i : Fin 48}

theorem exec_writeFilter_range {r : RawFilter} (ha : Accepts p .writeFilter s) (h : filterWriteOf r = none) :
    exec (.writeFilter p r) s = .next (answer p .writeFilter .range .none (goodFrame p s)) :=
  congrArg _ (takeRequest_eq ha (by unfold writeFilterAct; rw [h]; rfl))

theorem exec_writeFilter_stale {r : RawFilter} {cfg : FilterConfig} {e : Option Byte} (ha : Accepts p .writeFilter s)
    (h : filterWriteOf r = some (i, cfg, e)) (hstale : ∃ v, e = some v ∧ v ≠ (s.filter i).revision) :
    exec (.writeFilter p r) s = .next (answer p .writeFilter .stale (.revision (s.filter i).revision) (goodFrame p s)) := by
  refine congrArg _ (takeRequest_eq ha ?_)
  unfold writeFilterAct; rw [h]; dsimp only
  rw [goodFrame_filter]
  exact if_pos (expected_any.mpr hstale)

theorem exec_writeFilter_ok {r : RawFilter} {cfg : FilterConfig} {e : Option Byte} (ha : Accepts p .writeFilter s)
    (h : filterWriteOf r = some (i, cfg, e)) (hfresh : ∀ v ∈ e, v = (s.filter i).revision) :
    exec (.writeFilter p r) s = .next (answer p .writeFilter .ok (.revision ((s.filter i).revision + 1))
      ((goodFrame p s).updFilter i fun F => { F with cfg := cfg, revision := F.revision + 1 })) := by
  have hnot : ¬∃ v, e = some v ∧ v ≠ (s.filter i).revision := fun ⟨v, hv, hne⟩ => hne (hfresh v hv)
  refine congrArg _ (takeRequest_eq ha ?_)
  unfold writeFilterAct; rw [h]; dsimp only
  rw [goodFrame_filter]
  exact if_neg (expected_any.not.mpr hnot)

theorem exec_readHit_range {b : Byte} (ha : Accepts p .readHit s) (h : 48 ≤ b.toNat) :
    exec (.readHit p b) s = .next (answer p .readHit .range .none (goodFrame p s)) :=
  congrArg _ (takeRequest_eq ha (by unfold readHitAct; rw [toFin_eq_none.mpr h]; rfl))

theorem exec_readHit_ok {b : Byte} (ha : Accepts p .readHit s) (h : b.toNat = i.val) :
    exec (.readHit p b) s = .next (answer p .readHit .ok (.hit (s.filter i).hit)
      ((goodFrame p s).updFilter i fun F => { F with hit := { F.hit with unread := false, overwritten := false } })) :=
  congrArg _ (takeRequest_eq ha (by unfold readHitAct; rw [toFin_eq_some.mpr h]; dsimp only; rw [goodFrame_filter]))

@[simp] theorem goodFrame_strays (p : Fin 4) (s : State) : (goodFrame p s).strays = s.strays := by rw [goodFrame_frame]
@[simp] theorem goodFrame_strayOverruns (p : Fin 4) (s : State) : (goodFrame p s).strayOverruns = s.strayOverruns := by
  rw [goodFrame_frame]

theorem exec_takeStray_empty (ha : Accepts p .takeStray s) (h : s.strays = []) :
    exec (.takeStray p) s = .next (answer p .takeStray .empty .none (goodFrame p s)) :=
  congrArg _ (takeRequest_eq ha (by unfold takeStrayAct; rw [goodFrame_strays, h]; rfl))

theorem exec_takeStray_ok {x : Stray} {rest : List Stray} (ha : Accepts p .takeStray s) (h : s.strays = x :: rest) :
    exec (.takeStray p) s =
      .next (answer p .takeStray .ok (.stray x rest.length s.strayOverruns) { goodFrame p s with strays := rest }) :=
  congrArg _ (takeRequest_eq ha (by unfold takeStrayAct; rw [goodFrame_strays, h]; dsimp only; rw [goodFrame_strayOverruns]))

end Answers

end Sys2Proof.Machine
end

section
/-! Filters: WRITE FILTER, READ HIT and TAKE STRAY. -/

namespace Sys2Proof.Certificates

open Sys2Proof.Machine

/-- Settles O48: the fields of WRITE FILTER, its refusals, and what each request writes when it is accepted. -/
theorem filterRequests : Obligations.FilterRequests :=
  ⟨fun _ => ⟨filterWriteOf_eq_none, fun _ _ _ => filterWriteOf_eq_some⟩,
    fun _ _ _ ha => ⟨exec_writeFilter_range ha, fun _ _ _ h => ⟨exec_writeFilter_stale ha h, exec_writeFilter_ok ha h⟩⟩,
    fun _ _ _ ha => ⟨exec_readHit_range ha, fun _ => exec_readHit_ok ha⟩,
    fun _ _ ha => ⟨exec_takeStray_empty ha, fun _ _ => exec_takeStray_ok ha⟩⟩

end Sys2Proof.Certificates
end

section
/-! SUPPORT. A delivered cue, part by part: the match of a filter (R91), the lanes an ARM filter arms (R92, R93), the hit (R95, R96) and the
stray (R98, R99). -/

namespace Sys2Proof

open Sys2Proof.Machine

theorem AvailsOnly.filter {s t : State} (h : AvailsOnly s t) (i : Fin 48) : t.filter i = s.filter i := by
  unfold AvailsOnly at h; rw [h]; rfl
theorem AvailsOnly.strays {s t : State} (h : AvailsOnly s t) : t.strays = s.strays := by unfold AvailsOnly at h; rw [h]

end Sys2Proof

namespace Sys2Proof.Machine

/-! ## Matching (R90, R91) -/

/-- Two words agree under a mask where they agree on each of its bits. -/
theorem and_eq_and_iff_getLsbD {w : Nat} {x y m : BitVec w} :
    x &&& m = y &&& m ↔ ∀ b : Nat, m.getLsbD b = true → x.getLsbD b = y.getLsbD b := by
  constructor
  · intro h b hb
    simpa [hb] using congrArg (fun v : BitVec w => v.getLsbD b) h
  · intro h
    refine BitVec.eq_of_getLsbD_eq fun b _ => ?_
    rw [BitVec.getLsbD_and, BitVec.getLsbD_and]
    cases hb : m.getLsbD b with
    | false => rw [Bool.and_false, Bool.and_false]
    | true => rw [h b hb]

theorem OriginMatch.takes_iff {o : OriginMatch} {c : CueOrigin} :
    o.takes c = true ↔ o = .any ∨ (o = .inband ∧ c = .inband) ∨ (o = .cell ∧ ∃ n, c = .cell n) := by
  cases o <;> cases c <;> simp [OriginMatch.takes]

theorem FilterConfig.matches_iff {f : FilterConfig} {c : Cue} : f.matches c = true ↔
    (∀ x ∈ f.feed, x = c.feed) ∧ f.kinds.getLsbD (kindBit c.kind) = true ∧
    (∀ b : Nat, f.idMask.getLsbD b = true → c.eventId.getLsbD b = f.idValue.getLsbD b) ∧
    f.classLow.toNat ≤ c.cls.toNat ∧ c.cls.toNat ≤ f.classHigh.toNat ∧
    (f.origin = .any ∨ (f.origin = .inband ∧ c.origin = .inband) ∨ (f.origin = .cell ∧ ∃ n, c.origin = .cell n)) := by
  rw [← OriginMatch.takes_iff, ← and_eq_and_iff_getLsbD]
  unfold FilterConfig.matches
  simp only [Bool.and_eq_true, decide_eq_true_eq, and_assoc]
  refine and_congr_left fun _ => ?_
  cases f.feed <;> simp

/-- A filter is enabled and matches a cue (R90). -/
def Filter.Takes (F : Filter) (c : Cue) : Prop := F.cfg.enable = true ∧ F.cfg.matches c = true

theorem Filter.takes_iff {F : Filter} {c : Cue} : (F.cfg.enable && F.cfg.matches c) = true ↔ F.Takes c := Bool.and_eq_true_iff

theorem deliverCue_eq_takeStrayCue {c : Cue} {s : State} (h : ∀ i, ¬(s.filter i).Takes c) : deliverCue c s = takeStrayCue c s := by
  have hnone : takingFilter s c = none :=
    find?_finRange_eq_none fun i => Bool.eq_false_iff.mpr (Filter.takes_iff.not.mpr (h i))
  unfold deliverCue; rw [hnone]

theorem deliverCue_eq_takeHit {c : Cue} {s : State} {i : Fin 48} (h : (s.filter i).Takes c) (hlow : ∀ j < i, ¬(s.filter j).Takes c) :
    deliverCue c s = takeHit i c s := by
  have hsome : takingFilter s c = some i := find?_finRange_eq_some (Filter.takes_iff.mpr h) fun j hj =>
    Bool.eq_false_iff.mpr (Filter.takes_iff.not.mpr (hlow j hj))
  unfold deliverCue; rw [hsome]

/-! ## The lanes that are armed (R92, R93) -/

/-- One lane of an ARM filter's set takes the cue, and its result stands behind those before it. -/
def armStep (i : Fin 48) (c : Cue) (x : State × List (ReplyCode × Fin 32)) (l : Fin 32) : State × List (ReplyCode × Fin 32) :=
  ((cueAction i c l x.1).2, x.2 ++ [((cueAction i c l x.1).1, l)])

/-- A lane's result is not OK. -/
def resultFails (r : ReplyCode × Fin 32) : Bool := decide (r.1 ≠ .ok)

/-- The lanes one after the other, each with its result, come to what armLanes gives: the last state, and the first result that is not OK
(R93). -/
theorem foldl_armStep (i : Fin 48) (c : Cue) (ls : List (Fin 32)) (s : State) (rs : List (ReplyCode × Fin 32)) :
    (ls.foldl (armStep i c) (s, rs)).1 = (armLanes i c ls s).2 ∧
      (ls.foldl (armStep i c) (s, rs)).2.find? resultFails = (rs.find? resultFails).or (armLanes i c ls s).1 := by
  induction ls generalizing s rs with
  | nil => exact ⟨rfl, (Option.or_none ..).symm⟩
  | cons l ls ih =>
    obtain ⟨hstate, hfind⟩ := ih (cueAction i c l s).2 (rs ++ [((cueAction i c l s).1, l)])
    rw [List.foldl_cons, armStep, hstate, hfind, List.find?_append, Option.or_assoc, armLanes]
    by_cases hok : (cueAction i c l s).1 = .ok <;> simp [hok, resultFails]

theorem laneSetOf_getLsbD (ls : List (Fin 32)) (l : Fin 32) : (laneSetOf ls).getLsbD l.val = decide (l ∈ ls) := by
  induction ls with
  | nil => simp [laneSetOf]
  | cons k ls ih =>
    show (laneSetOf ls ||| BitVec.twoPow 32 k.val).getLsbD l.val = _
    rw [BitVec.getLsbD_or, ih, BitVec.getLsbD_twoPow]
    simp [Fin.ext_iff, eq_comm, Bool.or_comm]

/-- The lanes that an ARM filter's action is applied to are those that qualify (R92, R93). -/
theorem laneSetOf_qualifying (s : State) (f : FilterConfig) (c : Cue) (l : Fin 32) : (laneSetOf (qualifying s f c)).getLsbD l.val =
    (f.lanes.getLsbD l.val && decide ((s.lane l).state = .run) && decide ((s.lane l).cfg.feed = c.feed)) := by
  rw [laneSetOf_getLsbD, Bool.eq_iff_iff, decide_eq_true_iff, qualifying, List.mem_filter]
  exact and_iff_right (List.mem_finRange l)

/-! ## The actions (R92 to R94) -/

section Actions

variable {i : Fin 48} {c : Cue} {s : State}

theorem filterAct_drop (h : (s.filter i).cfg.action = .drop) :
    filterAct i c s = { outcome := .dropped, lane := none, applied := 0, state := s } := by unfold filterAct; simp only [h]

theorem filterAct_forward (h : (s.filter i).cfg.action = .forward) :
    filterAct i c s = { outcome := .forwarded, lane := none, applied := 0, state := s } := by unfold filterAct; simp only [h]

theorem filterAct_arm_mark (h : (s.filter i).cfg.action = .arm) (hk : c.kind = .mark) :
    filterAct i c s = { outcome := .ignoredKind, lane := none, applied := 0, state := s } := by
  unfold filterAct; simp only [h, hk, if_true]

/-- The outcome of an ARM filter's action: NO_LANE where no lane qualifies, otherwise OK or the first result that is not OK (R93). -/
def armOutcome (ls : List (Fin 32)) (failed : Option (ReplyCode × Fin 32)) : HitOutcome :=
  if ls = [] then .noLane
  else match failed with
    | none => .result .ok
    | some r => .result r.1

theorem filterAct_arm (h : (s.filter i).cfg.action = .arm) (hk : c.kind ≠ .mark) :
    filterAct i c s =
      let ls := qualifying s (s.filter i).cfg c
      let x := armLanes i c ls s
      { outcome := armOutcome ls x.1, lane := x.1.map Prod.snd, applied := laneSetOf ls, state := x.2 } := by
  unfold filterAct armOutcome; simp only [h, if_neg hk]
  split
  · rename_i hnone; rw [hnone]; rfl
  · cases (armLanes i c (qualifying s (s.filter i).cfg c) s).1 <;> rfl

/-! ## The hit (R95, R96) -/

/-- The hit record of the filter that takes a cue (R95). -/
def hitAfter (i : Fin 48) (c : Cue) (s : State) : HitRecord :=
  (s.filter i).hit.hit c s.tick (filterAct i c s).outcome (filterAct i c s).lane (filterAct i c s).applied

/-- A filter's hit record is replaced. -/
def recordHit (i : Fin 48) (H : HitRecord) (s : State) : State := s.updFilter i fun F => { F with hit := H }

/-- A filter that takes a cue: what its action left, with the new hit record, and CUE_HIT if it is raised (R95, R96). -/
theorem takeHit_eq (i : Fin 48) (c : Cue) (s : State) :
    takeHit i c s =
      let r := filterAct i c s
      let H := hitAfter i c s
      if (s.filter i).cfg.notifies then
        raise (.cueHit i (s.filter i).cfg.action c r.outcome r.lane r.applied H.count s.tick) [] (recordHit i H r.state)
      else recordHit i H r.state := by
  have hkept : (filterAct i c s).state.filter i = s.filter i := (filterAct_avails i c s).filter i
  have hrecord : (filterAct i c s).state.updFilter i (fun F =>
      { F with hit := F.hit.hit c s.tick (filterAct i c s).outcome (filterAct i c s).lane (filterAct i c s).applied }) =
      recordHit i (hitAfter i c s) (filterAct i c s).state := by
    unfold recordHit hitAfter State.updFilter; rw [hkept]
  unfold takeHit; dsimp only
  rw [hrecord]
  unfold recordHit; rw [State.updFilter_filter_self]

theorem takeHit_filter (i j : Fin 48) (c : Cue) (s : State) :
    (takeHit i c s).filter j = if j = i then { s.filter i with hit := hitAfter i c s } else s.filter j := by
  have hkept (k : Fin 48) : (filterAct i c s).state.filter k = s.filter k := (filterAct_avails i c s).filter k
  have hrecord : (takeHit i c s).filter j = (recordHit i (hitAfter i c s) (filterAct i c s).state).filter j := by
    rw [takeHit_eq]; dsimp only; split <;> rfl
  rw [hrecord, recordHit, State.updFilter_filter, hkept, hkept]

theorem takeHit_strays (i : Fin 48) (c : Cue) (s : State) : (takeHit i c s).strays = s.strays := by
  rw [takeHit_eq]; dsimp only
  have hkept := (filterAct_avails i c s).strays
  split <;> exact hkept

/-- CUE_HIT is raised for an ARM hit with notify 1 (R96). -/
theorem notifies_of_arm {f : FilterConfig} (h : f.action = .arm) : f.notifies = f.notify := by unfold FilterConfig.notifies; rw [h]
theorem notifies_of_forward {f : FilterConfig} (h : f.action = .forward) : f.notifies = true := by
  unfold FilterConfig.notifies; rw [h]
theorem notifies_of_drop {f : FilterConfig} (h : f.action = .drop) : f.notifies = false := by unfold FilterConfig.notifies; rw [h]

/-- A hit by what the filter's action came to: the fields of the hit record, and the state (R92 to R96). -/
theorem takeHit_of_filterAct {outcome : HitOutcome} {lane : Option (Fin 32)} {applied : LaneSet} {x : State}
    (h : filterAct i c s = { outcome := outcome, lane := lane, applied := applied, state := x }) :
    let H := hitAfter i c s
    H.outcome = some outcome ∧ H.outcomeLane = lane ∧ H.lanesApplied = applied ∧
      takeHit i c s =
        if (s.filter i).cfg.notifies then
          raise (.cueHit i (s.filter i).cfg.action c outcome lane applied H.count s.tick) [] (recordHit i H x)
        else recordHit i H x := by
  rw [takeHit_eq]; unfold hitAfter; rw [h]; exact ⟨rfl, rfl, rfl, rfl⟩

theorem takeHit_drop (h : (s.filter i).cfg.action = .drop) :
    let H := hitAfter i c s
    H.outcome = some .dropped ∧ H.outcomeLane = none ∧ H.lanesApplied = 0 ∧ takeHit i c s = recordHit i H s := by
  have hit := takeHit_of_filterAct (filterAct_drop (c := c) h)
  rw [notifies_of_drop h] at hit
  exact hit

theorem takeHit_forward (h : (s.filter i).cfg.action = .forward) :
    let H := hitAfter i c s
    H.outcome = some .forwarded ∧ H.outcomeLane = none ∧ H.lanesApplied = 0 ∧
      takeHit i c s = raise (.cueHit i .forward c .forwarded none 0 H.count s.tick) [] (recordHit i H s) := by
  have hit := takeHit_of_filterAct (filterAct_forward (c := c) h)
  rw [notifies_of_forward h, h] at hit
  exact hit

/-- An ARM filter ignores a MARK cue: no avail is touched (R92). -/
theorem takeHit_arm_mark (h : (s.filter i).cfg.action = .arm) (hk : c.kind = .mark) :
    let H := hitAfter i c s
    H.outcome = some .ignoredKind ∧ H.outcomeLane = none ∧ H.lanesApplied = 0 ∧ (takeHit i c s).avails = s.avails ∧
      takeHit i c s =
        if (s.filter i).cfg.notify then raise (.cueHit i .arm c .ignoredKind none 0 H.count s.tick) [] (recordHit i H s)
        else recordHit i H s := by
  obtain ⟨houtcome, hlane, happlied, hstate⟩ := takeHit_of_filterAct (filterAct_arm_mark h hk)
  rw [notifies_of_arm h, h] at hstate
  refine ⟨houtcome, hlane, happlied, ?_, hstate⟩
  rw [hstate]; split <;> rfl

/-- An ARM filter hands any other cue to the lanes that qualify, one after the other (R92, R93). -/
theorem takeHit_arm (h : (s.filter i).cfg.action = .arm) (hk : c.kind ≠ .mark) :
    let H := hitAfter i c s
    let lanes := qualifying s (s.filter i).cfg c
    let run := lanes.foldl (armStep i c) (s, [])
    let failed := run.2.find? resultFails
    let outcome := armOutcome lanes failed
    H.outcome = some outcome ∧ H.outcomeLane = failed.map Prod.snd ∧ H.lanesApplied = laneSetOf lanes ∧
      takeHit i c s =
        if (s.filter i).cfg.notify then
          raise (.cueHit i .arm c outcome H.outcomeLane H.lanesApplied H.count s.tick) [] (recordHit i H run.1)
        else recordHit i H run.1 := by
  obtain ⟨hrun, hfailed⟩ := foldl_armStep i c (qualifying s (s.filter i).cfg c) s []
  obtain ⟨houtcome, hlane, happlied, hstate⟩ := takeHit_of_filterAct (filterAct_arm h hk)
  rw [notifies_of_arm h, h] at hstate
  dsimp only
  rw [hrun, hfailed, hlane, happlied]
  exact ⟨houtcome, rfl, rfl, hstate⟩

end Actions

/-! ## The stray (R98, R99) -/

section Strays

variable {c : Cue} {s : State}

/-- A stray touches the stray buffer, its overrun count and the ports only. -/
theorem takeStrayCue_frame (c : Cue) (s : State) :
    takeStrayCue c s = { s with strays := (takeStrayCue c s).strays, strayOverruns := (takeStrayCue c s).strayOverruns
                                ports := (takeStrayCue c s).ports } := rfl

theorem takeStrayCue_nil (h : s.strays = []) :
    takeStrayCue c s = raise (.stray c s.tick 1 false s.strayOverruns) [] { s with strays := [{ cue := c, tick := s.tick }] } := by
  unfold takeStrayCue; rw [h]; rfl

theorem takeStrayCue_one {a : Stray} (h : s.strays = [a]) :
    takeStrayCue c s = raise (.stray c s.tick 2 false s.strayOverruns) [] { s with strays := [a, { cue := c, tick := s.tick }] } := by
  unfold takeStrayCue; rw [h]; rfl

/-- A stray that finds the buffer full takes the newer place, and counts as an overrun (R98). -/
theorem takeStrayCue_full {a b : Stray} (h : s.strays = [a, b]) :
    takeStrayCue c s =
      raise (.stray c s.tick 2 true (min (s.strayOverruns + 1) 255)) []
        { s with strays := [a, { cue := c, tick := s.tick }], strayOverruns := min (s.strayOverruns + 1) 255 } := by
  unfold takeStrayCue; rw [h]; rfl

end Strays

end Sys2Proof.Machine
end

section
/-! Filters: the delivery of a cue. -/

namespace Sys2Proof.Certificates

open Sys2Proof.Machine

/-- The hit record of a cue that a filter takes, and what the hit leaves of the filters and the strays (R95). -/
theorem takeHit_record (i : Fin 48) (c : Cue) (s : State) :
    let F := s.filter i
    let t := takeHit i c s
    let H := hitAfter i c s
    (t.filter i).cfg = F.cfg ∧ (t.filter i).revision = F.revision ∧ (∀ j, j ≠ i → t.filter j = s.filter j) ∧ t.strays = s.strays ∧
      H.count = min (F.hit.count + 1) 65535 ∧ H.lastCue = some c ∧ H.hitTick = some s.tick ∧ H.unread = true ∧
      H.overwritten = (F.hit.overwritten || F.hit.unread) := by
  have hself := takeHit_filter i i c s
  rw [if_pos rfl] at hself
  dsimp only
  rw [hself]
  exact ⟨rfl, rfl, fun j hj => (takeHit_filter i j c s).trans (if_neg hj), takeHit_strays i c s, rfl, rfl, rfl, rfl, rfl⟩

/-- Settles O49: the match, the stray of a cue that no filter takes, and the hit of the first filter that takes it, action by action. -/
theorem cueDelivery : Obligations.CueDelivery := by
  refine ⟨fun f c => FilterConfig.matches_iff, fun c s => ⟨fun hnone => ?_, fun i hi hlow => ?_⟩⟩
  · rw [deliverCue_eq_takeStrayCue hnone]
    exact ⟨takeStrayCue_frame c s, takeStrayCue_nil, fun _ => takeStrayCue_one, fun _ _ => takeStrayCue_full⟩
  · have hcue := deliverCue_cue c s
    have hrecord : ((takeHit i c s).filter i).hit = hitAfter i c s := by rw [takeHit_filter, if_pos rfl]
    obtain ⟨hcfg, hrevision, hothers, hstrays, hcount, hlast, htick, hunread, hover⟩ := takeHit_record i c s
    dsimp only
    rw [deliverCue_eq_takeHit hi hlow] at hcue ⊢
    rw [hrecord]
    refine ⟨hcfg, hrevision, hothers, hstrays, hcount, hlast, htick, hunread, hover, hcue, takeHit_drop, takeHit_forward,
      takeHit_arm_mark, fun harm hkind => ?_⟩
    obtain ⟨houtcome, hlane, happlied, hstate⟩ := takeHit_arm harm hkind
    exact ⟨houtcome, hlane, fun l => by rw [happlied, laneSetOf_qualifying], hstate⟩

end Sys2Proof.Certificates
end

section
/-! SUPPORT. Splice time arithmetic (R104 to R112): the boundary nearest to an anchor, whole periods across the wrap of the counter, and the
times of a break or its refusal. -/

namespace Sys2Proof.Machine

/-! ## The nearest boundary (R107) -/

/-- Off the grid, the boundary after a whole number is one period after the boundary before it (R6, R107). -/
theorem gridSum_eq_gridFloor_add {p φ n : Nat} (hp : 0 < p) (hoff : 0 < ((n : Int) - φ) % p) :
    (gridSum p φ n : Int) = gridFloor p φ n + p := by
  have hz : (0 : Int) < p := by exact_mod_cast hp
  have hlt : ((n : Int) - φ) % p < p := Int.emod_lt_of_pos _ hz
  have hneg : ((φ : Int) - n) % p = p - ((n : Int) - φ) % p := by
    have hdiv : (p : Int) * (((n : Int) - φ) / p) + ((n : Int) - φ) % p = n - φ := Int.mul_ediv_add_emod _ _
    have hsplit : (φ : Int) - n = p - ((n : Int) - φ) % p + p * (-(((n : Int) - φ) / p) - 1) := by linarith
    rw [hsplit, Int.add_mul_emod_self_left, Int.emod_eq_of_lt (by omega) (by omega)]
  unfold gridSum gridFloor
  omega

/-- The boundary nearest to an anchor that is x ticks behind the boundary q whole periods after the phase (R107). -/
theorem alignBoundary_toNat {p φ : Nat} {S : Tick} (hp : 0 < p) (hb : p ≤ 7200) {q x : Int} (hS : (S.toNat : Int) - φ = q * p + x)
    (hx0 : 0 ≤ x) (hxp : x < p) (hlo : 0 ≤ φ + q * p) (hhi : φ + (q + 1) * p < 2 ^ 48) :
    ((alignBoundary p φ S).toNat : Int) = if 2 * x < p then φ + q * p else φ + (q + 1) * p := by
  have hmod : ((S.toNat : Int) - φ) % p = x := by rw [hS, Int.add_comm, Int.add_mul_emod_self_right, Int.emod_eq_of_lt hx0 hxp]
  have hfloor : gridFloor p φ S.toNat = φ + q * p := by unfold gridFloor; omega
  have hnext : φ + (q + 1) * p = φ + q * p + p := by ring
  unfold alignBoundary
  rw [hmod]
  split
  · rw [boundaryAtOrBefore_toNat p φ S hp hb, hfloor, if_pos hlo]
  · have hsum : (gridSum p φ S.toNat : Int) = φ + (q + 1) * p := by
      rw [gridSum_eq_gridFloor_add hp (by omega), hfloor, hnext]
    rw [boundaryAtOrAfter_toNat p φ S hp hb, if_pos (by omega), hsum]

/-- Of two opposite signed differences, one is not positive (R3). -/
theorem sub_toInt_nonpos {a b : Tick} (h : 0 ≤ (a - b).toInt) : (b - a).toInt ≤ 0 := by
  rw [BitVec.toInt_eq_toNat_cond, BitVec.toNat_sub] at h ⊢
  split at h <;> split <;> omega

/-- The boundary at or after a tick is no further off than R6's sum, across the wrap too (R5, R6). -/
theorem boundaryAtOrAfter_sub_le (p φ : Nat) (t : Tick) (hp : 0 < p) (hb : p ≤ 7200) (hφ : φ < 2 ^ 48 % p) :
    (boundaryAtOrAfter p φ t - t).toInt ≤ (gridSum p φ t.toNat : Int) - t.toNat := by
  have ht := t.isLt
  obtain ⟨hlo, hhi, hgrid⟩ := gridSum_spec p φ t.toNat hp
  have hmod : 2 ^ 48 % p < p := Nat.mod_lt _ hp
  have hle : (2 ^ 48 - t.toNat + (boundaryAtOrAfter p φ t).toNat) % 2 ^ 48 ≤ gridSum p φ t.toNat - t.toNat := by
    rw [boundaryAtOrAfter_toNat p φ t hp hb]
    split
    · omega
    · have hdiv : p * (2 ^ 48 / p) + 2 ^ 48 % p = 2 ^ 48 := Nat.div_add_mod _ _
      have hlast := lastBoundary_le p φ _ (by omega) hφ hgrid
      rw [gridSum_zero p φ (by omega)]
      omega
  rw [sub_toInt_of_lt _ _ (by omega)]
  omega

/-- The last boundary before the wrap is less than one period before the phase, counted across the wrap (R5). -/
theorem gridFloor_last_le {p φ : Nat} (hp : 0 < p) (hφ : φ < 2 ^ 48 % p) : 2 ^ 48 + (φ : Int) - p ≤ gridFloor p φ (2 ^ 48 - 1) := by
  obtain ⟨-, hhi, hgrid⟩ := gridFloor_spec p φ (2 ^ 48 - 1) hp
  have hmod : 2 ^ 48 % p < p := Nat.mod_lt _ hp
  have hdiv : p * (2 ^ 48 / p) + 2 ^ 48 % p = 2 ^ 48 := Nat.div_add_mod _ _
  obtain ⟨m, hm⟩ := Int.dvd_of_emod_eq_zero hgrid
  have hle : ((2 ^ 48 / p : Nat) : Int) ≤ m := by
    by_contra hlt
    have hmul : (p : Int) * (m + 1) ≤ p * ((2 ^ 48 / p : Nat) : Int) := Int.mul_le_mul_of_nonneg_left (by omega) (by omega)
    have hone : (p : Int) * (m + 1) = p * m + p := by ring
    have hcast : ((p * (2 ^ 48 / p) : Nat) : Int) = p * ((2 ^ 48 / p : Nat) : Int) := by push_cast; ring
    omega
  have hmul : (p : Int) * ((2 ^ 48 / p : Nat) : Int) ≤ p * m := Int.mul_le_mul_of_nonneg_left hle (by omega)
  have hcast : ((p * (2 ^ 48 / p) : Nat) : Int) = p * ((2 ^ 48 / p : Nat) : Int) := by push_cast; ring
  omega

/-- The boundary at or before a tick is no further off than the floor of R107, across the wrap too (R5, R107). -/
theorem sub_boundaryAtOrBefore_le (p φ : Nat) (t : Tick) (hp : 0 < p) (hb : p ≤ 7200) (hφ : φ < 2 ^ 48 % p) :
    0 ≤ (t - boundaryAtOrBefore p φ t).toInt ∧ (t - boundaryAtOrBefore p φ t).toInt ≤ t.toNat - gridFloor p φ t.toNat := by
  have ht := t.isLt
  have hmod : 2 ^ 48 % p < p := Nat.mod_lt _ hp
  obtain ⟨hlo, hhi, hgrid⟩ := gridFloor_spec p φ t.toNat hp
  obtain ⟨hlastlo, -, -⟩ := gridFloor_spec p φ (2 ^ 48 - 1) hp
  have hlast := gridFloor_last_le hp hφ
  have hnat := boundaryAtOrBefore_toNat p φ t hp hb
  have hle : ((2 ^ 48 - (boundaryAtOrBefore p φ t).toNat + t.toNat) % 2 ^ 48 : Nat) ≤ t.toNat - gridFloor p φ t.toNat := by
    split at hnat
    · omega
    · have hbelow : gridFloor p φ t.toNat = φ - p := by
        obtain ⟨k, hk⟩ := Int.dvd_of_emod_eq_zero hgrid
        have hk1 : k = -1 := by nlinarith
        subst hk1; omega
      omega
  rw [sub_toInt_of_lt _ _ (by omega)]
  omega

/-- The nearest boundary lies within half a period, an exact half being before it (R107). -/
theorem alignBoundary_near (p φ : Nat) (S : Tick) (hp : 0 < p) (hb : p ≤ 7200) (hφ : φ < 2 ^ 48 % p) :
    2 * (S - alignBoundary p φ S).toInt < p ∧ 2 * (alignBoundary p φ S - S).toInt ≤ p := by
  unfold alignBoundary
  split
  · rename_i hbefore
    obtain ⟨hge, hle⟩ := sub_boundaryAtOrBefore_le p φ S hp hb hφ
    have hback := sub_toInt_nonpos hge
    unfold gridFloor at hle
    omega
  · rename_i hafter
    obtain ⟨hge, -⟩ := boundaryAtOrAfter_sub p φ S hp hb hφ
    have hle := boundaryAtOrAfter_sub_le p φ S hp hb hφ
    have hback := sub_toInt_nonpos hge
    rw [gridSum_eq_gridFloor_add hp (by omega)] at hle
    unfold gridFloor at hle
    omega

/-! ## Whole periods (R6, R109) -/

theorem addPeriods_toNat {p φ : Nat} {t : Tick} {n : Nat} (h : t.toNat + n * p < 2 ^ 48) : (addPeriods p φ t n).toNat = t.toNat + n * p := by
  unfold addPeriods
  rw [if_pos h, BitVec.toNat_ofNat, Nat.mod_eq_of_lt h]

/-- A sum of whole periods across the wrap gives the boundary at or after the reduced sum (R6, R109). -/
theorem addPeriods_wrap {p φ : Nat} {t : Tick} {n : Nat} (hp : 0 < p) (hb : p ≤ 7200) (h : 2 ^ 48 ≤ t.toNat + n * p) (hn : n ≤ 1048575) :
    onGrid p φ (addPeriods p φ t n) = true ∧ t.toNat + n * p ≤ (addPeriods p φ t n).toNat + 2 ^ 48 ∧
      (addPeriods p φ t n).toNat + 2 ^ 48 < t.toNat + n * p + p := by
  have ht := t.isLt
  have hmul : n * p ≤ 1048575 * 7200 := Nat.mul_le_mul hn hb
  have hsum : addPeriods p φ t n = boundaryAtOrAfter p φ (BitVec.ofNat 48 (t.toNat + n * p)) := if_neg (by omega)
  have hred : (BitVec.ofNat 48 (t.toNat + n * p)).toNat = t.toNat + n * p - 2 ^ 48 := by rw [BitVec.toNat_ofNat]; omega
  obtain ⟨hlo, hhi⟩ := boundaryAtOrAfter_bounds p φ _ hp hb (by rw [hred]; omega)
  rw [hred] at hlo hhi
  rw [hsum]
  exact ⟨boundaryAtOrAfter_onGrid p φ _ hp hb, by omega, by omega⟩

/-! ## The times of a break (R109 to R112) -/

/-- The times of a break, or its refusal: beyond the horizon FAR, at or after the earliest effect B and I as they stand, else within the
late grace what is left of the break from the earliest effect on, and LATE otherwise (R109 to R111). -/
theorem placeBreak_eq {L : Lane} {now S B I E : Tick} {n : Nat} (provisional : Bool) (hB : alignBoundary L.period L.cfg.phase S = B)
    (hI : addPeriods L.period L.cfg.phase B n = I) (hE : earliestEffect L now = E) :
    placeBreak L now S n provisional =
      if 1073741824 < (B - now).toInt then .error .far
      else if 0 ≤ (B - E).toInt then .ok (timesOf L now B I n provisional)
      else if L.cfg.lateGrace < (E - B).toInt then .error .late
      else if 0 < (I - E).toInt then .ok (timesOf L now E I ((I - E).toInt.toNat / L.period) provisional)
      else .error .late := by
  subst hB hI hE
  unfold placeBreak
  refine if_congr Iff.rfl rfl (if_congr decide_eq_true_iff rfl (if_congr Iff.rfl rfl ?_))
  rw [← ite_not]
  exact if_congr (by rw [later, decide_eq_false_iff_not, not_not]; rfl) rfl rfl

/-- The times that a break is given lie on the lane's grid, its claim close the claim lead before its out tick (R107, R109, R112). -/
theorem placeBreak_times {L : Lane} {now S : Tick} {n : Nat} {provisional : Bool} {t : Times}
    (h : placeBreak L now S n provisional = .ok t) :
    (onGrid L.period L.cfg.phase t.outTick = true ∧ onGrid L.period L.cfg.phase t.inTick = true) ∧
      t.claimClose = t.outTick - BitVec.ofNat 48 L.cfg.claimLead ∧ t.provisional = provisional := by
  have hp : 0 < L.period := period_pos _
  have hb : L.period ≤ 7200 := period_le _
  have hB := alignBoundary_onGrid L.period L.cfg.phase S hp hb
  have hI := addPeriods_onGrid L.period L.cfg.phase _ n hp hb hB
  unfold placeBreak at h
  dsimp only at h
  split at h
  · cases h
  · split at h
    · cases h; exact ⟨⟨hB, hI⟩, rfl, rfl⟩
    · split at h
      · cases h
      · split at h
        · cases h
        · cases h; exact ⟨⟨earliestEffect_onGrid L now, hI⟩, rfl, rfl⟩

/-! ## The anchor and the break frames of a cue (R104, R105, R108) -/

/-- A duration in whole frames, rounded and clamped (R108). -/
theorem clampFrames_roundFrames (p d : Nat) :
    clampFrames (roundFrames p d) = min (max (d / p + if p ≤ 2 * (d % p) then 1 else 0) 1) 1048575 := by
  have hround : roundFrames p d = d / p + if p ≤ 2 * (d % p) then 1 else 0 := by unfold roundFrames; split <;> rfl
  rw [hround]; rfl

section Anchor

variable {s : State} {L : Lane} {c : Cue} {stamp : Stamp}

/-- The anchor's number before its reduction (R104). -/
def stampAnchor (R : FeedRef) (stamp : Stamp) (L : Lane) : Int := R.station.toNat + (stamp - R.stamp).toInt + L.cfg.pathDelay

theorem stale_iff (R : FeedRef) (now : Tick) : R.stale now = true ↔ R.valid = true ∧ 5400000 < (now - R.station).toInt := by
  unfold FeedRef.stale; rw [Bool.and_eq_true, decide_eq_true_iff]; rfl

theorem anchor_noRef (hc : c.timing = .stamped stamp)
    (hno : (s.feedRef c.feed).valid = false ∨ 5400000 < (s.tick - (s.feedRef c.feed).station).toInt) : anchor s L c = .error .noRef := by
  unfold anchor; rw [hc]; dsimp only
  refine if_pos ?_
  rw [stale_iff]
  cases hv : (s.feedRef c.feed).valid with
  | false => exact .inl rfl
  | true => exact .inr ⟨rfl, hno.resolve_left (by simp [hv])⟩

theorem anchor_stamped (hc : c.timing = .stamped stamp) (hv : (s.feedRef c.feed).valid = true)
    (hage : (s.tick - (s.feedRef c.feed).station).toInt ≤ 5400000) : anchor s L c =
      if stampAnchor (s.feedRef c.feed) stamp L < 0 then .error .late
      else .ok (BitVec.ofInt 48 (stampAnchor (s.feedRef c.feed) stamp L)) := by
  unfold anchor; rw [hc]; dsimp only
  refine if_neg ?_
  rw [stale_iff]
  rintro (h | ⟨-, h⟩)
  · rw [hv] at h; cases h
  · omega

theorem anchor_lead {lead : Nat} (hc : c.timing = .lead lead) :
    anchor s L c = .ok (BitVec.ofNat 48 (c.arrival.toNat + lead + L.cfg.pathDelay)) := by
  unfold anchor; rw [hc]

end Anchor

/-- The break frames of a cue: its duration, or the lane's ceiling provisionally (R108). -/
theorem cueFrames_eq (L : Lane) (c : Cue) : cueFrames L c =
    (match c.duration with
      | some d => clampFrames (roundFrames L.period d.toNat)
      | none => clampFrames (roundFrames L.period (L.cfg.ceiling * 180000)), c.duration.isNone) := by
  unfold cueFrames; cases c.duration <;> rfl

theorem cueTimes_error {s : State} {l : Fin 32} {c : Cue} {e : ReplyCode} (h : anchor s (s.lane l) c = .error e) :
    cueTimes s l c = .error e := by
  unfold cueTimes; dsimp only; rw [h]

theorem cueTimes_ok {s : State} {l : Fin 32} {c : Cue} {S : Tick} (h : anchor s (s.lane l) c = .ok S) :
    cueTimes s l c = placeBreak (s.lane l) s.tick S (cueFrames (s.lane l) c).1 c.duration.isNone := by
  unfold cueTimes; dsimp only; rw [h]; dsimp only; rw [cueFrames_eq]

end Sys2Proof.Machine
end

section
/-! SUPPORT. The taking of a break (R118 to R121): the avail that it repeats, the slot of a new one, and what becomes of either. -/

namespace Sys2Proof.Machine

/-! ## The live avail of a lane and an event id (R119) -/

/-- A non-final avail of a lane with an event id (R119). -/
def Avail.Answers (a : Avail) (l : Fin 32) (id : BitVec 32) : Prop := a.live = true ∧ a.lane = l ∧ a.eventId = id

theorem Avail.answers_iff {a : Avail} {l : Fin 32} {id : BitVec 32} :
    (a.live && decide (a.lane = l) && decide (a.eventId = id)) = true ↔ a.Answers l id := by
  rw [Bool.and_eq_true, Bool.and_eq_true, decide_eq_true_iff, decide_eq_true_iff, and_assoc]; rfl

theorem findLive_eq_some {s : State} {l : Fin 32} {id : BitVec 32} {i : Fin 64} (h : (s.avail i).Answers l id)
    (hlow : ∀ j < i, ¬(s.avail j).Answers l id) : findLive s l id = some i :=
  find?_finRange_eq_some (Avail.answers_iff.mpr h) fun j hj => Bool.eq_false_iff.mpr (Avail.answers_iff.not.mpr (hlow j hj))

theorem findLive_eq_none {s : State} {l : Fin 32} {id : BitVec 32} (h : ∀ i, ¬(s.avail i).Answers l id) : findLive s l id = none :=
  find?_finRange_eq_none fun i => Bool.eq_false_iff.mpr (Avail.answers_iff.not.mpr (h i))

/-! ## The slot of a new avail (R118) -/

/-- The lowest EMPTY slot (R118). -/
def LowestEmpty (s : State) (i : Fin 64) : Prop := (s.avail i).state = .empty ∧ ∀ j, j < i → (s.avail j).state ≠ .empty

/-- The final avail whose final tick is before every other's, or equal to it in a higher slot (R118). -/
def OldestFinal (s : State) (i : Fin 64) : Prop :=
  (s.avail i).final = true ∧ ∃ f, (s.avail i).finalTick = some f ∧
    ∀ j, j ≠ i → (s.avail j).final = true → ∃ g, (s.avail j).finalTick = some g ∧ (0 < (g - f).toInt ∨ (g = f ∧ i < j))

/-- One slot in the search for the oldest final avail (R118). -/
def olderFinal (s : State) (best : Option (Fin 64)) (i : Fin 64) : Option (Fin 64) :=
  if (s.avail i).final then
    match best with
    | none => some i
    | some j => if finalBefore s i j then some i else best
  else best

theorem oldestFinal_eq (s : State) : oldestFinal s = (List.finRange 64).foldl (olderFinal s) none := rfl

section Oldest

variable {s : State} {i : Fin 64}

theorem olderFinal_cases (best : Option (Fin 64)) (j : Fin 64) :
    olderFinal s best j = best ∨ (olderFinal s best j = some j ∧ (s.avail j).final = true) := by
  unfold olderFinal; split
  · rename_i hj
    cases best with
    | none => exact .inr ⟨rfl, hj⟩
    | some k =>
      dsimp only; split
      · exact .inr ⟨rfl, hj⟩
      · exact .inl rfl
  · exact .inl rfl

/-- The oldest final avail takes the place of any final avail in a lower slot. -/
theorem OldestFinal.taken (h : OldestFinal s i) {best : Option (Fin 64)} (hbest : ∀ j ∈ best, j < i ∧ (s.avail j).final = true) :
    olderFinal s best i = some i := by
  obtain ⟨hi, f, hf, hold⟩ := h
  unfold olderFinal; rw [if_pos hi]
  cases best with
  | none => rfl
  | some j =>
    obtain ⟨hlt, hj⟩ := hbest j rfl
    obtain ⟨g, hg, hlater | ⟨-, hgt⟩⟩ := hold j (Fin.ne_of_lt hlt) hj
    · have hbefore : finalBefore s i j = true := by unfold finalBefore; rw [hf, hg]; exact decide_eq_true hlater
      exact if_pos hbefore
    · exact absurd hgt (Fin.lt_asymm hlt)

/-- No final avail takes the place of the oldest one. -/
theorem OldestFinal.stays (h : OldestFinal s i) {j : Fin 64} (hne : j ≠ i) : olderFinal s (some i) j = some i := by
  obtain ⟨-, f, hf, hold⟩ := h
  unfold olderFinal; split
  · rename_i hj
    obtain ⟨g, hg, hcmp⟩ := hold j hne hj
    have hback : (f - g).toInt ≤ 0 := by
      rcases hcmp with hlater | ⟨rfl, -⟩
      · exact sub_toInt_nonpos hlater.le
      · simp
    have hnot : finalBefore s j i ≠ true := by
      unfold finalBefore; rw [hf, hg]; exact fun h => Int.not_lt.mpr hback (of_decide_eq_true h)
    exact if_neg hnot
  · rfl

/-- The search through slots in ascending order, the oldest final avail's among them, ends with it. -/
theorem foldl_olderFinal (h : OldestFinal s i) (ks : List (Fin 64)) (hks : ks.Pairwise (· < ·)) (best : Option (Fin 64))
    (hbest : best = some i ∧ i ∉ ks ∨ i ∈ ks ∧ ∀ j ∈ best, j < i ∧ (s.avail j).final = true) :
    ks.foldl (olderFinal s) best = some i := by
  induction ks generalizing best with
  | nil => simpa using hbest
  | cons k ks ih =>
    obtain ⟨hhead, hrest⟩ := List.pairwise_cons.mp hks
    refine ih hrest _ ?_
    rcases hbest with ⟨rfl, hnot⟩ | ⟨hmem, hlow⟩
    · obtain ⟨hne, hnot⟩ := List.ne_and_not_mem_of_not_mem_cons hnot
      exact .inl ⟨h.stays hne.symm, hnot⟩
    · rcases List.mem_cons.mp hmem with rfl | hmem
      · exact .inl ⟨h.taken hlow, fun hi => absurd (hhead i hi) (Fin.lt_irrefl i)⟩
      · refine .inr ⟨hmem, fun j hj => ?_⟩
        rcases olderFinal_cases best k with e | ⟨e, hk⟩ <;> rw [e] at hj
        · exact hlow j hj
        · cases hj; exact ⟨hhead i hmem, hk⟩

theorem oldestFinal_eq_some (h : OldestFinal s i) : oldestFinal s = some i :=
  foldl_olderFinal h _ (List.pairwise_lt_finRange 64) none (.inr ⟨List.mem_finRange i, fun _ hj => nomatch hj⟩)

theorem oldestFinal_eq_none (h : ∀ i, (s.avail i).final = false) : oldestFinal s = none := by
  rw [oldestFinal_eq]
  induction List.finRange 64 with
  | nil => rfl
  | cons k ks ih =>
    have hk : olderFinal s none k = none := if_neg (by rw [h k]; exact Bool.false_ne_true)
    rw [List.foldl_cons, hk, ih]

end Oldest

section Slot

variable {s : State} {i : Fin 64}

theorem pickSlot_lowest (h : LowestEmpty s i) : pickSlot s = some i := by
  obtain ⟨hi, hlow⟩ := h
  have hfind : ((List.finRange 64).find? fun i => decide ((s.avail i).state = .empty)) = some i :=
    find?_finRange_eq_some (decide_eq_true hi) fun j hj => decide_eq_false (hlow j hj)
  unfold pickSlot; rw [hfind]

theorem pickSlot_unemptied (h : ∀ j, (s.avail j).state ≠ .empty) : pickSlot s = oldestFinal s := by
  have hfind : ((List.finRange 64).find? fun i => decide ((s.avail i).state = .empty)) = none :=
    find?_finRange_eq_none fun j => decide_eq_false (h j)
  unfold pickSlot; rw [hfind]

theorem Avail.unfinished_of_live {a : Avail} (h : a.live = true) : a.state ≠ .empty ∧ a.final = false := by
  cases hst : a.state <;> simp_all [Avail.live, Avail.final]

theorem pickSlot_full (h : ∀ i, (s.avail i).live = true) : pickSlot s = none := by
  rw [pickSlot_unemptied fun j => (Avail.unfinished_of_live (h j)).1, oldestFinal_eq_none fun j => (Avail.unfinished_of_live (h j)).2]

end Slot

/-! ## A break taken (R119, R121) -/

/-- AVAIL_RETIMED of an avail's record (R139). -/
def retimedNotice (i : Fin 64) (cause : RetimeCause) (a : Avail) (now : Tick) : Notice :=
  .availRetimed (headOf i a now) cause a.state a.outTick a.inTick a.frames a.provisional a.claimClose a.fillTick

/-- A re-timed avail: its record, then its notice (R139). -/
theorem raiseRetimed_updAvail (i : Fin 64) (cause : RetimeCause) (f : Avail → Avail) (s : State) :
    raiseRetimed i cause (s.updAvail i f) =
      raise (retimedNotice i cause (f (s.avail i)) s.tick) (f (s.avail i)).addressed (s.updAvail i f) := by
  have hself : (s.updAvail i f).avail i = f (s.avail i) := State.updAvail_avail_self ..
  unfold raiseRetimed; dsimp only
  rw [head_eq, hself]; rfl

/-- A new avail's record (R119). -/
def newAvail (gen : Byte) (l : Fin 32) (id : BitVec 32) (cls : Byte) (origin : AvailOrigin) (t : Times) : Avail :=
  { gen := gen, state := .armed, lane := l, eventId := id, cls := cls, origin := some origin, outTick := t.outTick, inTick := t.inTick
    frames := t.frames, provisional := t.provisional, claimClose := t.claimClose }

/-- A new avail: its record, its AVAIL_NEW, and the arbitration that is due (R112, R119, R139). -/
theorem createAvail_eq (i : Fin 64) (l : Fin 32) (id : BitVec 32) (cls : Byte) (origin : AvailOrigin) (t : Times) (s : State) :
    createAvail i l id cls origin t s =
      let a := newAvail (s.avail i).nextGen l id cls origin t
      arbitrateIf t.due i (raise (.availNew (headOf i a s.tick) cls (some origin) t.outTick t.inTick t.frames t.provisional t.claimClose) []
        (s.updAvail i fun _ => a)) := by
  have hself : (s.updAvail i fun a => newAvail a.nextGen l id cls origin t).avail i = newAvail (s.avail i).nextGen l id cls origin t :=
    State.updAvail_avail_self ..
  show arbitrateIf t.due i (raiseNew i (s.updAvail i fun a => newAvail a.nextGen l id cls origin t)) = _
  unfold raiseNew; dsimp only
  rw [head_eq, hself]; rfl

section Taken

variable {l : Fin 32} {id : BitVec 32} {s : State} {i : Fin 64} (cls : Byte) (origin : AvailOrigin) (t : Times)

theorem acceptBreak_repeat (h : (s.avail i).Answers l id) (hlow : ∀ j < i, ¬(s.avail j).Answers l id) :
    acceptBreak l id cls origin (.ok t) s = repeatAvail i t s := by
  unfold acceptBreak; rw [findLive_eq_some h hlow]

theorem acceptBreak_new (h : ∀ j, ¬(s.avail j).Answers l id) (hslot : pickSlot s = some i) :
    acceptBreak l id cls origin (.ok t) s =
      { code := .ok, slot := i, disposition := .new, state := createAvail i l id cls origin t s } := by
  unfold acceptBreak; rw [findLive_eq_none h, hslot]

theorem acceptBreak_full (h : ∀ j, ¬(s.avail j).Answers l id) (hslot : pickSlot s = none) :
    acceptBreak l id cls origin (.ok t) s = { code := .full, slot := 0, disposition := .new, state := s } := by
  unfold acceptBreak; rw [findLive_eq_none h, hslot]

theorem repeatAvail_code (i : Fin 64) (t : Times) (s : State) : (repeatAvail i t s).code = .ok := by
  unfold repeatAvail; dsimp only; split
  · rfl
  · split <;> rfl

/-- A break that is not taken leaves the state (R118). -/
theorem acceptBreak_state_of_refused (h : (acceptBreak l id cls origin (.ok t) s).code ≠ .ok) :
    (acceptBreak l id cls origin (.ok t) s).state = s := by
  revert h
  unfold acceptBreak; dsimp only; split
  · exact fun h => absurd (repeatAvail_code ..) h
  · split
    · exact fun _ => rfl
    · exact fun h => absurd rfl h

variable {t}

theorem repeatAvail_repeated (h : t.outTick = (s.avail i).outTick) : repeatAvail i t s =
    { code := .ok, slot := i, disposition := .repeated, state := s.updAvail i fun a => { a with repeats := min (a.repeats + 1) 255 } } :=
  if_pos h

theorem repeatAvail_conflict (h : t.outTick ≠ (s.avail i).outTick) (hst : (s.avail i).state ≠ .armed) : repeatAvail i t s =
    { code := .ok, slot := i, disposition := .conflict
      state := s.updAvail i fun a => { a with conflicts := min (a.conflicts + 1) 255 } } :=
  (if_neg h).trans (if_neg hst)

/-- An ARMED avail's record with other times (R121). -/
def Avail.retimed (t : Times) (a : Avail) : Avail :=
  { a with outTick := t.outTick, inTick := t.inTick, frames := t.frames, provisional := t.provisional, claimClose := t.claimClose }

theorem repeatAvail_retimed (h : t.outTick ≠ (s.avail i).outTick) (hst : (s.avail i).state = .armed) : repeatAvail i t s =
    { code := .ok, slot := i, disposition := .retimed
      state := arbitrateIf t.due i (raise (retimedNotice i .repeated ((s.avail i).retimed t) s.tick) (s.avail i).addressed
        (s.updAvail i (Avail.retimed t))) } := by
  have hraise := raiseRetimed_updAvail i .repeated (Avail.retimed t) s
  unfold repeatAvail; dsimp only
  rw [if_neg h, if_pos hst]
  exact congrArg (fun u => Admission.mk .ok i .retimed (arbitrateIf t.due i u)) hraise

end Taken

end Sys2Proof.Machine
end

section
/-! SUPPORT. BOOK AVAIL (R120): its refusals, and the booking that is taken. -/

namespace Sys2Proof.Machine

section Booking

variable {p : Fin 4} {r : RawBooking} {s : State} {l : Fin 32} {t : Times}

theorem bookingTimes_goodFrame (p : Fin 4) (s : State) (l : Fin 32) (r : RawBooking) :
    bookingTimes (goodFrame p s) l r = bookingTimes s l r := by
  unfold bookingTimes; rw [goodFrame_lane, goodFrame_tick]

theorem exec_bookAvail_range (ha : Accepts p .bookAvail s) (h : 32 ≤ r.lane.toNat) :
    exec (.bookAvail p r) s = .next (answer p .bookAvail .range .none (goodFrame p s)) :=
  congrArg _ (takeRequest_eq ha (by unfold bookAct; rw [toFin_eq_none.mpr h]; rfl))

theorem exec_bookAvail_busy (ha : Accepts p .bookAvail s) (hl : r.lane.toNat = l.val) (h : (s.lane l).state ≠ .run) :
    exec (.bookAvail p r) s = .next (answer p .bookAvail .busy .none (goodFrame p s)) := by
  refine congrArg _ (takeRequest_eq ha ?_)
  unfold bookAct; rw [toFin_eq_some.mpr hl]; dsimp only
  rw [goodFrame_lane]
  exact if_pos h

/-- The block's answer to a booking on a lane in RUN whose break was not taken, or was (R120). -/
def bookingAnswer (x : Admission) : Answer :=
  if x.code ≠ .ok then refuse x.code x.state
  else { code := .ok, body := .booked (x.state.handleOf x.slot) x.disposition (x.state.avail x.slot).outTick (x.state.avail x.slot).inTick
           (x.state.avail x.slot).frames (x.state.avail x.slot).claimClose, state := x.state }

theorem bookAct_eq (hl : r.lane.toNat = l.val) (h : (s.lane l).state = .run) :
    bookAct p r (goodFrame p s) =
      bookingAnswer (acceptBreak l r.eventId r.cls (.booked p) (bookingTimes s l r) (goodFrame p s)) := by
  unfold bookAct; rw [toFin_eq_some.mpr hl]; dsimp only
  rw [goodFrame_lane, bookingTimes_goodFrame]
  exact if_neg (not_not.mpr h)

theorem exec_bookAvail_error (ha : Accepts p .bookAvail s) (hl : r.lane.toNat = l.val) (h : (s.lane l).state = .run) {e : ReplyCode}
    (he : bookingTimes s l r = .error e) (hne : e ≠ .ok) :
    exec (.bookAvail p r) s = .next (answer p .bookAvail e .none (goodFrame p s)) := by
  refine congrArg _ (takeRequest_eq ha ((bookAct_eq hl h).trans ?_))
  rw [he]; exact if_pos hne

/-- A booking whose computation came to times (R120). -/
theorem exec_bookAvail_times (ha : Accepts p .bookAvail s) (hl : r.lane.toNat = l.val) (h : (s.lane l).state = .run) {x : Admission}
    (ht : bookingTimes s l r = .ok t) (hx : acceptBreak l r.eventId r.cls (.booked p) (.ok t) (goodFrame p s) = x) :
    exec (.bookAvail p r) s = .next (if x.code = .ok then
      answer p .bookAvail .ok (.booked { slot := x.slot, gen := (x.state.avail x.slot).gen } x.disposition (x.state.avail x.slot).outTick
        (x.state.avail x.slot).inTick (x.state.avail x.slot).frames (x.state.avail x.slot).claimClose) x.state
      else answer p .bookAvail x.code .none (goodFrame p s)) := by
  have hact : bookAct p r (goodFrame p s) = bookingAnswer x := by rw [bookAct_eq hl h, ht, hx]
  refine congrArg Host.Outcome.next ?_
  by_cases hok : x.code = .ok
  · rw [if_pos hok]
    exact takeRequest_eq ha (hact.trans (if_neg (not_not.mpr hok)))
  · have hstate : x.state = goodFrame p s := by subst hx; exact acceptBreak_state_of_refused _ _ t hok
    rw [if_neg hok]
    refine takeRequest_eq ha (hact.trans ((if_pos hok).trans ?_))
    rw [hstate]; rfl

end Booking

/-- An avail whose arbitration is not due stands as it was made (R119). -/
theorem createAvail_avail {i : Fin 64} {l : Fin 32} {id : BitVec 32} {cls : Byte} {origin : AvailOrigin} {t : Times} {s : State}
    (hdue : t.due = false) (j : Fin 64) : (createAvail i l id cls origin t s).avail j =
      if j = i then newAvail (s.avail i).nextGen l id cls origin t else s.avail j := by
  rw [createAvail_eq]; dsimp only
  unfold arbitrateIf; rw [hdue, if_neg Bool.false_ne_true, raise_avail, State.updAvail_avail]

end Sys2Proof.Machine
end

section
/-! Avails: splice time arithmetic and the taking of a break. -/

namespace Sys2Proof.Certificates

open Sys2Proof.Machine

/-- The clauses on the stages of the computation, from an anchor on (R107, R109 to R112). -/
theorem placeBreak_clauses (L : Lane) (now S : Tick) (n : Nat) (provisional : Bool) :
    let p := L.period
    let φ := L.cfg.phase
    let B := alignBoundary p φ S
    let I := addPeriods p φ B n
    let E := earliestEffect L now
    (1073741824 < (B - now).toInt → placeBreak L now S n provisional = .error .far) ∧
    ((B - now).toInt ≤ 1073741824 →
      (0 ≤ (B - E).toInt → placeBreak L now S n provisional = .ok (timesOf L now B I n provisional)) ∧
      ((B - E).toInt < 0 →
        (L.cfg.lateGrace < (E - B).toInt → placeBreak L now S n provisional = .error .late) ∧
        ((E - B).toInt ≤ L.cfg.lateGrace → 0 < (I - E).toInt →
          placeBreak L now S n provisional = .ok (timesOf L now E I ((I - E).toInt.toNat / p) provisional)) ∧
        ((E - B).toInt ≤ L.cfg.lateGrace → (I - E).toInt ≤ 0 → placeBreak L now S n provisional = .error .late))) := by
  dsimp only
  rw [placeBreak_eq provisional rfl rfl rfl]
  refine ⟨fun hfar => if_pos hfar, fun hnear => ?_⟩
  rw [if_neg (Int.not_lt.mpr hnear)]
  refine ⟨fun hahead => if_pos hahead, fun hbehind => ?_⟩
  rw [if_neg (Int.not_le.mpr hbehind)]
  refine ⟨fun hlate => if_pos hlate, fun hgrace hleft => ?_, fun hgrace hspent => ?_⟩
  · rw [if_neg (Int.not_lt.mpr hgrace), if_pos hleft]
  · rw [if_neg (Int.not_lt.mpr hgrace), if_neg (Int.not_lt.mpr hspent)]

/-- The clauses on a cue's anchor and its break frames (R104, R105, R108). -/
theorem cueTimes_clauses (s : State) (l : Fin 32) (c : Cue) :
    let L := s.lane l
    let n := (cueFrames L c).1
    (∀ stamp, c.timing = .stamped stamp →
      let R := s.feedRef c.feed
      let S : Int := R.station.toNat + (stamp - R.stamp).toInt + L.cfg.pathDelay
      let age := (s.tick - R.station).toInt
      (R.valid = false ∨ 5400000 < age → cueTimes s l c = .error .noRef) ∧
      (R.valid = true → age ≤ 5400000 → S < 0 → cueTimes s l c = .error .late) ∧
      (R.valid = true → age ≤ 5400000 → 0 ≤ S → cueTimes s l c = placeBreak L s.tick (BitVec.ofInt 48 S) n c.duration.isNone)) ∧
    ∀ lead, c.timing = .lead lead →
      cueTimes s l c = placeBreak L s.tick (BitVec.ofNat 48 (c.arrival.toNat + lead + L.cfg.pathDelay)) n c.duration.isNone := by
  refine ⟨fun stamp hc => ⟨fun hno => cueTimes_error (anchor_noRef hc hno), fun hv hage hneg => ?_, fun hv hage hpos => ?_⟩,
    fun lead hc => cueTimes_ok (anchor_lead hc)⟩
  · exact cueTimes_error ((anchor_stamped hc hv hage).trans (if_pos hneg))
  · exact cueTimes_ok ((anchor_stamped hc hv hage).trans (if_neg (Int.not_lt.mpr hpos)))

/-- The clauses on a break whose computation came to times (R118, R119, R121). -/
theorem acceptBreak_clauses (l : Fin 32) (id : BitVec 32) (cls : Byte) (origin : AvailOrigin) (t : Times) (s : State) :
    let same := fun i : Fin 64 => (s.avail i).Answers l id
    let x := acceptBreak l id cls origin (.ok t) s
    (∀ i, same i → (∀ j, j < i → ¬same j) →
      let a := s.avail i
      x.code = .ok ∧ x.slot = i ∧
      (t.outTick = a.outTick → x.disposition = .repeated ∧ x.state = s.updAvail i fun a => { a with repeats := min (a.repeats + 1) 255 }) ∧
      (t.outTick ≠ a.outTick → a.state ≠ .armed → x.disposition = .conflict ∧
        x.state = s.updAvail i fun a => { a with conflicts := min (a.conflicts + 1) 255 }) ∧
      (t.outTick ≠ a.outTick → a.state = .armed → x.disposition = .retimed ∧
        x.state = arbitrateIf t.due i (raise (.availRetimed { handle := { slot := i, gen := a.gen }, lane := l, eventId := id, tick := s.tick }
          .repeated .armed t.outTick t.inTick t.frames t.provisional t.claimClose a.fillTick) a.addressed
            (s.updAvail i (Avail.retimed t))))) ∧
    ((∀ i, ¬same i) →
      (∀ i, (LowestEmpty s i ∨ (∀ j, (s.avail j).state ≠ .empty) ∧ OldestFinal s i) →
        x = { code := .ok, slot := i, disposition := .new, state := createAvail i l id cls origin t s }) ∧
      ((∀ i, (s.avail i).live = true) → x.code = .full ∧ x.state = s)) := by
  refine ⟨fun i hi hlow => ?_, fun hnone => ⟨fun i hslot => acceptBreak_new cls origin t hnone ?_, fun hlive => ?_⟩⟩
  · dsimp only
    rw [acceptBreak_repeat cls origin t hi hlow]
    obtain ⟨-, hlane, hid⟩ := hi
    by_cases hsame : t.outTick = (s.avail i).outTick
    · rw [repeatAvail_repeated hsame]
      exact ⟨rfl, rfl, fun _ => ⟨rfl, rfl⟩, fun hne => absurd hsame hne, fun hne => absurd hsame hne⟩
    · by_cases harmed : (s.avail i).state = .armed
      · rw [repeatAvail_retimed hsame harmed]
        refine ⟨rfl, rfl, fun h => absurd h hsame, fun _ h => absurd harmed h, fun _ _ => ⟨rfl, ?_⟩⟩
        simp only [retimedNotice, headOf, Avail.retimed, harmed, hlane, hid]
      · rw [repeatAvail_conflict hsame harmed]
        exact ⟨rfl, rfl, fun h => absurd h hsame, fun _ _ => ⟨rfl, rfl⟩, fun _ h => absurd h harmed⟩
  · rcases hslot with hlow | ⟨hno, hold⟩
    · exact pickSlot_lowest hlow
    · rw [pickSlot_unemptied hno]; exact oldestFinal_eq_some hold
  · rw [acceptBreak_full cls origin t hnone (pickSlot_full hlive)]
    exact ⟨rfl, rfl⟩

/-- The clauses on a booking of a lane in RUN whose computation came to times (R120). -/
theorem bookAvail_taken {p : Fin 4} {r : RawBooking} {s : State} {l : Fin 32} {t : Times} (ha : Accepts p .bookAvail s)
    (hl : r.lane.toNat = l.val) (hrun : (s.lane l).state = .run) (ht : bookingTimes s l r = .ok t) :
    let same := fun i : Fin 64 => (s.avail i).Answers l r.eventId
    (∀ i, same i → (∀ j, j < i → ¬same j) → t.outTick = (s.avail i).outTick →
      exec (.bookAvail p r) s = .next (answer p .bookAvail .ok
        (.booked { slot := i, gen := (s.avail i).gen } .repeated (s.avail i).outTick (s.avail i).inTick (s.avail i).frames
          (s.avail i).claimClose)
        ((goodFrame p s).updAvail i fun a => { a with repeats := min (a.repeats + 1) 255 }))) ∧
    ((∀ i, ¬same i) → (∀ i, (s.avail i).live = true) →
      exec (.bookAvail p r) s = .next (answer p .bookAvail .full .none (goodFrame p s))) ∧
    ((∀ i, ¬same i) → t.due = false → ∀ i, LowestEmpty s i →
      ∃ u, exec (.bookAvail p r) s = .next u ∧ AvailsOnly s u ∧ (∀ j, j ≠ i → u.avail j = s.avail j) ∧
        u.avail i = newAvail (s.avail i).gen l r.eventId r.cls (.booked p) t) := by
  have hframe := goodFrame_avail p s
  refine ⟨fun i hi hlow hsame => ?_, fun hnone hlive => ?_, fun hnone hdue i ⟨hempty, hlow⟩ => ?_⟩
  · have hx := (acceptBreak_repeat r.cls (.booked p) t (s := goodFrame p s) (by rw [hframe]; exact hi)
      fun j hj => by rw [hframe]; exact hlow j hj).trans (repeatAvail_repeated (by rw [hframe]; exact hsame))
    rw [exec_bookAvail_times ha hl hrun ht hx, if_pos rfl, State.updAvail_avail_self, hframe]
  · have hx := acceptBreak_full r.cls (.booked p) t (s := goodFrame p s) (fun j => by rw [hframe]; exact hnone j)
      (pickSlot_full fun j => by rw [hframe]; exact hlive j)
    rw [exec_bookAvail_times ha hl hrun ht hx]
    exact congrArg _ (if_neg ReplyCode.noConfusion)
  · have hpick : pickSlot (goodFrame p s) = some i :=
      pickSlot_lowest ⟨by rw [hframe]; exact hempty, fun j hj => by rw [hframe]; exact hlow j hj⟩
    have hx := acceptBreak_new r.cls (.booked p) t (fun j => by rw [hframe]; exact hnone j) hpick
    have hexec := exec_bookAvail_times ha hl hrun ht hx
    rw [if_pos rfl] at hexec
    refine ⟨_, hexec, ?_, fun j hj => ?_, ?_⟩
    · exact ((goodFrame_ports p s).avails.trans (createAvail_avails ..)).trans (answer_ports ..).avails
    · rw [(answer_ports ..).avail, createAvail_avail hdue, if_neg hj, hframe]
    · rw [(answer_ports ..).avail, createAvail_avail hdue, if_pos rfl, hframe, Avail.nextGen, if_pos hempty]

/-- Settles O50: the arithmetic of a break, the three ways in which a break is taken, and the two senders of one. -/
theorem bookAvail : Obligations.BookAvail := by
  refine ⟨fun L now S n provisional => ?_, fun s l r => rfl, fun s l c => ?_, fun l id cls origin t s => ?_, fun f c l s hkind => ?_,
    fun p r s ha => ⟨exec_bookAvail_range ha, fun l hl => ⟨exec_bookAvail_busy ha hl, fun hrun =>
      ⟨fun e => exec_bookAvail_error ha hl hrun, fun t ht => ?_⟩⟩⟩⟩
  · have hp : 0 < L.period := period_pos _
    have hb : L.period ≤ 7200 := period_le _
    obtain ⟨hfar, hnear⟩ := placeBreak_clauses L now S n provisional
    exact ⟨fun q x hS hx0 hxp => alignBoundary_toNat hp hb hS hx0 hxp, alignBoundary_onGrid _ _ _ hp hb,
      alignBoundary_near _ _ _ hp hb, addPeriods_toNat, addPeriods_wrap hp hb, hfar, hnear⟩
  · have hclauses := cueTimes_clauses s l c
    simp only [cueFrames_eq, clampFrames_roundFrames] at hclauses
    exact hclauses
  · obtain ⟨hsame, hnew⟩ := acceptBreak_clauses l id cls origin t s
    refine ⟨hsame, fun hnone => ⟨fun i hslot => ?_, (hnew hnone).2⟩⟩
    obtain ⟨htaken, -⟩ := hnew hnone
    have hx := htaken i hslot
    dsimp only at hx ⊢
    rw [hx, createAvail_eq]
    exact ⟨rfl, rfl, rfl, rfl⟩
  · have hout : cueAction f c l s = ((acceptBreak l c.eventId c.cls (.filter f) (cueTimes s l c) s).code,
        (acceptBreak l c.eventId c.cls (.filter f) (cueTimes s l c) s).state) := by unfold cueAction; rw [hkind]
    exact ⟨fun e he => by rw [hout, he]; rfl, fun t ht => by rw [hout, ht]⟩
  · obtain ⟨hgrid, hclose, hprov⟩ := placeBreak_times ht
    obtain ⟨hsame, hfull, hnew⟩ := bookAvail_taken ha hl hrun ht
    refine ⟨exec_bookAvail_times ha hl hrun ht rfl, fun _ => hgrid, hclose, hprov, hsame, hfull, fun hnone hdue i hempty hlow => ?_⟩
    have hmade := hnew hnone hdue i ⟨hempty, hlow⟩
    rw [newAvail, hprov] at hmade
    exact hmade

end Sys2Proof.Certificates
end

section
/-! SUPPORT. The fields of CLAIM (R141, R142), an in tick that moves (R130), and the RETURN and CANCEL cue actions (R114, R131, R132). -/

namespace Sys2Proof.Machine

/-! ## The fields of CLAIM (R141, R142) -/

theorem spotOf_eq_none {r : OptField (BitVec 32)} : spotOf r = none ↔ SpotOut r := by
  cases r with
  | absent => exact ⟨fun e => (nomatch e), False.elim⟩
  | given n => exact Option.map_eq_none_iff.trans within_eq_none
  | undefinedPresence b => exact ⟨fun _ => trivial, fun _ => rfl⟩

theorem spotOf_eq_some {r : OptField (BitVec 32)} {x : Option Nat} (h : spotOf r = some x) : SpotSpells r x := by
  cases r with
  | absent => cases h; exact .inl ⟨rfl, rfl⟩
  | given n =>
    obtain ⟨m, hm, rfl⟩ := Option.map_eq_some_iff.mp h
    obtain ⟨rfl, -⟩ := within_eq_some hm
    exact .inr ⟨n, rfl, rfl⟩
  | undefinedPresence b => cases h

theorem claimOf_eq_none (p : Fin 4) (r : RawClaim) :
    claimOf p r = none ↔ 15 < r.rank.toNat ∨ SpotSourceOut r.source ∨ SpotOut r.spot := by
  rw [← or_false (SpotOut r.spot)]
  exact bind_eq_none_or within_zero_eq_none fun _ _ => bind_eq_none_or spotSourceOf_eq_none fun _ _ =>
    bind_eq_none_or spotOf_eq_none fun _ _ => ⟨fun h => (nomatch h), False.elim⟩

theorem claimOf_eq_some {p : Fin 4} {r : RawClaim} {c : Claim} (h : claimOf p r = some c) :
    c.port = p ∧ c.rank = r.rank.toNat ∧ SpotSourceSpells r.source c.source ∧ SpotSpells r.spot c.spot := by
  unfold claimOf at h
  simp only [Option.bind_eq_bind, Option.bind_eq_some_iff, Option.pure_def, Option.some.injEq] at h
  obtain ⟨rank, hrank, source, hsource, spot, hspot, rfl⟩ := h
  obtain ⟨rfl, -⟩ := within_eq_some hrank
  exact ⟨rfl, rfl, spotSourceOf_eq_some hsource, spotOf_eq_some hspot⟩

/-! ## An in tick that moves (R122, R130) -/

theorem FillStep.started_iff (x : FillStep) : x.started = true ↔ x = .waiting ∨ x = .committed ∨ x = .confirmed := by
  cases x <;> simp [FillStep.started]

/-- The in tick that a proposed one comes to (R130, step 1). -/
theorem raisedIn_eq (L : Lane) (a : Avail) (T : Tick) : raisedIn L a T =
    match a.fillTick with
    | none => T
    | some f =>
      if (a.fillStep = .waiting ∨ a.fillStep = .committed ∨ a.fillStep = .confirmed) ∧
        0 < (addPeriods L.period L.cfg.phase f 1 - T).toInt then addPeriods L.period L.cfg.phase f 1 else T := by
  unfold raisedIn
  cases a.fillTick with
  | none => rfl
  | some f =>
    dsimp only
    rw [maxTick_eq, ← ite_and]
    exact if_congr (and_congr_left fun _ => a.fillStep.started_iff) rfl rfl

/-- The fill tick of a break with a number of frames (R122). -/
theorem deriveFill_eq (L : Lane) (a : Avail) : deriveFill L a =
    match a.holder.bind Claim.spot with
    | none => none
    | some n => if n < a.frames then some (addPeriods L.period L.cfg.phase a.outTick n) else none := by
  unfold deriveFill
  cases a.holder with
  | none => rfl
  | some h => cases h.spot <;> rfl

/-- The four fields that a proposed in tick writes (R130). -/
theorem Avail.moved_eq (a : Avail) (L : Lane) (T : Tick) (clear : Bool) : a.moved L T clear =
    { a with
      inTick := raisedIn L a T
      frames := framesBetween L.period a.outTick (raisedIn L a T)
      provisional := a.provisional && !clear
      fillTick := if a.fillStep ≠ .none then a.fillTick
        else deriveFill L { a with frames := framesBetween L.period a.outTick (raisedIn L a T) } } := by
  unfold Avail.moved; dsimp only
  rw [ite_not]
  split <;> rfl

theorem Avail.moved_eq_self_iff (a : Avail) (L : Lane) (T : Tick) (clear : Bool) : a.moved L T clear = a ↔
    (a.moved L T clear).inTick = a.inTick ∧ (a.moved L T clear).frames = a.frames ∧
      (a.moved L T clear).provisional = a.provisional ∧ (a.moved L T clear).fillTick = a.fillTick := by
  rw [a.moved_eq]
  refine ⟨fun h => ?_, fun ⟨hin, hframes, hprov, hfill⟩ => ?_⟩
  · exact ⟨congrArg Avail.inTick h, congrArg Avail.frames h, congrArg Avail.provisional h, congrArg Avail.fillTick h⟩
  · dsimp only at hin hframes hprov hfill
    rw [hin] at hframes hfill ⊢
    rw [hframes] at hfill ⊢
    rw [hprov, hfill]

theorem updAvail_self (i : Fin 64) (s : State) : (s.updAvail i fun _ => s.avail i) = s := by
  simp [State.updAvail, State.avail]

/-- A proposed in tick leaves the state where it changes nothing, and writes the record and raises AVAIL_RETIMED where it does (R130). -/
theorem moveIn_eq (i : Fin 64) (T : Tick) (cause : RetimeCause) (clear : Bool) (s : State) :
    let b := (s.avail i).moved (s.lane (s.avail i).lane) T clear
    moveIn i T cause clear s =
      if b = s.avail i then s else raise (retimedNotice i cause b s.tick) (s.avail i).addressed (s.updAvail i fun _ => b) := by
  dsimp only
  have haddr : ((s.avail i).moved (s.lane (s.avail i).lane) T clear).addressed = (s.avail i).addressed := by rw [Avail.moved_eq]; rfl
  have hsame := (s.avail i).moved_eq_self_iff (s.lane (s.avail i).lane) T clear
  unfold moveIn; dsimp only
  rw [raiseRetimed_updAvail, haddr]
  refine (if_congr hsame.symm rfl rfl).trans ?_
  split
  · rename_i h; rw [h, updAvail_self]
  · rfl

theorem pullIn_eq (i : Fin 64) (cause : RetimeCause) (s : State) :
    pullIn i cause s = moveIn i (minTick (s.avail i).inTick (earliestEffect (s.lane (s.avail i).lane) s.tick)) cause false s := rfl

/-! ## The in tick of a RETURN (R114) -/

theorem returnTick_error {s : State} {a : Avail} {c : Cue} {e : ReplyCode} (h : anchor s (s.lane a.lane) c = .error e) :
    returnTick s a c = .error e := by
  unfold returnTick; dsimp only; rw [h]

/-- The in tick that a RETURN proposes for an avail of a lane (R114). -/
theorem returnTick_eq {s : State} {a : Avail} {l : Fin 32} {c : Cue} {S B E : Tick} (hl : a.lane = l)
    (h : anchor s (s.lane l) c = .ok S) (hB : alignBoundary (s.lane l).period (s.lane l).cfg.phase S = B)
    (hE : earliestEffect (s.lane l) s.tick = E) :
    returnTick s a c =
      if 1073741824 < (B - s.tick).toInt then .error .far
      else .ok (if 1048575 < (maxTick B E - a.outTick).toInt.toNat / (s.lane l).period
        then addPeriods (s.lane l).period (s.lane l).cfg.phase a.outTick 1048575 else maxTick B E) := by
  subst hl hB hE
  unfold returnTick; dsimp only; rw [h]; dsimp only
  rw [← apply_ite Except.ok]
  rfl

/-! ## The cue actions on an avail (R131, R132) -/

section Cues

variable {l : Fin 32} {c : Cue} {s : State} {i : Fin 64}

theorem cueAction_ret (f : Fin 48) (h : c.kind = .ret) : cueAction f c l s = returnCue l c s := by unfold cueAction; rw [h]

theorem cueAction_cancel (f : Fin 48) (h : c.kind = .cancel) : cueAction f c l s = cancelCue l c s := by unfold cueAction; rw [h]

theorem returnCue_unknown (h : ∀ i, ¬(s.avail i).Answers l c.eventId) : returnCue l c s = (.unknown, s) := by
  unfold returnCue; rw [findLive_eq_none h]

theorem cancelCue_unknown (h : ∀ i, ¬(s.avail i).Answers l c.eventId) : cancelCue l c s = (.unknown, s) := by
  unfold cancelCue; rw [findLive_eq_none h]

/-- An avail of a lane that ends as a CANCEL or an early RETURN asks (R131, R132, R139). -/
theorem finish_cue (hl : (s.avail i).lane = l) (hid : (s.avail i).eventId = c.eventId) : finish i .cancelled .cue s =
    raise (.availCancelled
      { head := { handle := { slot := i, gen := (s.avail i).gen }, lane := l, eventId := c.eventId, tick := s.tick }, reason := .cue
        left := (s.avail i).state, outTick := (s.avail i).outTick, inTick := (s.avail i).inTick, holder := (s.avail i).holder
        finalTick := s.tick }) (s.avail i).addressed
      (s.updAvail i fun a => { a with state := .cancelled, result := some .cue, finalTick := some s.tick, claims := [] }) := by
  subst hl
  rw [finish_eq i .cancelled .cue s rfl, ← hid]
  rfl

variable (hi : (s.avail i).Answers l c.eventId) (hlow : ∀ j < i, ¬(s.avail j).Answers l c.eventId)

include hi hlow

theorem cancelCue_returning (hst : (s.avail i).state = .returning) : cancelCue l c s = (.late, countConflict i s) := by
  unfold cancelCue; rw [findLive_eq_some hi hlow]; dsimp only; rw [hst]

theorem cancelCue_out (hst : (s.avail i).state = .out) : cancelCue l c s = (.ok, pullIn i .cancel s) := by
  unfold cancelCue; rw [findLive_eq_some hi hlow]; dsimp only; rw [hst]

theorem cancelCue_pending (hst : (s.avail i).state = .armed ∨ (s.avail i).state = .closed) :
    cancelCue l c s = (.ok, finish i .cancelled .cue s) := by
  unfold cancelCue; rw [findLive_eq_some hi hlow]; dsimp only
  rcases hst with hst | hst <;> rw [hst]

theorem returnCue_returning (hst : (s.avail i).state = .returning) : returnCue l c s = (.late, countConflict i s) := by
  unfold returnCue; rw [findLive_eq_some hi hlow]; exact if_pos hst

theorem returnCue_error {e : ReplyCode} (hst : (s.avail i).state ≠ .returning) (he : returnTick s (s.avail i) c = .error e) :
    returnCue l c s = (e, s) := by
  unfold returnCue; rw [findLive_eq_some hi hlow]; dsimp only; rw [if_neg hst, he]

/-- A RETURN at or before the out tick of an avail that is not in OUT cancels it, any other moves its in tick (R131). -/
theorem returnCue_ok {T : Tick} (hst : (s.avail i).state ≠ .returning) (hT : returnTick s (s.avail i) c = .ok T) : returnCue l c s =
    if (T - (s.avail i).outTick).toInt ≤ 0 ∧ (s.avail i).state ≠ .out then (.ok, finish i .cancelled .cue s)
    else (.ok, moveIn i T .ret true s) := by
  unfold returnCue; rw [findLive_eq_some hi hlow]; dsimp only; rw [if_neg hst, hT]
  exact if_congr (and_congr_left fun _ => decide_eq_false_iff_not.trans Int.not_lt) rfl rfl

end Cues

end Sys2Proof.Machine
end

section
/-! SUPPORT. CANCEL AVAIL, RELEASE, CLAIM and WITHDRAW on the avail that a handle names (R116, R133, R134, R142, R149): what each block answers
in each state of the avail. -/

namespace Sys2Proof.Machine

theorem lookup_goodFrame (p : Fin 4) (h : RawHandle) (s : State) : lookup h (goodFrame p s) = lookup h s := by
  rw [goodFrame_frame]; rfl

theorem Avail.heldBy_iff (a : Avail) (p : Fin 4) : a.heldBy p = true ↔ a.holder.map Claim.port = some p := by
  unfold Avail.heldBy; cases a.holder <;> simp

theorem Avail.not_heldBy {a : Avail} {p : Fin 4} (h : ¬a.holder.map Claim.port = some p) : a.heldBy p = false :=
  Bool.eq_false_iff.mpr ((a.heldBy_iff p).not.mpr h)

theorem Avail.final_cases {a : Avail} (h : a.final = true) : a.state = .ended ∨ a.state = .cancelled ∨ a.state = .missed := by
  simpa using a.final_iff.mp h

/-! ## An avail whose in tick moved (R130) -/

theorem moveIn_state (i : Fin 64) (T : Tick) (cause : RetimeCause) (clear : Bool) (s : State) :
    ((moveIn i T cause clear s).avail i).state = (s.avail i).state := by rw [moveIn_avail_self, Avail.moved_state]

theorem moveIn_released (i : Fin 64) (T : Tick) (cause : RetimeCause) (clear : Bool) (s : State) :
    ((moveIn i T cause clear s).avail i).released = (s.avail i).released := by rw [moveIn_avail_self, Avail.moved_eq]

/-- Before its FILL step, the in tick of an avail moves to the proposed one (R130). -/
theorem moveIn_inTick {i : Fin 64} {s : State} (h : (s.avail i).fillStep = .none) (T : Tick) (cause : RetimeCause) (clear : Bool) :
    ((moveIn i T cause clear s).avail i).inTick = T := by
  rw [moveIn_avail_self]
  exact (Avail.moved_unstarted (by rw [h]; rfl) _ T clear).1

/-! ## Requests by what their block answers (R188) -/

section Answers

variable {p : Fin 4} {h : RawHandle} {r : RawClaim} {s t : State} {code : ReplyCode} {body : ReplyBody}

theorem exec_cancelAvail (ha : Accepts p .cancelAvail s) (heq : cancelAct h (goodFrame p s) = { code, body, state := t }) :
    exec (.cancelAvail p h) s = .next (answer p .cancelAvail code body t) := congrArg Host.Outcome.next (takeRequest_eq ha heq)

theorem exec_release (ha : Accepts p .release s) (heq : releaseAct p h (goodFrame p s) = { code, body, state := t }) :
    exec (.release p h) s = .next (answer p .release code body t) := congrArg Host.Outcome.next (takeRequest_eq ha heq)

theorem exec_claim (ha : Accepts p .claim s) (heq : claimAct p r (goodFrame p s) = { code, body, state := t }) :
    exec (.claim p r) s = .next (answer p .claim code body t) := congrArg Host.Outcome.next (takeRequest_eq ha heq)

theorem exec_withdraw (ha : Accepts p .withdraw s) (heq : withdrawAct p h (goodFrame p s) = { code, body, state := t }) :
    exec (.withdraw p h) s = .next (answer p .withdraw code body t) := congrArg Host.Outcome.next (takeRequest_eq ha heq)

end Answers

/-! ## A handle that names no avail (R116) -/

section Unnamed

variable {h : RawHandle} {s : State} {e : ReplyCode} (hl : lookup h s = .error e)

include hl

theorem cancelAct_unnamed : cancelAct h s = refuse e s := by unfold cancelAct; rw [hl]

theorem releaseAct_unnamed (p : Fin 4) : releaseAct p h s = refuse e s := by unfold releaseAct; rw [hl]

theorem withdrawAct_unnamed (p : Fin 4) : withdrawAct p h s = refuse e s := by unfold withdrawAct; rw [hl]

end Unnamed

theorem claimAct_range {p : Fin 4} {r : RawClaim} (h : claimOf p r = none) (s : State) : claimAct p r s = refuse .range s := by
  unfold claimAct; rw [h]

theorem claimAct_unnamed {p : Fin 4} {r : RawClaim} {s : State} {e : ReplyCode} (hl : lookup r.handle s = .error e) :
    claimAct p r s = refuse (if claimOf p r = none then .range else e) s := by
  cases hc : claimOf p r with
  | none => rw [claimAct_range hc, if_pos rfl]
  | some c => unfold claimAct; rw [hc, hl, if_neg (Option.some_ne_none c)]

/-! ## The avail that a handle names -/

section Named

variable {p : Fin 4} {h : RawHandle} {s : State} {i : Fin 64} (hl : lookup h s = .ok i)

include hl

theorem cancelAct_pending (hst : (s.avail i).state = .armed ∨ (s.avail i).state = .closed) : cancelAct h s =
    { code := .ok, body := .cancelled .cancelled (s.avail i).inTick (s.avail i).frames, state := finish i .cancelled .request s } := by
  have hrec := finish_avail i .cancelled .request s i
  rw [if_pos rfl] at hrec
  unfold cancelAct; rw [hl]; dsimp only
  rcases hst with hst | hst <;> rw [hst, hrec]

theorem cancelAct_out (hst : (s.avail i).state = .out) : cancelAct h s =
    { code := .ok, body := .cancelled .out ((pullIn i .cancel s).avail i).inTick ((pullIn i .cancel s).avail i).frames
      state := pullIn i .cancel s } := by
  have hout : ((pullIn i .cancel s).avail i).state = .out := by rw [pullIn_eq, moveIn_state, hst]
  unfold cancelAct; rw [hl]; dsimp only; rw [hst, hout]

theorem cancelAct_returning (hst : (s.avail i).state = .returning) : cancelAct h s = refuse .late s := by
  unfold cancelAct; rw [hl]; dsimp only; rw [hst]

theorem cancelAct_final (hst : (s.avail i).final = true) : cancelAct h s = refuse .closed s := by
  unfold cancelAct; rw [hl]; dsimp only
  rcases Avail.final_cases hst with hs | hs | hs <;> rw [hs]

theorem releaseAct_held (hst : (s.avail i).state = .out) (hmine : (s.avail i).holder.map Claim.port = some p) :
    releaseAct p h s = { code := .ok, body := .none, state := releaseAvail i s } := by
  unfold releaseAct; rw [hl]; dsimp only; rw [hst]; exact if_pos ((Avail.heldBy_iff ..).mpr hmine)

theorem releaseAct_other (hst : (s.avail i).state = .out) (hmine : ¬(s.avail i).holder.map Claim.port = some p) :
    releaseAct p h s = refuse .closed s := by
  unfold releaseAct; rw [hl]; dsimp only; rw [hst]; exact if_neg ((Avail.heldBy_iff ..).not.mpr hmine)

theorem releaseAct_pending (hst : (s.avail i).state = .armed ∨ (s.avail i).state = .closed) : releaseAct p h s = refuse .busy s := by
  unfold releaseAct; rw [hl]; dsimp only
  rcases hst with hst | hst <;> rw [hst]

theorem releaseAct_returning (hst : (s.avail i).state = .returning) : releaseAct p h s = refuse .late s := by
  unfold releaseAct; rw [hl]; dsimp only; rw [hst]

theorem releaseAct_final (hst : (s.avail i).final = true) : releaseAct p h s = refuse .closed s := by
  unfold releaseAct; rw [hl]; dsimp only
  rcases Avail.final_cases hst with hs | hs | hs <;> rw [hs]

theorem withdrawAct_removed (hst : (s.avail i).state = .armed) (hc : ∃ c ∈ (s.avail i).claims, c.port = p) : withdrawAct p h s =
    { code := .ok, body := .withdrawn .removed
      state := s.updAvail i fun a => { a with claims := a.claims.filter fun x => decide (x.port ≠ p) } } := by
  have hany : ((s.avail i).claims.any fun x => decide (x.port = p)) = true := by simpa using hc
  unfold withdrawAct; rw [hl]; dsimp only; rw [hst]; exact if_pos hany

theorem withdrawAct_cleared (hst : (s.avail i).state = .closed) (hmine : (s.avail i).holder.map Claim.port = some p) :
    withdrawAct p h s = { code := .ok, body := .withdrawn .holderCleared, state := clearHolder i s } := by
  unfold withdrawAct; rw [hl]; dsimp only; rw [hst]; exact if_pos ((Avail.heldBy_iff ..).mpr hmine)

theorem withdrawAct_released (hst : (s.avail i).state = .out) (hmine : (s.avail i).holder.map Claim.port = some p) :
    withdrawAct p h s = { code := .ok, body := .withdrawn .released, state := releaseAvail i s } := by
  unfold withdrawAct; rw [hl]; dsimp only; rw [hst]; exact if_pos ((Avail.heldBy_iff ..).mpr hmine)

theorem withdrawAct_returning (hst : (s.avail i).state = .returning) (hmine : (s.avail i).holder.map Claim.port = some p) :
    withdrawAct p h s = refuse .late s := by
  unfold withdrawAct; rw [hl]; dsimp only; rw [hst]; exact if_pos ((Avail.heldBy_iff ..).mpr hmine)

/-- There is nothing of the port's to withdraw: a claim in ARMED, the holding of the avail after its claim close (R149). -/
theorem withdrawAct_none (hno : ((s.avail i).state ≠ .armed ∧ ¬(s.avail i).holder.map Claim.port = some p) ∨
      ((s.avail i).state = .armed ∧ ∀ c ∈ (s.avail i).claims, c.port ≠ p) ∨ (s.avail i).final = true) :
    withdrawAct p h s = { code := .ok, body := .withdrawn .none, state := s } := by
  unfold withdrawAct; rw [hl]; dsimp only
  rcases hno with ⟨hst, hmine⟩ | ⟨hst, hclaims⟩ | hst
  · have hheld := Avail.not_heldBy hmine
    cases hs : (s.avail i).state with
    | armed => exact absurd hs hst
    | closed | out | returning => exact if_neg (by rw [hheld]; exact Bool.false_ne_true)
    | empty | ended | cancelled | missed => rfl
  · have hany : ¬((s.avail i).claims.any fun x => decide (x.port = p)) = true := by simpa using hclaims
    rw [hst]; exact if_neg hany
  · rcases Avail.final_cases hst with hs | hs | hs <;> rw [hs]

end Named

section Claimed

variable {p : Fin 4} {r : RawClaim} {c : Claim} {s : State} {i : Fin 64} (hc : claimOf p r = some c) (hl : lookup r.handle s = .ok i)

include hc hl

theorem claimAct_unarmed (hst : (s.avail i).state ≠ .armed) : claimAct p r s = refuse .closed s := by
  unfold claimAct; rw [hc]; dsimp only; rw [hl]; exact if_pos hst

/-- A claim taken takes the place of an earlier one of its port (R142). -/
theorem claimAct_armed (hst : (s.avail i).state = .armed) : claimAct p r s =
    { code := .ok
      body := .claimed (s.handleOf i) (s.avail i).claimClose ((s.avail i).claims.filter (fun x => decide (x.port ≠ p)) ++ [c]).length
        ((s.avail i).claims.any fun x => decide (x.port = p))
      state := s.updAvail i fun a => { a with claims := (s.avail i).claims.filter (fun x => decide (x.port ≠ p)) ++ [c] } } := by
  unfold claimAct; rw [hc]; dsimp only; rw [hl]; exact if_neg (not_not.mpr hst)

end Claimed

/-! ## An in tick pulled in (R132 to R134) -/

/-- The in tick of an avail pulled in to its lane's earliest effect (R132, R134). -/
def pulledIn (i : Fin 64) (s : State) : Tick := minTick (s.avail i).inTick (earliestEffect (s.lane (s.avail i).lane) s.tick)

theorem pullIn_goodFrame (i : Fin 64) (cause : RetimeCause) (p : Fin 4) (s : State) :
    pullIn i cause (goodFrame p s) = moveIn i (pulledIn i s) cause false (goodFrame p s) := by
  rw [pullIn_eq, goodFrame_avail, goodFrame_lane, goodFrame_tick]; rfl

/-- The release of an airing avail: its flag, then its in tick pulled in (R134). -/
theorem releaseAvail_goodFrame (i : Fin 64) (p : Fin 4) (s : State) : releaseAvail i (goodFrame p s) =
    moveIn i (pulledIn i s) .release false ((goodFrame p s).updAvail i fun a => { a with released := true }) := by
  unfold releaseAvail
  rw [pullIn_eq, State.updAvail_avail_self, State.updAvail_lane, State.updAvail_tick, goodFrame_avail, goodFrame_lane, goodFrame_tick]
  rfl

end Sys2Proof.Machine
end

section
/-! Avails: RETURN and CANCEL cues, and the requests on an avail. -/

namespace Sys2Proof.Certificates

open Sys2Proof.Machine

/-- The clauses on the cue actions on the avail of their lane and event id (R114, R131, R132). -/
theorem cueAction_clauses (f : Fin 48) (c : Cue) (l : Fin 32) (s : State) (i : Fin 64) (hi : (s.avail i).Answers l c.eventId)
    (hlow : ∀ j < i, ¬(s.avail j).Answers l c.eventId) :
    let a := s.avail i
    let L := s.lane l
    let E := earliestEffect L s.tick
    let cancelled := finish i .cancelled .cue s
    (c.kind = .ret ∨ c.kind = .cancel → a.state = .returning → cueAction f c l s = (.late, countConflict i s)) ∧
    (c.kind = .cancel → a.state = .armed ∨ a.state = .closed → cueAction f c l s = (.ok, cancelled)) ∧
    (c.kind = .cancel → a.state = .out → cueAction f c l s = (.ok, moveIn i (minTick a.inTick E) .cancel false s)) ∧
    (c.kind = .ret → a.state ≠ .returning →
      (∀ e, anchor s L c = .error e → cueAction f c l s = (e, s)) ∧
      ∀ S, anchor s L c = .ok S →
        let B := alignBoundary L.period L.cfg.phase S
        let least := maxTick B E
        let T := if 1048575 < (least - a.outTick).toInt.toNat / L.period then addPeriods L.period L.cfg.phase a.outTick 1048575 else least
        (1073741824 < (B - s.tick).toInt → cueAction f c l s = (.far, s)) ∧
        ((B - s.tick).toInt ≤ 1073741824 →
          ((T - a.outTick).toInt ≤ 0 → a.state ≠ .out → cueAction f c l s = (.ok, cancelled)) ∧
          (0 < (T - a.outTick).toInt ∨ a.state = .out → cueAction f c l s = (.ok, moveIn i T .ret true s)))) := by
  have ⟨_, hlane, _⟩ := hi
  refine ⟨fun hkind hst => ?_, fun hkind hst => ?_, fun hkind hst => ?_, fun hkind hst => ⟨fun e he => ?_, fun S hS => ?_⟩⟩
  · rcases hkind with hkind | hkind
    · rw [cueAction_ret f hkind, returnCue_returning hi hlow hst]
    · rw [cueAction_cancel f hkind, cancelCue_returning hi hlow hst]
  · rw [cueAction_cancel f hkind, cancelCue_pending hi hlow hst]
  · rw [cueAction_cancel f hkind, cancelCue_out hi hlow hst, pullIn_eq, hlane]
  · rw [cueAction_ret f hkind, returnCue_error hi hlow hst (returnTick_error (by rw [hlane]; exact he))]
  · have htick := returnTick_eq hlane hS rfl rfl
    rw [cueAction_ret f hkind]
    refine ⟨fun hfar => returnCue_error hi hlow hst (htick.trans (if_pos hfar)), fun hnear => ?_⟩
    rw [returnCue_ok hi hlow hst (htick.trans (if_neg (Int.not_lt.mpr hnear)))]
    refine ⟨fun hearly hout => if_pos ⟨hearly, hout⟩, fun hlater => if_neg fun ⟨hearly, hout⟩ => ?_⟩
    exact hlater.elim (Int.not_lt.mpr hearly) hout

/-- The clauses on a handle that names no avail (R116). -/
theorem unnamed_clauses (p : Fin 4) (h : RawHandle) (s : State) (code : ReplyCode) (hl : lookup h s = .error code) :
    (Accepts p .cancelAvail s → exec (.cancelAvail p h) s = .next (answer p .cancelAvail code .none (goodFrame p s))) ∧
    (Accepts p .release s → exec (.release p h) s = .next (answer p .release code .none (goodFrame p s))) ∧
    (Accepts p .withdraw s → exec (.withdraw p h) s = .next (answer p .withdraw code .none (goodFrame p s))) ∧
    ∀ r : RawClaim, r.handle = h → Accepts p .claim s → exec (.claim p r) s = .next
      (answer p .claim (if claimOf p r = none then .range else code) .none (goodFrame p s)) := by
  have hl' : lookup h (goodFrame p s) = .error code := by rw [lookup_goodFrame, hl]
  refine ⟨fun ha => ?_, fun ha => ?_, fun ha => ?_, fun r hr ha => ?_⟩
  · exact exec_cancelAvail ha (cancelAct_unnamed hl')
  · exact exec_release ha (releaseAct_unnamed hl' p)
  · exact exec_withdraw ha (withdrawAct_unnamed hl' p)
  · subst hr; exact exec_claim ha (claimAct_unnamed hl')

section Named

variable {p : Fin 4} {h : RawHandle} {i : Fin 64} {s : State} (hl : lookup h s = .ok i)

include hl

/-- The clauses on CANCEL AVAIL (R133). -/
theorem cancelAvail_clauses (ha : Accepts p .cancelAvail s) :
    let a := s.avail i
    (a.state = .armed ∨ a.state = .closed → ∃ t, exec (.cancelAvail p h) s = .next t ∧ AvailsOnly s t ∧
      t.avail i = a.ending .cancelled .request s.tick ∧ (∀ j, j ≠ i → t.avail j = s.avail j) ∧
      (t.port p).reply = some { request := 26, outcome := .ok, body := .cancelled .cancelled a.inTick a.frames } ∧
      t = answer p .cancelAvail .ok (.cancelled .cancelled a.inTick a.frames) (raise (.availCancelled (finalNoticeOf i a .request s.tick))
        a.addressed ((goodFrame p s).updAvail i (Avail.ending .cancelled .request s.tick)))) ∧
    (a.state = .out → ∃ t, exec (.cancelAvail p h) s = .next t ∧ AvailsOnly s t ∧ (t.avail i).state = .out ∧
      (t.avail i).released = a.released ∧ (∀ j, j ≠ i → t.avail j = s.avail j) ∧
      let u := moveIn i (pulledIn i s) .cancel false (goodFrame p s)
      t = answer p .cancelAvail .ok (.cancelled .out (u.avail i).inTick (u.avail i).frames) u) ∧
    (a.state = .returning → exec (.cancelAvail p h) s = .next (answer p .cancelAvail .late .none (goodFrame p s))) ∧
    (a.final = true → exec (.cancelAvail p h) s = .next (answer p .cancelAvail .closed .none (goodFrame p s))) := by
  have hl' : lookup h (goodFrame p s) = .ok i := by rw [lookup_goodFrame, hl]
  have hframe := goodFrame_avail p s
  rw [← hframe i]
  refine ⟨fun hst => ⟨_, exec_cancelAvail ha (cancelAct_pending hl' hst), ?_, ?_, fun j hj => ?_, answer_reply .., ?_⟩,
    fun hst => ⟨_, exec_cancelAvail ha (cancelAct_out hl' hst), ?_, ?_, ?_, fun j hj => ?_, ?_⟩,
    fun hst => exec_cancelAvail ha (cancelAct_returning hl' hst),
    fun hst => exec_cancelAvail ha (cancelAct_final hl' hst)⟩
  · exact ((goodFrame_ports p s).avails.trans (finish_avails ..)).trans (answer_ports ..).avails
  · rw [(answer_ports ..).avail, finish_avail, if_pos rfl, goodFrame_tick]; rfl
  · rw [(answer_ports ..).avail, finish_avail, if_neg hj, hframe]
  · rw [finish_eq i .cancelled .request _ rfl, goodFrame_tick]; rfl
  · exact ((goodFrame_ports p s).avails.trans (pullIn_avails ..)).trans (answer_ports ..).avails
  · rw [(answer_ports ..).avail, pullIn_eq, moveIn_state, hst]
  · rw [(answer_ports ..).avail, pullIn_eq, moveIn_released]
  · rw [(answer_ports ..).avail, pullIn_eq, (moveIn_onlyRetimes ..).1 j hj, hframe]
  · rw [pullIn_goodFrame]

/-- The clauses on RELEASE (R134). -/
theorem release_clauses (ha : Accepts p .release s) :
    let a := s.avail i
    let mine := a.holder.map Claim.port = some p
    (a.state = .out → mine → ∃ t, exec (.release p h) s = .next t ∧ AvailsOnly s t ∧ (t.avail i).state = .out ∧
      (t.avail i).released = true ∧ (a.fillStep = .none → (t.avail i).inTick = pulledIn i s) ∧ (∀ j, j ≠ i → t.avail j = s.avail j) ∧
      t = answer p .release .ok .none
        (moveIn i (pulledIn i s) .release false ((goodFrame p s).updAvail i fun a => { a with released := true }))) ∧
    (a.state = .out → ¬mine → exec (.release p h) s = .next (answer p .release .closed .none (goodFrame p s))) ∧
    (a.state = .armed ∨ a.state = .closed → exec (.release p h) s = .next (answer p .release .busy .none (goodFrame p s))) ∧
    (a.state = .returning → exec (.release p h) s = .next (answer p .release .late .none (goodFrame p s))) ∧
    (a.final = true → exec (.release p h) s = .next (answer p .release .closed .none (goodFrame p s))) := by
  have hl' : lookup h (goodFrame p s) = .ok i := by rw [lookup_goodFrame, hl]
  have hframe := goodFrame_avail p s
  rw [← hframe i]
  refine ⟨fun hst hmine => ⟨_, exec_release ha (releaseAct_held hl' hst hmine), ?_, ?_, ?_, fun hfill => ?_,
      fun j hj => ?_, ?_⟩,
    fun hst hmine => exec_release ha (releaseAct_other hl' hst hmine),
    fun hst => exec_release ha (releaseAct_pending hl' hst),
    fun hst => exec_release ha (releaseAct_returning hl' hst),
    fun hst => exec_release ha (releaseAct_final hl' hst)⟩
  · exact ((goodFrame_ports p s).avails.trans (releaseAvail_avails ..)).trans (answer_ports ..).avails
  · rw [(answer_ports ..).avail, releaseAvail_goodFrame, moveIn_state, State.updAvail_avail_self, hst]
  · rw [(answer_ports ..).avail, releaseAvail_goodFrame, moveIn_released, State.updAvail_avail_self]
  · rw [(answer_ports ..).avail, releaseAvail_goodFrame, moveIn_inTick (by rw [State.updAvail_avail_self]; exact hfill)]
  · rw [(answer_ports ..).avail, releaseAvail_goodFrame, (moveIn_onlyRetimes ..).1 j hj, State.updAvail_avail, if_neg hj, hframe]
  · rw [releaseAvail_goodFrame]

/-- The clauses on CLAIM (R142). -/
theorem claim_clauses {r : RawClaim} (hr : r.handle = h) (ha : Accepts p .claim s) :
    let a := s.avail i
    (claimOf p r = none → exec (.claim p r) s = .next (answer p .claim .range .none (goodFrame p s))) ∧
    ∀ c, claimOf p r = some c →
      (a.state ≠ .armed → exec (.claim p r) s = .next (answer p .claim .closed .none (goodFrame p s))) ∧
      (a.state = .armed →
        let cs := a.claims.filter (fun x => decide (x.port ≠ p)) ++ [c]
        exec (.claim p r) s = .next (answer p .claim .ok
          (.claimed { slot := i, gen := a.gen } a.claimClose cs.length (a.claims.any fun x => decide (x.port = p)))
          ((goodFrame p s).updAvail i fun a => { a with claims := cs }))) := by
  subst hr
  have hl' : lookup r.handle (goodFrame p s) = .ok i := by rw [lookup_goodFrame, hl]
  rw [← goodFrame_avail p s i]
  exact ⟨fun hc => exec_claim ha (claimAct_range hc _), fun c hc =>
    ⟨fun hst => exec_claim ha (claimAct_unarmed hc hl' hst),
      fun hst => exec_claim ha (claimAct_armed hc hl' hst)⟩⟩

/-- The clauses on WITHDRAW (R149). -/
theorem withdraw_clauses (ha : Accepts p .withdraw s) :
    let a := s.avail i
    let mine := a.holder.map Claim.port = some p
    (a.state = .armed → (∃ c ∈ a.claims, c.port = p) →
      exec (.withdraw p h) s = .next (answer p .withdraw .ok (.withdrawn .removed)
        ((goodFrame p s).updAvail i fun a => { a with claims := a.claims.filter fun x => decide (x.port ≠ p) }))) ∧
    (a.state = .closed → mine → exec (.withdraw p h) s = .next (answer p .withdraw .ok (.withdrawn .holderCleared)
      (clearHolder i (goodFrame p s)))) ∧
    (a.state = .out → mine → ∃ t, exec (.withdraw p h) s = .next t ∧ (t.avail i).state = .out ∧ (t.avail i).released = true ∧
      t = answer p .withdraw .ok (.withdrawn .released)
        (moveIn i (pulledIn i s) .release false ((goodFrame p s).updAvail i fun a => { a with released := true }))) ∧
    (a.state = .returning → mine → exec (.withdraw p h) s = .next (answer p .withdraw .late .none (goodFrame p s))) ∧
    ((a.state ≠ .armed ∧ ¬mine) ∨ (a.state = .armed ∧ ∀ c ∈ a.claims, c.port ≠ p) ∨ a.final = true →
      exec (.withdraw p h) s = .next (answer p .withdraw .ok (.withdrawn .none) (goodFrame p s))) := by
  have hl' : lookup h (goodFrame p s) = .ok i := by rw [lookup_goodFrame, hl]
  rw [← goodFrame_avail p s i]
  refine ⟨fun hst hc => exec_withdraw ha (withdrawAct_removed hl' hst hc),
    fun hst hmine => exec_withdraw ha (withdrawAct_cleared hl' hst hmine),
    fun hst hmine => ⟨_, exec_withdraw ha (withdrawAct_released hl' hst hmine), ?_, ?_, ?_⟩,
    fun hst hmine => exec_withdraw ha (withdrawAct_returning hl' hst hmine),
    fun hno => exec_withdraw ha (withdrawAct_none hl' hno)⟩
  · rw [(answer_ports ..).avail, releaseAvail_goodFrame, moveIn_state, State.updAvail_avail_self, hst]
  · rw [(answer_ports ..).avail, releaseAvail_goodFrame, moveIn_released, State.updAvail_avail_self]
  · rw [releaseAvail_goodFrame]

end Named

/-- Settles O51: the claim's fields, the moved in tick, the two cue actions, and each request by the state of the avail. -/
theorem availRequests : Obligations.AvailRequests := by
  refine ⟨fun p r => ⟨claimOf_eq_none p r, fun c => claimOf_eq_some⟩, fun i T cause clear s => ?_,
    fun f c l s => ⟨fun hnone hkind => ?_, fun i hi hlow => ?_⟩, fun p h s code hno => unnamed_clauses p h s code ?_,
    fun p h i s hi hst hgen => ?_⟩
  · have hmove := moveIn_eq i T cause clear s
    rw [Avail.moved_eq, deriveFill_eq, raisedIn_eq] at hmove
    exact hmove
  · rcases hkind with hkind | hkind
    · rw [cueAction_ret f hkind, returnCue_unknown hnone]
    · rw [cueAction_cancel f hkind, cancelCue_unknown hnone]
  · have hclauses := cueAction_clauses f c l s i hi hlow
    obtain ⟨-, hlane, hid⟩ := hi
    rw [finish_cue hlane hid] at hclauses
    exact hclauses
  · rcases hno with ⟨hout, rfl⟩ | ⟨i, hi, hne, rfl⟩
    · exact lookup_range hout
    · exact lookup_unknown hi hne
  · have hl := lookup_ok hi hst hgen
    exact ⟨cancelAvail_clauses hl, release_clauses hl, fun r hr ha => claim_clauses hl hr ha, withdraw_clauses hl⟩

end Sys2Proof.Certificates
end

section
/-! SUPPORT. What the invariants of the avails and their claims read of an avail's record (R117, R124, R141, R153, R190), and the relation
by which operations keep these invariants. -/

namespace Sys2Proof

open Sys2Proof.Machine

/-! ## One avail -/

/-- What the invariants read of an avail's record: its state, its lane, its claims and its holder. -/
def Machine.Avail.stake (a : Avail) : AvailState × Fin 32 × List Claim × Option Claim := (a.state, a.lane, a.claims, a.holder)

/-- The part of ClaimsSound that speaks of one avail (R117, R141). -/
def Machine.Avail.ClaimsSound (a : Avail) : Prop := (a.claims.map Claim.port).Nodup ∧ (a.state ≠ .armed → a.claims = [])

/-- A port has a claim on an avail, or holds it while it is CLOSED (R141, R153). -/
def Machine.Avail.StakedBy (a : Avail) (p : Fin 4) : Prop :=
  (∃ c ∈ a.claims, c.port = p) ∨ a.state = .closed ∧ ∃ h ∈ a.holder, h.port = p

/-- An avail b after a: its claims stay sound, and no port that is DETACHED gains a claim or becomes the holder. -/
structure Machine.Avail.ClaimsFollow (detached : Fin 4 → Prop) (a b : Avail) : Prop where
  sound : a.ClaimsSound → b.ClaimsSound
  staked : ∀ p, detached p → b.StakedBy p → a.StakedBy p

/-- An avail b after a that goes on air nowhere anew. -/
structure Machine.Avail.Follows (detached : Fin 4 → Prop) (a b : Avail) : Prop extends a.ClaimsFollow detached b where
  airing : b.airing = true → a.airing = true ∧ b.lane = a.lane

/-- An avail that stays in its state on its lane may lose claims and its holder. -/
theorem Machine.Avail.Follows.of_fewer {detached : Fin 4 → Prop} {a b : Avail} (hst : b.state = a.state) (hlane : b.lane = a.lane)
    (hclaims : b.claims.Sublist a.claims) (hholder : ∀ h ∈ b.holder, h ∈ a.holder) : a.Follows detached b where
  sound := fun ⟨hnodup, hempty⟩ => ⟨hnodup.sublist (hclaims.map _), fun h => by
    rw [hempty (by rwa [← hst])] at hclaims; exact List.sublist_nil.mp hclaims⟩
  staked := fun p _ => by
    rintro (⟨c, hc, hp⟩ | ⟨hclosed, h, hh, hp⟩)
    · exact .inl ⟨c, hclaims.subset hc, hp⟩
    · exact .inr ⟨hst ▸ hclosed, h, hholder h hh, hp⟩
  airing := fun h => ⟨by unfold Avail.airing at *; rwa [← hst], hlane⟩

theorem Machine.Avail.Follows.of_stake {detached : Fin 4 → Prop} {a b : Avail} (h : b.stake = a.stake) : a.Follows detached b := by
  simp only [Avail.stake, Prod.mk.injEq] at h
  obtain ⟨hst, hlane, hclaims, hholder⟩ := h
  exact .of_fewer hst hlane (hclaims ▸ .refl _) fun x hx => hholder ▸ hx

theorem Machine.Avail.Follows.refl (detached : Fin 4 → Prop) (a : Avail) : a.Follows detached a := .of_stake rfl

/-- An avail without claims that is not on air: a new one, a final one, or a CLOSED one that no DETACHED port holds. -/
theorem Machine.Avail.Follows.of_unclaimed {detached : Fin 4 → Prop} {a b : Avail} (hair : b.airing = false) (hclaims : b.claims = [])
    (hholder : b.state = .closed → ∀ h ∈ b.holder, ¬detached h.port) : a.Follows detached b where
  sound := fun _ => ⟨by rw [hclaims]; exact .nil, fun _ => hclaims⟩
  staked := fun p hd => by
    rintro (⟨c, hc, -⟩ | ⟨hclosed, h, hh, hp⟩)
    · rw [hclaims] at hc; cases hc
    · exact absurd (hp ▸ hd) (hholder hclosed h hh)
  airing := fun h => by rw [hair] at h; cases h

/-- An avail that goes on from CLOSED, or from being on air, with its claims as they were (R124, R127). -/
theorem Machine.Avail.ClaimsFollow.of_airing {detached : Fin 4 → Prop} {a b : Avail} (ha : a.state ≠ .armed) (hb : b.airing = true)
    (hclaims : b.claims = a.claims) : a.ClaimsFollow detached b where
  sound := fun ⟨hnodup, hempty⟩ => ⟨by rwa [hclaims], fun _ => by rw [hclaims, hempty ha]⟩
  staked := fun p _ => by
    rintro (⟨c, hc, hp⟩ | ⟨hclosed, -⟩)
    · exact .inl ⟨c, hclaims ▸ hc, hp⟩
    · unfold Avail.airing at hb; rw [hclosed] at hb; cases hb

theorem Machine.Avail.airing_of_final {a : Avail} (h : a.final = true) : a.airing = false := by
  cases hst : a.state <;> simp_all [Avail.final, Avail.airing]

theorem Machine.Avail.EndsAs.follows {detached : Fin 4 → Prop} {a b : Avail} (h : a.EndsAs b) : a.Follows detached b := by
  obtain ⟨hfinal, hb⟩ := h
  obtain ⟨-, hclosed, -⟩ := Avail.state_of_final hfinal
  exact .of_unclaimed (Avail.airing_of_final hfinal) (by rw [hb]) fun h => absurd h hclosed

theorem Machine.Avail.stake_of_untimed {a b : Avail} (h : b.untimed = a.untimed) : b.stake = a.stake :=
  show b.untimed.stake = a.untimed.stake from congrArg Avail.stake h

theorem Machine.Avail.live_of_stake {a b : Avail} (h : b.stake = a.stake) : b.live = true → a.live = true ∧ b.lane = a.lane := by
  simp only [Avail.stake, Prod.mk.injEq] at h
  obtain ⟨hst, hlane, -⟩ := h
  unfold Avail.live; rw [hst]; exact fun hlive => ⟨hlive, hlane⟩

/-! ## The invariants -/

/-- No two avails of a lane air: the second part of AvailsSound (R124). -/
def AiringAlone (s : State) : Prop :=
  ∀ i j, (s.avail i).airing = true → (s.avail j).airing = true → (s.avail i).lane = (s.avail j).lane → i = j

theorem availsSound_iff (s : State) : AvailsSound s ↔ LiveInRun s ∧ AiringAlone s := Iff.rfl

theorem AiringAlone.of_airing {s t : State} (hs : AiringAlone s)
    (h : ∀ i, (t.avail i).airing = true → (s.avail i).airing = true ∧ (t.avail i).lane = (s.avail i).lane) : AiringAlone t :=
  fun i j hi hj hlane => by
    obtain ⟨hair, hsame⟩ := h i hi
    obtain ⟨hair', hsame'⟩ := h j hj
    rw [hsame, hsame'] at hlane
    exact hs i j hair hair' hlane

/-- A port has no standing claim, no claim on an avail, and holds no CLOSED avail (R190). -/
def Machine.State.HoldsNothing (s : State) (p : Fin 4) : Prop := (∀ l, s.place l p = none) ∧ ∀ i, ¬(s.avail i).StakedBy p

theorem detachedHoldsNothing_iff (s : State) :
    DetachedHoldsNothing s ↔ ∀ p, (s.port p).state = .detached → s.HoldsNothing p := by
  refine forall₂_congr fun p _ => ?_
  refine and_congr_right fun _ => ⟨fun ⟨hclaims, hholder⟩ i => ?_, fun h => ⟨fun i c hc hp => ?_, fun i hclosed x hx hp => ?_⟩⟩
  · rintro (⟨c, hc, hp⟩ | ⟨hclosed, x, hx, hp⟩)
    · exact hclaims i c hc hp
    · exact hholder i hclosed x hx hp
  · exact h i (.inl ⟨c, hc, hp⟩)
  · exact h i (.inr ⟨hclosed, x, hx, hp⟩)

/-- Each part of AvailsSound, ClaimsSound and DetachedHoldsNothing that stands in s stands in t; the last where claims are sound, since a
detach leaves the claims list of an avail that is not ARMED (R155). -/
structure BreaksKept (s t : State) : Prop where
  run : LiveInRun s → LiveInRun t
  alone : AiringAlone s → AiringAlone t
  claims : ClaimsSound s → ClaimsSound t
  detached : ClaimsSound s → DetachedHoldsNothing s → DetachedHoldsNothing t

theorem BreaksKept.refl (s : State) : BreaksKept s s := ⟨id, id, id, fun _ => id⟩

theorem BreaksKept.trans {s t u : State} (h : BreaksKept s t) (g : BreaksKept t u) : BreaksKept s u :=
  ⟨g.run ∘ h.run, g.alone ∘ h.alone, g.claims ∘ h.claims, fun hc hd => g.detached (h.claims hc) (h.detached hc hd)⟩

theorem BreaksKept.ite {s t u : State} {c : Prop} [Decidable c] (h : BreaksKept s t) (g : BreaksKept s u) :
    BreaksKept s (if c then t else u) := by
  split
  · exact h
  · exact g

theorem foldl_breaksKept {α : Type} (f : State → α → State) (hf : ∀ s a, BreaksKept s (f s a)) (xs : List α) (s : State) :
    BreaksKept s (xs.foldl f s) := foldl_keeps BreaksKept .refl (fun _ _ _ => .trans) f hf xs s

theorem BreaksKept.sound {s t : State} (h : BreaksKept s t) (hs : AvailsSound s) : AvailsSound t := by
  obtain ⟨hrun, halone⟩ := (availsSound_iff s).mp hs
  exact (availsSound_iff t).mpr ⟨h.run hrun, h.alone halone⟩

/-- Where no port becomes DETACHED, what each avail's claims and each place come to decides. -/
theorem BreaksKept.of_claims {s t : State} (hrun : LiveInRun s → LiveInRun t) (halone : AiringAlone s → AiringAlone t)
    (hports : ∀ p, (t.port p).state = .detached → (s.port p).state = .detached)
    (hplaces : ∀ l p, (t.port p).state = .detached → s.place l p = none → t.place l p = none)
    (hf : ∀ i, (s.avail i).ClaimsFollow (fun p => (t.port p).state = .detached) (t.avail i)) : BreaksKept s t where
  run := hrun
  alone := halone
  claims := fun hs i => (hf i).sound (hs i)
  detached := fun _ hs => by
    rw [detachedHoldsNothing_iff] at hs ⊢
    intro p hp
    obtain ⟨hplace, hstake⟩ := hs p (hports p hp)
    exact ⟨fun l => hplaces l p hp (hplace l), fun i h => hstake i ((hf i).staked p hp h)⟩

theorem place_of_standing {s t : State} (h : t.standing = s.standing) (l : Fin 32) (p : Fin 4) : t.place l p = s.place l p := by
  unfold State.place; rw [h]

theorem PortsHear.state {s t : State} (h : PortsHear s t) (p : Fin 4) : (t.port p).state = (s.port p).state := (h p).keeps.2.1

/-- Where ports hear and live avails stay on lanes in RUN, what each avail comes to decides. -/
theorem RunKept.breaksKept {s t : State} (h : RunKept s t) (hplaces : t.standing = s.standing)
    (hf : ∀ i, (s.avail i).Follows (fun p => (s.port p).state = .detached) (t.avail i)) : BreaksKept s t := by
  refine .of_claims h.run (fun hs => hs.of_airing fun i => (hf i).airing) (fun p => by rw [h.hears.state]; exact id)
    (fun l p _ hp => by rw [place_of_standing hplaces]; exact hp) fun i => ⟨(hf i).sound, fun p hp => (hf i).staked p ?_⟩
  rw [← h.hears.state]; exact hp

theorem BreakOnly.standing {s t : State} (h : BreakOnly s t) : t.standing = s.standing := by unfold BreakOnly at h; rw [h]
theorem AvailsOnly.standing {s t : State} (h : AvailsOnly s t) : t.standing = s.standing := h.break.standing

/-- Where avails end and nothing else becomes of them. -/
theorem AvailsEnd.breaksKept {s t : State} (h : AvailsEnd s t) (hr : RunKept s t) (hplaces : t.standing = s.standing) :
    BreaksKept s t :=
  hr.breaksKept hplaces fun i => by
    rcases h i with e | hend
    · rw [e]; exact .refl ..
    · exact hend.follows

theorem Resolves.breaksKept {s t : State} (h : Resolves s t) (hplaces : t.standing = s.standing) : BreaksKept s t :=
  h.avails.breaksKept h.runKept hplaces

theorem BreaksKept.of_eq {s t : State} (hp : t.ports = s.ports) (ha : t.avails = s.avails) (hl : t.lanes = s.lanes)
    (hplaces : t.standing = s.standing) : BreaksKept s t := (Resolves.of_eq hp ha hl).breaksKept hplaces

theorem PassOnly.breaksKept {s t : State} (h : PassOnly s t) : BreaksKept s t :=
  .of_eq (by rw [h.frame]) (by rw [h.frame]) (by rw [h.frame]) (by rw [h.frame])

/-- Where one avail is re-timed (R130). -/
theorem Machine.OnlyRetimes.breaksKept {i : Fin 64} {s t : State} (h : OnlyRetimes i s t) (hr : RunKept s t)
    (hplaces : t.standing = s.standing) : BreaksKept s t :=
  hr.breaksKept hplaces fun j => .of_stake (Avail.stake_of_untimed (h.untimed j))

/-- A lane's record that comes to or leaves any state but RUN, or stays in RUN (R21, R23, R25). -/
theorem Machine.OnlyLane.runKept {l : Fin 32} {s t : State} (h : OnlyLane l s t)
    (hst : (s.lane l).state = .run → (t.lane l).state = .run) : RunKept s t := by
  refine ⟨h.hears, fun hs i => ?_⟩
  have havail : t.avail i = s.avail i := by unfold State.avail; rw [h.avails]
  rw [havail]; intro hi
  by_cases hl : (s.avail i).lane = l
  · rw [hl]; exact hst (hl ▸ hs i hi)
  · rw [h.lanes _ hl]; exact hs i hi

theorem Machine.OnlyLane.breaksKept {l : Fin 32} {s t : State} (h : OnlyLane l s t)
    (hst : (s.lane l).state = .run → (t.lane l).state = .run) (hplaces : t.standing = s.standing) : BreaksKept s t :=
  (AvailsEnd.of_avails h.avails).breaksKept (h.runKept hst) hplaces

end Sys2Proof

namespace Sys2Proof.Machine

/-! ## One record -/

theorem updAvail_breaksKept (i : Fin 64) (f : Avail → Avail) (s : State) (hr : RunKept s (s.updAvail i f))
    (hf : (s.avail i).Follows (fun p => (s.port p).state = .detached) (f (s.avail i))) : BreaksKept s (s.updAvail i f) :=
  hr.breaksKept rfl fun j => by
    rw [State.updAvail_avail]; split
    · rename_i h; subst h; exact hf
    · exact .refl ..

/-- A change of an avail's record that leaves its state, its lane, its claims and its holder. -/
theorem updAvail_breaksKept_of_stake (i : Fin 64) (f : Avail → Avail) (s : State) (hf : (f (s.avail i)).stake = (s.avail i).stake) :
    BreaksKept s (s.updAvail i f) := updAvail_breaksKept _ _ _ (updAvail_runKept _ _ _ (Avail.live_of_stake hf)) (.of_stake hf)

theorem updPort_breaksKept (p : Fin 4) (f : Port → Port) (s : State)
    (hf : (f (s.port p)).state = .detached → (s.port p).state = .detached) : BreaksKept s (s.updPort p f) := by
  refine .of_claims id id (fun q => ?_) (fun _ _ _ h => h) fun i => (Avail.Follows.refl _ _).toClaimsFollow
  rw [State.updPort_port]; split
  · rename_i h; subst h; exact hf
  · exact id

theorem raise_breaksKept (n : Notice) (a : List (Fin 4)) (s : State) : BreaksKept s (raise n a s) := (raise_resolves n a s).breaksKept rfl

theorem setOrder_breaksKept (l : Fin 32) (o : Option Outstanding) (s : State) : BreaksKept s (s.setOrder l o) := .of_eq rfl rfl rfl rfl

theorem updLane_breaksKept (l : Fin 32) (f : Lane → Lane) (s : State)
    (hf : (s.lane l).state = .run → (f (s.lane l)).state = .run) : BreaksKept s (s.updLane l f) :=
  (updLane_onlyLane l f s).breaksKept (by rw [State.updLane_lane_self]; exact hf) rfl

theorem commit_breaksKept (l : Fin 32) (k : StepKind) (x : Source) (e : Tick) (a : Option Handle) (s : State) :
    BreaksKept s (commit l k x e a s) := (commit_resolves l k x e a s).breaksKept rfl

theorem reresolve_breaksKept (c : ResolveCause) (l : Fin 32) (s : State) : BreaksKept s (reresolve c l s) :=
  (reresolve_resolves c l s).breaksKept (reresolve_break c l s).standing

theorem windowChange_breaksKept (m : LaneSet) (s : State) : BreaksKept s (windowChange m s) :=
  (windowChange_resolves m s).breaksKept (windowChange_break m s).standing

theorem alertChange_breaksKept (z : ZoneSet) (s : State) : BreaksKept s (alertChange z s) :=
  (alertChange_resolves z s).breaksKept (alertChange_break z s).standing

theorem finish_breaksKept (i : Fin 64) (st : AvailState) (r : FinalResult) (s : State) (hst : ({ state := st } : Avail).final = true) :
    BreaksKept s (finish i st r s) := (finish_resolves i st r s hst).breaksKept (finish_avails ..).standing

theorem moveIn_breaksKept (i : Fin 64) (T : Tick) (c : RetimeCause) (b : Bool) (s : State) : BreaksKept s (moveIn i T c b s) :=
  (moveIn_onlyRetimes ..).breaksKept (moveIn_runKept ..) (moveIn_avails ..).standing

theorem pullIn_breaksKept (i : Fin 64) (c : RetimeCause) (s : State) : BreaksKept s (pullIn i c s) := moveIn_breaksKept ..

theorem reportCommitted_breaksKept (f : Bool) (h : Handle) (e : Tick) (s : State) : BreaksKept s (reportCommitted f h e s) :=
  (reportCommitted_onlyRetimes ..).breaksKept (reportCommitted_runKept ..) (reportCommitted_avails ..).standing

/-! ## Arbitration (R150 to R153) -/

theorem winner_mem {cs : List Candidate} {w : Candidate} (h : winner cs = some w) : w ∈ cs := by
  induction cs with
  | nil => cases h
  | cons c cs ih =>
    unfold winner at h
    split at h
    · cases h; exact .head _
    · rename_i d hd
      split at h
      · cases h; exact .tail _ (ih hd)
      · cases h; exact .head _

/-- No candidate's port is DETACHED (R150). -/
theorem candidates_port {i : Fin 64} {s : State} {c : Candidate} (h : c ∈ candidates s i) : (s.port c.claim.port).state ≠ .detached :=
  of_decide_eq_true (List.mem_filter.mp h).2

theorem closeAvail_breaksKept (i : Fin 64) (h : Option Claim) (s : State) (hlive : (s.avail i).live = true)
    (hh : ∀ c ∈ h, (s.port c.port).state ≠ .detached) : BreaksKept s (closeAvail i h s) :=
  updAvail_breaksKept _ _ _ (closeAvail_runKept i h s hlive) (.of_unclaimed rfl rfl fun _ => hh)

theorem arbitrate_breaksKept (i : Fin 64) (s : State) (hlive : (s.avail i).live = true) : BreaksKept s (arbitrate i s) := by
  unfold arbitrate; dsimp only; split
  · exact closeAvail_breaksKept i none s hlive fun _ hc => by cases hc
  · rename_i w hw
    have hclose := closeAvail_breaksKept i (some w.claim) s hlive fun c hc => by
      cases hc; exact candidates_port (winner_mem hw)
    exact hclose.trans ((raiseClaims_resolves ..).breaksKept (raiseClaims_ports ..).avails.standing)

theorem arbitrateIf_breaksKept (b : Bool) (i : Fin 64) (s : State) (hlive : (s.avail i).live = true) :
    BreaksKept s (arbitrateIf b i s) := .ite (arbitrate_breaksKept i s hlive) (.refl s)

theorem takeClaimClose_breaksKept (i : Fin 64) (s : State) : BreaksKept s (takeClaimClose i s) := by
  unfold takeClaimClose; split
  · rename_i hdue
    simp only [claimCloseDue, Bool.and_eq_true, decide_eq_true_eq] at hdue
    obtain ⟨harmed, -⟩ := hdue
    exact arbitrate_breaksKept i s (Avail.live_of_armed harmed)
  · exact .refl s

/-! ## Breaks (R118 to R121, R131, R132) -/

/-- A new avail is ARMED on a lane in RUN, without claims (R119). -/
theorem createAvail_breaksKept (i : Fin 64) (l : Fin 32) (id : BitVec 32) (c : Byte) (o : AvailOrigin) (t : Times) (s : State)
    (hrun : (s.lane l).state = .run) : BreaksKept s (createAvail i l id c o t s) := by
  rw [createAvail_eq]; dsimp only
  generalize ha : newAvail (s.avail i).nextGen l id c o t = a
  have hnew : RunKept s (s.updAvail i fun _ => a) := ⟨.of_ports rfl, fun hs j => by
    rw [State.updAvail_avail]; split
    · subst ha; exact fun _ => hrun
    · exact hs j⟩
  have hfollows : (s.avail i).Follows (fun p => (s.port p).state = .detached) a := by
    subst ha; exact .of_unclaimed rfl rfl fun hclosed => nomatch hclosed
  refine ((updAvail_breaksKept _ _ _ hnew hfollows).trans (raise_breaksKept ..)).trans (arbitrateIf_breaksKept _ _ _ ?_)
  rw [raise_avail, State.updAvail_avail_self]; subst ha; rfl

theorem countConflict_breaksKept (i : Fin 64) (s : State) : BreaksKept s (countConflict i s) := updAvail_breaksKept_of_stake _ _ _ rfl

theorem repeatAvail_breaksKept (i : Fin 64) (t : Times) (s : State) : BreaksKept s (repeatAvail i t s).state := by
  by_cases hout : t.outTick = (s.avail i).outTick
  · rw [repeatAvail_repeated hout]
    dsimp only
    refine updAvail_breaksKept_of_stake _ _ _ ?_
    rfl
  by_cases hst : (s.avail i).state = .armed
  · rw [repeatAvail_retimed hout hst]
    refine ((updAvail_breaksKept_of_stake _ _ _ rfl).trans (raise_breaksKept ..)).trans (arbitrateIf_breaksKept _ _ _ ?_)
    rw [raise_avail, State.updAvail_avail_self]
    exact Avail.live_of_armed hst
  · rw [repeatAvail_conflict hout hst]
    dsimp only
    refine updAvail_breaksKept_of_stake _ _ _ ?_
    rfl

theorem acceptBreak_breaksKept (l : Fin 32) (id : BitVec 32) (c : Byte) (o : AvailOrigin) (t : Except ReplyCode Times) (s : State)
    (hrun : (s.lane l).state = .run) : BreaksKept s (acceptBreak l id c o t s).state := by
  unfold acceptBreak; split
  · exact .refl s
  · split
    · exact repeatAvail_breaksKept ..
    · split
      · exact .refl s
      · exact createAvail_breaksKept _ _ _ _ _ _ _ hrun

theorem returnCue_breaksKept (l : Fin 32) (c : Cue) (s : State) : BreaksKept s (returnCue l c s).2 := by
  unfold returnCue; split
  · exact .refl s
  · dsimp only; split
    · exact countConflict_breaksKept ..
    · split
      · exact .refl s
      · split
        · exact finish_breaksKept _ _ _ _ rfl
        · exact moveIn_breaksKept ..

theorem cancelCue_breaksKept (l : Fin 32) (c : Cue) (s : State) : BreaksKept s (cancelCue l c s).2 := by
  unfold cancelCue; split
  · exact .refl s
  · split
    · exact pullIn_breaksKept ..
    · exact countConflict_breaksKept ..
    all_goals exact finish_breaksKept _ _ _ _ rfl

theorem cueAction_breaksKept (f : Fin 48) (c : Cue) (l : Fin 32) (s : State) (hrun : (s.lane l).state = .run) :
    BreaksKept s (cueAction f c l s).2 := by
  unfold cueAction; split
  · exact acceptBreak_breaksKept _ _ _ _ _ _ hrun
  · exact returnCue_breaksKept ..
  · exact cancelCue_breaksKept ..
  · exact .refl s

/-! ## Cues (R92, R98) -/

theorem armLanes_breaksKept (f : Fin 48) (c : Cue) (ls : List (Fin 32)) (s : State) (hrun : ∀ l ∈ ls, (s.lane l).state = .run) :
    BreaksKept s (armLanes f c ls s).2 := by
  induction ls generalizing s with
  | nil => exact .refl s
  | cons l ls ih =>
    have hhead := cueAction_breaksKept f c l s (hrun l (by simp))
    have htail := ih (cueAction f c l s).2 fun m hm => by rw [(cueAction_avails ..).lane]; exact hrun m (by simp [hm])
    unfold armLanes; dsimp only; split <;> exact hhead.trans htail

theorem qualifying_run {s : State} {f : FilterConfig} {c : Cue} {l : Fin 32} (h : l ∈ qualifying s f c) : (s.lane l).state = .run := by
  simp only [qualifying, List.mem_filter, Bool.and_eq_true, decide_eq_true_eq] at h
  obtain ⟨-, ⟨-, hrun⟩, -⟩ := h
  exact hrun

theorem filterAct_breaksKept (i : Fin 48) (c : Cue) (s : State) : BreaksKept s (filterAct i c s).state := by
  unfold filterAct; dsimp only; split
  · exact .refl s
  · exact .refl s
  · split
    · exact .refl s
    · split
      · exact .refl s
      · split <;> exact armLanes_breaksKept _ _ _ _ fun _ => qualifying_run

theorem takeHit_breaksKept (i : Fin 48) (c : Cue) (s : State) : BreaksKept s (takeHit i c s) := by
  have h : BreaksKept s ((filterAct i c s).state.updFilter i fun F =>
      { F with hit := F.hit.hit c s.tick (filterAct i c s).outcome (filterAct i c s).lane (filterAct i c s).applied }) :=
    (filterAct_breaksKept i c s).trans (.of_eq rfl rfl rfl rfl)
  unfold takeHit
  exact .ite (h.trans (raise_breaksKept ..)) h

theorem takeStrayCue_breaksKept (c : Cue) (s : State) : BreaksKept s (takeStrayCue c s) := by
  unfold takeStrayCue; dsimp only
  refine .trans ?_ (raise_breaksKept ..)
  exact .of_eq rfl rfl rfl rfl

theorem deliverCue_breaksKept (c : Cue) (s : State) : BreaksKept s (deliverCue c s) := by
  unfold deliverCue; split
  · exact takeHit_breaksKept ..
  · exact takeStrayCue_breaksKept ..

theorem runPass_breaksKept (x : Pass) : BreaksKept x.1 (runPass x) :=
  (evalPass_pass x).breaksKept.trans (foldl_breaksKept _ (fun s c => deliverCue_breaksKept c s) _ _)

theorem takeLineChange_breaksKept (k : Fin 24) (b : Bool) (s : State) : BreaksKept s (takeLineChange k b s) := by
  refine .ite (.refl s) (.trans ?_ (runPass_breaksKept _))
  exact .of_eq rfl rfl rfl rfl

theorem takeSettle_breaksKept (n : Fin 12) (s : State) : BreaksKept s (takeSettle n s) := by
  have hstop : BreaksKept s (settledCell n s) := .of_eq rfl rfl rfl rfl
  have hsettle : BreaksKept s (settle n s) := by
    unfold settle; dsimp only; split
    · exact hstop.trans (runPass_breaksKept (settledCell n s, []))
    · exact (hstop.trans (emitOn_pass _ _ _ (settledCell n s, [])).breaksKept).trans (runPass_breaksKept _)
  exact .ite hsettle (.refl s)

/-! ## The intake (R57, R60, R61) -/

theorem raiseDiscontinuity_breaksKept (f : Fin 32) (s : State) : BreaksKept s (raiseDiscontinuity f s) :=
  foldl_breaksKept _ (fun x _ => .ite (raise_breaksKept ..) (.refl x)) _ s

theorem takeIntake_breaksKept (s : State) : BreaksKept s (takeIntake s) := by
  unfold takeIntake; split
  · exact .refl s
  · rename_i e rest _
    have htake : BreaksKept s { s with fifo := rest } := .of_eq rfl rfl rfl rfl
    refine htake.trans ?_
    unfold takeRecord; split
    · exact .of_eq rfl rfl rfl rfl
    · exact deliverCue_breaksKept ..
    · rename_i f stamp _ _
      have href : BreaksKept { s with fifo := rest }
          (State.setFeedRef { s with fifo := rest } f { valid := true, stamp, station := e.arrival }) := .of_eq rfl rfl rfl rfl
      exact .ite (href.trans (raiseDiscontinuity_breaksKept ..)) href

end Sys2Proof.Machine
end

section
/-! SUPPORT. Orders, commit points, lanes, windows and alerts keep the invariants of the avails and their claims (R22, R49, R124, R127,
R128). -/

namespace Sys2Proof.Machine

/-! ## Commit points (R124, R126, R127) -/

/-- What an out commit point comes to (R124): the avail is made final, or it goes on air on a lane where no other avail airs. -/
theorem outCommit_ends_or_airs (i : Fin 64) (s : State) :
    (∃ st r, ({ state := st } : Avail).final = true ∧ outCommit i s = finish i st r s) ∨
      ¬LaneBusy i s ∧ ∃ x e a, outCommit i s =
        reresolve .ordinary (s.avail i).lane ((commit (s.avail i).lane .out x e a s).updAvail i fun a => { a with state := .out }) := by
  cases hst : (s.lane (s.avail i).lane).state with
  | off => exact .inl ⟨_, _, rfl, outCommit_off (.inl hst)⟩
  | stopping => exact .inl ⟨_, _, rfl, outCommit_off (.inr hst)⟩
  | fault => exact .inl ⟨_, _, rfl, outCommit_fault hst⟩
  | run =>
    by_cases halert : ∃ x, (s.lane (s.avail i).lane).owner = .alert x
    · exact .inl ⟨_, _, rfl, outCommit_alert hst halert⟩
    by_cases hinsert : ∃ w, (s.window w).Takes .insert (s.avail i).lane
    · exact .inl ⟨_, _, rfl, outCommit_window hst halert hinsert⟩
    by_cases hblackout : ∃ w, (s.window w).Takes .blackout (s.avail i).lane
    · exact .inl ⟨_, _, rfl, outCommit_blackout hst halert hinsert hblackout⟩
    cases hholder : (s.avail i).holder with
    | none => exact .inl ⟨_, _, rfl, outCommit_unfilled hst halert hinsert hblackout hholder⟩
    | some h =>
      by_cases hbusy : LaneBusy i s
      · exact .inl ⟨_, _, rfl, outCommit_busy hst halert hinsert hblackout hholder hbusy⟩
      cases htime : atOrAfter (s.avail i).outTick (earliestEffect (s.lane (s.avail i).lane) s.tick) with
      | false => exact .inl ⟨_, _, rfl, outCommit_late hst halert hinsert hblackout hholder hbusy htime⟩
      | true => exact .inr ⟨hbusy, _, _, _, outCommit_out hst halert hinsert hblackout hholder hbusy htime⟩

/-- An avail that goes on air where no other airs on its lane leaves each airing avail alone on its lane (R124). -/
theorem airingAlone_updAvail {i : Fin 64} {f : Avail → Avail} {s : State} (hs : AiringAlone s)
    (hlane : (f (s.avail i)).lane = (s.avail i).lane)
    (hfree : ∀ j, j ≠ i → (s.avail j).airing = true → (s.avail j).lane ≠ (s.avail i).lane) : AiringAlone (s.updAvail i f) := by
  have hlanes (j : Fin 64) : ((s.updAvail i f).avail j).lane = (s.avail j).lane := by
    rw [State.updAvail_avail]; split
    · rename_i h; rw [hlane, h]
    · rfl
  have hother {j : Fin 64} (hj : j ≠ i) (hair : ((s.updAvail i f).avail j).airing = true) : (s.avail j).airing = true := by
    rwa [State.updAvail_avail, if_neg hj] at hair
  intro j k hj hk hsame
  rw [hlanes, hlanes] at hsame
  by_cases hji : j = i <;> by_cases hki : k = i
  · rw [hji, hki]
  · exact absurd (hji ▸ hsame.symm) (hfree k hki (hother hki hk))
  · exact absurd (hki ▸ hsame) (hfree j hji (hother hji hj))
  · exact hs j k (hother hji hj) (hother hki hk) hsame

theorem outCommit_breaksKept (i : Fin 64) (s : State) (hclosed : (s.avail i).state = .closed) : BreaksKept s (outCommit i s) := by
  rcases outCommit_ends_or_airs i s with ⟨st, r, hst, e⟩ | ⟨hbusy, x, T, a, e⟩ <;> rw [e]
  · exact finish_breaksKept i st r s hst
  · have hcommit := commit_breaksKept (s.avail i).lane .out x T a s
    generalize hu : commit (s.avail i).lane .out x T a s = u at hcommit ⊢
    have havail : ∀ j, u.avail j = s.avail j := fun j => by subst hu; rfl
    refine (hcommit.trans (.of_claims ?_ (fun hs => airingAlone_updAvail hs rfl fun j hj hair hlane => ?_) (fun _ => id) (fun _ _ _ => id)
      fun j => ?_)).trans (reresolve_breaksKept ..)
    · exact (updAvail_runKept _ _ _ fun _ => ⟨by rw [havail]; exact Avail.live_of_closed hclosed, rfl⟩).run
    · simp only [havail] at hair hlane
      exact hbusy (.inl ⟨j, hj, hair, hlane⟩)
    · rw [State.updAvail_avail]; split
      · rename_i h; subst h
        exact .of_airing (by rw [havail, hclosed]; decide) rfl rfl
      · exact (Avail.Follows.refl ..).toClaimsFollow

theorem takeOutCommit_breaksKept (i : Fin 64) (s : State) : BreaksKept s (takeOutCommit i s) := by
  unfold takeOutCommit; split
  · rename_i hdue; exact outCommit_breaksKept i s (closed_of_outDue hdue)
  · exact .refl s

theorem takeFillCommit_breaksKept (i : Fin 64) (s : State) : BreaksKept s (takeFillCommit i s) := by
  unfold takeFillCommit; split
  · exact .ite ((fillCommit_onlyRetimes i _ s).breaksKept (fillCommit_runKept ..) (fillCommit_break ..).standing) (.refl s)
  · exact .refl s

/-- An avail in OUT that returns stays on air on its lane (R127). -/
theorem beginReturn_breaksKept (i : Fin 64) (l : Fin 32) (s : State) (hout : (s.avail i).state = .out) :
    BreaksKept s (beginReturn i l s) := by
  have hair : (s.avail i).airing = true := by unfold Avail.airing; rw [hout]
  have hreturn := updAvail_breaksKept i (fun a => { a with state := .returning, fillStep := a.fillStep.superseding }) s
    (updAvail_runKept _ _ _ fun _ => ⟨Avail.live_of_out hout, rfl⟩)
    { toClaimsFollow := .of_airing (by rw [hout]; decide) rfl rfl, airing := fun _ => ⟨hair, rfl⟩ }
  exact hreturn.trans (reresolve_breaksKept ..)

theorem inCommit_breaksKept (i : Fin 64) (s : State) (hout : (s.avail i).state = .out) : BreaksKept s (inCommit i s) := by
  have hstep := (requestStep_resolves (s.avail i).lane false (s.handleOf i) (s.avail i).inTick s).breaksKept
    (requestStep_break ..).standing
  have hback (l : Fin 32) : BreaksKept s (beginReturn i l (requestStep (s.avail i).lane false (s.handleOf i) (s.avail i).inTick s).2) :=
    hstep.trans (beginReturn_breaksKept i l _ (by rw [requestStep_avail]; exact hout))
  unfold inCommit; dsimp only; split
  · exact (hback _).trans (reportCommitted_breaksKept ..)
  · exact hback _
  · exact hstep

theorem takeInCommit_breaksKept (i : Fin 64) (s : State) : BreaksKept s (takeInCommit i s) := by
  unfold takeInCommit; split
  · rename_i hdue; exact inCommit_breaksKept i s (out_of_inDue hdue)
  · exact .refl s

/-! ## The outcomes of orders (R45, R47, R48, R51) -/

theorem stepDone_breaksKept (k : StepKind) (h : Handle) (x : Source) (s : State) : BreaksKept s (stepDone k h x s) := by
  unfold stepDone; dsimp only
  refine .ite (.refl s) ?_
  cases k with
  | out => exact .ite (raise_breaksKept ..) (.refl s)
  | fill => exact .ite (updAvail_breaksKept_of_stake _ _ _ rfl) (.refl s)
  | inStep => exact .ite ((raise_breaksKept ..).trans (finish_breaksKept _ _ _ _ rfl)) (.refl s)
  | owner => exact .refl s
  | stop => exact .refl s

theorem handlePlanned_breaksKept (l : Fin 32) (s : State) : BreaksKept s (handlePlanned l s) := by
  unfold handlePlanned; dsimp only; split
  · exact .refl s
  · split
    · exact .ite (updLane_breaksKept _ _ _ id) (commit_breaksKept ..)
    · exact commit_breaksKept ..
    all_goals
      split
      · exact (commit_breaksKept ..).trans (reportCommitted_breaksKept ..)
      · exact commit_breaksKept ..

theorem tellSource_breaksKept (l : Fin 32) (L : Lane) (x : Option Source) (s : State) : BreaksKept s (tellSource l L x s) :=
  .ite (.refl s) (raise_breaksKept ..)

theorem settleOrder_breaksKept (l : Fin 32) (o : Outstanding) (s : State) : BreaksKept s (settleOrder l o s) :=
  ((setOrder_breaksKept ..).trans (updLane_breaksKept _ _ _ id)).trans (tellSource_breaksKept ..)

/-- A lane that was not in RUN goes to another state: no live avail stands on it. -/
theorem setLaneState_breaksKept (l : Fin 32) (x : LaneState) (s : State) (hst : (s.lane l).state ≠ .run) :
    BreaksKept s (setLaneState l x s) :=
  (updLane_breaksKept _ _ _ fun h => absurd h hst).trans (raise_breaksKept ..)

theorem endStop_breaksKept (l : Fin 32) (k : StepKind) (s : State) : BreaksKept s (endStop l k s) := by
  unfold endStop; split
  · rename_i h
    obtain ⟨hstopping, -⟩ := h
    refine (updLane_breaksKept _ _ _ id).trans (setLaneState_breaksKept _ _ _ ?_)
    rw [State.updLane_lane_self, hstopping]; decide
  · exact .refl s

theorem orderDone_breaksKept (l : Fin 32) (o : Outstanding) (s : State) : BreaksKept s (orderDone l o s) := by
  have hstop := (settleOrder_breaksKept l o s).trans (endStop_breaksKept l o.kind _)
  rw [orderDone_eq]
  refine .trans ?_ (handlePlanned_breaksKept ..)
  split
  · exact hstop.trans (stepDone_breaksKept ..)
  · exact hstop

theorem fallen_availsEnd (l : Fin 32) (o : Outstanding) (r : FaultReason) (c : Option FabricCode) (s : State) :
    AvailsEnd s (fallen l o r c s) := by
  have htold : AvailsEnd s (tellFault l o r c (s.lane l) (s.updLane l fun L => L.struck o.target r)) := fun i =>
    .inl ((tellFault_ports ..).avail i)
  exact htold.trans (finishLane_resolves l .missed .fault _ rfl).avails

theorem laneFault_breaksKept (l : Fin 32) (o : Outstanding) (r : FaultReason) (c : Option FabricCode) (s : State) :
    BreaksKept s (laneFault l o r c s) := by
  refine AvailsEnd.breaksKept ?_ (laneFault_runKept l o r c s) (laneFault_break ..).standing
  rw [laneFault_fallen]; split
  · exact (fallen_availsEnd l o r c s).trans (reresolve_resolves ..).avails
  · exact fallen_availsEnd l o r c s

theorem takeDone_breaksKept (l : Fin 32) (seq : Byte) (s : State) : BreaksKept s (takeDone l seq s) := by
  unfold takeDone; split
  · exact orderDone_breaksKept ..
  · exact .of_eq rfl rfl rfl rfl

theorem takeFault_breaksKept (l : Fin 32) (seq : Byte) (c : FabricCode) (s : State) : BreaksKept s (takeFault l seq c s) := by
  unfold takeFault; split
  · exact (setOrder_breaksKept ..).trans (laneFault_breaksKept ..)
  · exact .of_eq rfl rfl rfl rfl

theorem takeAckExpiry_breaksKept (l : Fin 32) (s : State) : BreaksKept s (takeAckExpiry l s) := by
  have hdrop : BreaksKept s (dropOrder l s) := .ite (.of_eq rfl rfl rfl rfl) (.of_eq rfl rfl rfl rfl)
  unfold takeAckExpiry; split
  · refine .ite (.trans (.trans ?_ (setOrder_breaksKept ..)) (laneFault_breaksKept ..)) (.refl s)
    exact .ite (.refl s) hdrop
  · exact .refl s

theorem startSend_breaksKept (s : State) : BreaksKept s (startSend s) := by
  unfold startSend; split <;> exact .of_eq rfl rfl rfl rfl

theorem endSend_breaksKept (s : State) : BreaksKept s (endSend s) := by
  unfold endSend; split
  · exact .ite (.refl s) (.of_eq rfl rfl rfl rfl)
  · exact .refl s

/-! ## Lanes (R21, R22, R25) -/

theorem enableLane_breaksKept (l : Fin 32) (s : State) (hst : (s.lane l).state ≠ .run) : BreaksKept s (enableLane l s) := by
  refine (((updLane_breaksKept _ _ _ id).trans (setLaneState_breaksKept _ _ _ ?_)).trans (commit_breaksKept ..)).trans
    (reresolve_breaksKept ..)
  rw [State.updLane_lane_self]; exact hst

theorem stopLane_onlyLane (l : Fin 32) (s : State) : OnlyLane l s (stopLane l s) := (updLane_onlyLane ..).trans (raise_onlyLane ..)

/-- A lane that leaves RUN takes its live avails with it (R22, R136). -/
theorem cancelAvails_breaksKept (l : Fin 32) (s : State) : BreaksKept s (cancelAvails l s) := by
  have hstop := stopLane_onlyLane l s
  exact ((AvailsEnd.of_avails hstop.avails).trans (finishLane_resolves l .cancelled .laneOff _ rfl).avails).breaksKept
    (hstop.finishLane_runKept _ _ rfl) (finishLane_avails ..).standing

theorem prepareStop_breaksKept (l : Fin 32) (s : State) : BreaksKept s (prepareStop l s) := by
  unfold prepareStop; dsimp only; split
  · exact commit_breaksKept ..
  · exact updLane_breaksKept _ _ _ id

theorem disableLane_breaksKept (l : Fin 32) (s : State) : BreaksKept s (disableLane l s) := by
  have hstop := (cancelAvails_breaksKept l s).trans (prepareStop_breaksKept l _)
  rw [disableLane_eq]
  exact .ite (hstop.trans (reresolve_breaksKept ..)) hstop

theorem enableConsequence_breaksKept (l : Fin 32) (a b : Bool) (s : State) : BreaksKept s (enableConsequence l a b s) := by
  unfold enableConsequence; split
  · rename_i hoff; exact enableLane_breaksKept l s (by rw [hoff]; decide)
  · exact disableLane_breaksKept ..
  · exact disableLane_breaksKept ..
  · exact .refl s

theorem writeLaneAct_breaksKept (r : RawLane) (s : State) : BreaksKept s (writeLaneAct r s).state := by
  have haccept (l : Fin 32) (cfg : LaneConfig) : BreaksKept s (acceptLane l cfg s) := by
    have hwrite := updLane_breaksKept l (fun L => { L with cfg, revision := L.revision + 1 }) s id
    unfold acceptLane
    exact .ite (hwrite.trans (enableConsequence_breaksKept ..))
      ((hwrite.trans (enableConsequence_breaksKept ..)).trans (reresolve_breaksKept ..))
  unfold writeLaneAct; split
  · exact .refl s
  · split
    · exact .refl s
    · exact .refl s
    · exact haccept ..

theorem laneResetAct_breaksKept (b : Byte) (s : State) : BreaksKept s (laneResetAct b s).state := by
  unfold laneResetAct; split
  · exact .refl s
  · split
    · rename_i hfault
      refine ((updLane_breaksKept _ _ _ id).trans (setLaneState_breaksKept _ _ _ ?_)).trans (reresolve_breaksKept ..)
      rw [State.updLane_lane_self, hfault]; decide
    · exact .refl s

/-! ## Windows and alerts (R161, R166, R176) -/

theorem takeBoundary_breaksKept (s : State) : BreaksKept s (takeBoundary s) := by
  refine (takeBoundary_resolves s).breaksKept ?_
  unfold takeBoundary; split
  · exact (windowBoundary_frame { s with boundaryDue := false, calendar := s.calendar.advance }).standing
  · rfl

theorem writeWindowAct_breaksKept (r : RawWindow) (s : State) : BreaksKept s (writeWindowAct r s).state := by
  have hwrite (w : Fin 16) (f : Window → Window) : BreaksKept s (s.updWindow w f) := .of_eq rfl rfl rfl rfl
  have hconsequence (w : Fin 16) (old : Window) (x : State) : BreaksKept x (windowConsequence w old x) := by
    unfold windowConsequence
    exact .ite ((raise_breaksKept ..).trans (windowChange_breaksKept ..))
      (.ite ((raise_breaksKept ..).trans (windowChange_breaksKept ..)) (.ite (raise_breaksKept ..) (.refl x)))
  unfold writeWindowAct; split
  · exact .refl s
  · dsimp only; split
    · exact .refl s
    · unfold acceptWindow
      exact .ite ((hwrite ..).trans (hconsequence ..)) (hwrite ..)

theorem beginAlert_breaksKept (a : Fin 4) (A : Alert) (c : BeginCause) (s : State) : BreaksKept s (beginAlert a A c s) :=
  .trans (t := touch a (s.setAlert a (some A))) (.of_eq rfl rfl rfl rfl) (raise_breaksKept ..)

theorem endAlert_breaksKept (a : Fin 4) (A : Alert) (r : EndReason) (e : Option (Fin 4)) (s : State) :
    BreaksKept s (endAlert a A r e s) := (endAlert_resolves a A r e s).breaksKept rfl

theorem startAlert_breaksKept (A : Alert) (s : State) : BreaksKept s (startAlert A s).state := by
  unfold startAlert; split
  · exact (beginAlert_breaksKept ..).trans (alertChange_breaksKept ..)
  · split
    · exact (beginAlert_breaksKept ..).trans (alertChange_breaksKept ..)
    · split
      · exact .refl s
      · split
        · exact .refl s
        · exact ((endAlert_breaksKept ..).trans (beginAlert_breaksKept ..)).trans (alertChange_breaksKept ..)

theorem alertStartAct_breaksKept (p : Fin 4) (r : RawAlert) (s : State) : BreaksKept s (alertStartAct p r s).state := by
  unfold alertStartAct; split
  · exact .refl s
  · exact startAlert_breaksKept ..

theorem alertEndAct_breaksKept (p : Fin 4) (b : Byte) (s : State) : BreaksKept s (alertEndAct p b s).state := by
  unfold alertEndAct; split
  · exact .refl s
  · split
    · exact .refl s
    · split
      · exact .refl s
      · exact (endAlert_breaksKept ..).trans (alertChange_breaksKept ..)

theorem takeAlertExpiry_breaksKept (a : Fin 4) (s : State) : BreaksKept s (takeAlertExpiry a s) :=
  (takeAlertExpiry_resolves a s).breaksKept (takeAlertExpiry_frame a s).standing

end Sys2Proof.Machine
end

section
/-! SUPPORT. Requests on avails, claims and standing claims, and the detach of a port, keep the invariants of the avails and their claims
(R142, R145, R149, R155, R190). -/

namespace Sys2Proof.Machine

/-! ## Requests on an avail (R120, R133, R134, R142, R149) -/

theorem bookAct_breaksKept (p : Fin 4) (r : RawBooking) (s : State) : BreaksKept s (bookAct p r s).state := by
  unfold bookAct; split
  · exact .refl s
  · split
    · exact .refl s
    · rename_i hrun
      dsimp only; split <;> exact acceptBreak_breaksKept _ _ _ _ _ _ (not_not.mp hrun)

theorem cancelAct_breaksKept (h : RawHandle) (s : State) : BreaksKept s (cancelAct h s).state := by
  unfold cancelAct; split
  · exact .refl s
  · dsimp only; split
    · exact finish_breaksKept _ _ _ _ rfl
    · exact finish_breaksKept _ _ _ _ rfl
    · exact pullIn_breaksKept ..
    all_goals exact .refl s

theorem releaseAvail_breaksKept (i : Fin 64) (s : State) : BreaksKept s (releaseAvail i s) :=
  (updAvail_breaksKept_of_stake i (fun a => { a with released := true }) s rfl).trans (pullIn_breaksKept ..)

theorem releaseAct_breaksKept (p : Fin 4) (h : RawHandle) (s : State) : BreaksKept s (releaseAct p h s).state := by
  unfold releaseAct; split
  · exact .refl s
  · split
    · split
      · exact releaseAvail_breaksKept ..
      · exact .refl s
    all_goals exact .refl s

/-- A claim of a port takes the place of any other claim of it in an ARMED avail's list (R142). -/
theorem Avail.Follows.of_claim {detached : Fin 4 → Prop} {a : Avail} {c : Claim} {p : Fin 4} (ha : a.state = .armed) (hc : c.port = p)
    (hp : ¬detached p) : a.Follows detached { a with claims := a.claims.filter (fun x => decide (x.port ≠ p)) ++ [c] } where
  sound := fun ⟨hnodup, _⟩ => by
    refine ⟨?_, fun h => absurd ha h⟩
    have hother : c.port ∉ (a.claims.filter fun x => decide (x.port ≠ p)).map Claim.port := by simp [hc]
    rw [List.map_append, List.map_singleton, List.nodup_append_comm, List.singleton_append, List.nodup_cons]
    exact ⟨hother, hnodup.sublist (List.filter_sublist.map _)⟩
  staked := fun q hq => by
    rintro (⟨x, hx, hxq⟩ | ⟨hclosed, hheld⟩)
    · rcases List.mem_append.mp hx with hx | hx
      · exact .inl ⟨x, List.mem_of_mem_filter hx, hxq⟩
      · rw [List.mem_singleton.mp hx, hc] at hxq
        exact absurd (hxq ▸ hq) hp
    · exact .inr ⟨hclosed, hheld⟩
  airing := fun h => ⟨h, rfl⟩

theorem claimAct_breaksKept (p : Fin 4) (r : RawClaim) (s : State) (hp : (s.port p).state ≠ .detached) :
    BreaksKept s (claimAct p r s).state := by
  unfold claimAct; split
  · exact .refl s
  · rename_i c hc
    split
    · exact .refl s
    · dsimp only; split
      · exact .refl s
      · rename_i harmed
        obtain ⟨hport, -⟩ := claimOf_eq_some hc
        dsimp only
        exact updAvail_breaksKept _ _ _ (updAvail_runKept _ _ _ fun h => ⟨h, rfl⟩) (Avail.Follows.of_claim (not_not.mp harmed) hport hp)

theorem Avail.Follows.of_filter {detached : Fin 4 → Prop} (a : Avail) (keep : Claim → Bool) :
    a.Follows detached { a with claims := a.claims.filter keep } := .of_fewer rfl rfl List.filter_sublist fun _ h => h

theorem Avail.Follows.of_unheld {detached : Fin 4 → Prop} (a : Avail) : a.Follows detached { a with holder := none, fillTick := none } :=
  .of_fewer rfl rfl (.refl _) fun _ h => by cases h

/-- An avail loses claims (R149, R155). -/
theorem dropClaims_breaksKept (i : Fin 64) (keep : Claim → Bool) (s : State) :
    BreaksKept s (s.updAvail i fun a => { a with claims := a.claims.filter keep }) :=
  updAvail_breaksKept _ _ _ (updAvail_runKept _ _ _ fun h => ⟨h, rfl⟩) (.of_filter ..)

theorem clearHolder_breaksKept (i : Fin 64) (s : State) : BreaksKept s (clearHolder i s) :=
  updAvail_breaksKept _ _ _ (updAvail_runKept _ _ _ fun h => ⟨h, rfl⟩) (.of_unheld _)

theorem withdrawAct_breaksKept (p : Fin 4) (h : RawHandle) (s : State) : BreaksKept s (withdrawAct p h s).state := by
  unfold withdrawAct; split
  · exact .refl s
  · dsimp only; split
    · split
      · exact dropClaims_breaksKept ..
      · exact .refl s
    · split
      · exact clearHolder_breaksKept ..
      · exact .refl s
    · split
      · exact releaseAvail_breaksKept ..
      · exact .refl s
    · split <;> exact .refl s
    all_goals exact .refl s

/-! ## Standing claims (R145 to R147) -/

/-- A place is written: a DETACHED port's is not filled. -/
theorem setPlace_breaksKept (l : Fin 32) (p : Fin 4) (x : Option Standing) (s : State)
    (hx : (s.port p).state = .detached → s.place l p = none → x = none) : BreaksKept s (s.setPlace l p x) := by
  refine .of_claims id id (fun _ => id) (fun m q hq hnone => ?_) fun i => (Avail.Follows.refl ..).toClaimsFollow
  rw [State.setPlace_place]; split
  · rename_i h
    obtain ⟨rfl, rfl⟩ := h
    exact hx hq hnone
  · exact hnone

theorem standAct_breaksKept (p : Fin 4) (r : RawStand) (s : State) (hp : (s.port p).state ≠ .detached) :
    BreaksKept s (standAct p r s).state := by
  unfold standAct; split
  · exact .refl s
  · exact setPlace_breaksKept _ _ _ _ fun h => absurd h hp

theorem standClearAct_breaksKept (p : Fin 4) (b : Byte) (s : State) : BreaksKept s (standClearAct p b s).state := by
  unfold standClearAct; split
  · exact .refl s
  · split
    · exact setPlace_breaksKept _ _ _ _ fun _ _ => rfl
    · exact .refl s

theorem setPaused_breaksKept (p : Fin 4) (b : Byte) (x : Bool) (s : State) : BreaksKept s (setPaused p b x s).state := by
  unfold setPaused; split
  · exact .refl s
  · split
    · exact .refl s
    · rename_i hplace
      exact setPlace_breaksKept _ _ _ _ fun _ h => by rw [hplace] at h; cases h

/-! ## A detach (R155, R190) -/

theorem detachAvail_breaksKept (p : Fin 4) (s : State) (i : Fin 64) : BreaksKept s (detachAvail p s i) := by
  unfold detachAvail; dsimp only; split
  · exact dropClaims_breaksKept ..
  · exact .ite (clearHolder_breaksKept ..) (.refl s)
  all_goals exact .refl s

/-- A detach takes claims and holders away, and gives none. -/
theorem detachAvail_stakedBy {p q : Fin 4} {s : State} {i j : Fin 64} (h : ((detachAvail p s i).avail j).StakedBy q) :
    (s.avail j).StakedBy q := by
  have hupd (f : Avail → Avail) (hf : (s.avail i).Follows (fun _ => True) (f (s.avail i)))
      (h : ((s.updAvail i f).avail j).StakedBy q) : (s.avail j).StakedBy q := by
    rw [State.updAvail_avail] at h; split at h
    · rename_i hj; subst hj; exact hf.staked q trivial h
    · exact h
  unfold detachAvail at h; dsimp only at h; split at h
  · exact hupd _ (.of_filter ..) h
  · split at h
    · exact hupd _ (.of_unheld _) h
    · exact h
  all_goals exact h

/-- The port that is detached keeps no claim on the avail and does not hold it CLOSED (R155, steps 1 and 3). -/
theorem detachAvail_not_stakedBy (p : Fin 4) (s : State) (i : Fin 64) (hs : (s.avail i).ClaimsSound) :
    ¬((detachAvail p s i).avail i).StakedBy p := by
  obtain ⟨-, hempty⟩ := hs
  have hrest (hst : (s.avail i).state ≠ .armed) (hclosed : (s.avail i).state = .closed → (s.avail i).heldBy p = false) :
      ¬(s.avail i).StakedBy p := by
    rintro (⟨c, hc, -⟩ | ⟨h, x, hx, hxp⟩)
    · rw [hempty hst] at hc; cases hc
    · have := hclosed h
      rw [Avail.heldBy, Option.mem_def.mp hx] at this
      exact of_decide_eq_false this hxp
  unfold detachAvail; dsimp only; split
  · rename_i harmed
    rw [State.updAvail_avail_self]
    rintro (⟨c, hc, hcp⟩ | ⟨hclosed, -⟩)
    · obtain ⟨-, hkept⟩ := List.mem_filter.mp hc
      exact of_decide_eq_true hkept hcp
    · rw [harmed] at hclosed; cases hclosed
  · rename_i hclosed
    have hst : (s.avail i).state ≠ .armed := by rw [hclosed]; decide
    split
    · unfold clearHolder; rw [State.updAvail_avail_self]
      rintro (⟨c, hc, -⟩ | ⟨-, x, hx, -⟩)
      · rw [hempty hst] at hc; cases hc
      · cases hx
    · rename_i hheld; exact hrest hst fun _ => Bool.eq_false_iff.mpr hheld
  all_goals
    rename_i hst
    exact hrest (by rw [hst]; decide) fun h => by rw [hst] at h; cases h

/-- The standing claims of a port, cleared on every lane (R155, step 2). -/
def clearPlaces (p : Fin 4) (s : State) : State := (List.finRange 32).foldl (fun s l => s.setPlace l p none) s

theorem detachClaims_eq (p : Fin 4) (s : State) :
    detachClaims p s = (List.finRange 64).foldl (detachAvail p) (clearPlaces p s) := rfl

theorem clearPlaces_breaksKept (p : Fin 4) (s : State) : BreaksKept s (clearPlaces p s) :=
  foldl_breaksKept _ (fun s l => setPlace_breaksKept l p none s fun _ _ => rfl) _ s

theorem clearPlaces_avail (p : Fin 4) (s : State) (i : Fin 64) : (clearPlaces p s).avail i = s.avail i :=
  foldl_keeps (fun s t : State => t.avail i = s.avail i) (fun _ => rfl) (fun _ _ _ h g => g.trans h)
    (fun s l => s.setPlace l p none) (fun _ _ => rfl) _ s

theorem clearPlaces_port (p q : Fin 4) (s : State) : (clearPlaces p s).port q = s.port q :=
  foldl_keeps (fun s t : State => t.port q = s.port q) (fun _ => rfl) (fun _ _ _ h g => g.trans h)
    (fun s l => s.setPlace l p none) (fun _ _ => rfl) _ s

theorem clearPlaces_place_of_none {p q : Fin 4} {l : Fin 32} {s : State} (h : s.place l q = none) : (clearPlaces p s).place l q = none :=
  foldl_keeps (fun s t : State => s.place l q = none → t.place l q = none) (fun _ => id) (fun _ _ _ h g => g ∘ h) _
    (fun s m hs => by rw [State.setPlace_place, hs, ite_self]) _ s h

theorem clearPlaces_place (p : Fin 4) (s : State) (l : Fin 32) : (clearPlaces p s).place l p = none :=
  foldl_finRange_takes _ (fun _ => True) (fun l s => s.place l p = none) (fun _ _ _ => trivial)
    (fun s l _ => by rw [State.setPlace_place, if_pos ⟨rfl, rfl⟩])
    (fun s m l _ hs => by rw [State.setPlace_place, hs, ite_self]) s trivial l

theorem detachAvails_standing (p : Fin 4) (s : State) : ((List.finRange 64).foldl (detachAvail p) s).standing = s.standing :=
  AvailsOnly.standing (foldl_keeps AvailsOnly .refl (fun _ _ _ => .trans) _ (detachAvail_avails p) _ s)

theorem detachAvails_port (p q : Fin 4) (s : State) : ((List.finRange 64).foldl (detachAvail p) s).port q = s.port q :=
  foldl_keeps (fun s t : State => t.port q = s.port q) (fun _ => rfl) (fun _ _ _ h g => g.trans h) _ (fun s i => by
    unfold detachAvail; dsimp only; split
    · rfl
    · split <;> rfl
    all_goals rfl) _ s

theorem detachClaims_port (p q : Fin 4) (s : State) : (detachClaims p s).port q = s.port q :=
  (detachAvails_port ..).trans (clearPlaces_port ..)

theorem detachClaims_breaksKept (p : Fin 4) (s : State) : BreaksKept s (detachClaims p s) :=
  (clearPlaces_breaksKept p s).trans (foldl_breaksKept _ (detachAvail_breaksKept p) _ _)

/-- What another port does not hold it is not given. -/
theorem detachClaims_holdsNothing {p q : Fin 4} {s : State} (h : s.HoldsNothing q) : (detachClaims p s).HoldsNothing q := by
  obtain ⟨hplace, hstake⟩ := h
  rw [detachClaims_eq]
  refine ⟨fun l => ?_, fun i => ?_⟩
  · rw [place_of_standing (detachAvails_standing p _)]; exact clearPlaces_place_of_none (hplace l)
  · refine foldl_keeps (fun s t : State => ¬(s.avail i).StakedBy q → ¬(t.avail i).StakedBy q) (fun _ => id) (fun _ _ _ h g => g ∘ h) _
      (fun _ _ hs h => hs (detachAvail_stakedBy h)) _ _ ?_
    rw [clearPlaces_avail]; exact hstake i

/-- The port that is detached holds nothing (R155). -/
theorem detachClaims_holdsNothing_self (p : Fin 4) (s : State) (hs : ClaimsSound s) : (detachClaims p s).HoldsNothing p := by
  rw [detachClaims_eq]
  refine ⟨fun l => ?_, ?_⟩
  · rw [place_of_standing (detachAvails_standing p _)]; exact clearPlaces_place ..
  · exact foldl_finRange_takes _ ClaimsSound (fun i s => ¬(s.avail i).StakedBy p) (fun s i => (detachAvail_breaksKept p s i).claims)
      (fun s i hs => detachAvail_not_stakedBy p s i (hs i)) (fun _ _ _ _ hs h => hs (detachAvail_stakedBy h)) _
      ((clearPlaces_breaksKept p s).claims hs)

/-- A port that enters DETACHED loses its claims, and no other port's hold differs (R190). -/
theorem detach_breaksKept (p : Fin 4) (s : State) : BreaksKept s (detach p s) := by
  have hclaims := detachClaims_breaksKept p (s.updPort p Port.detached)
  refine .trans ⟨hclaims.run, hclaims.alone, hclaims.claims, fun hc hs => ?_⟩ (raise_breaksKept ..)
  rw [detachedHoldsNothing_iff] at hs ⊢
  intro q hq
  by_cases h : q = p
  · subst h; exact detachClaims_holdsNothing_self _ _ hc
  · rw [detachClaims_port, State.updPort_port, if_neg h] at hq
    exact detachClaims_holdsNothing (hs q hq)

/-! ## Frames (R188, R189, R195) -/

/-- A count below 192 detaches no port (R189). -/
theorem detached_of_portStateAfter {st : PortState} {n : Nat} (hn : n ≠ 192) (h : portStateAfter st n = .detached) : st = .detached := by
  have hcount : n ≠ Config.detachCount := hn
  cases st with
  | detached => rfl
  | normal =>
    unfold portStateAfter at h; dsimp only at h
    rw [if_neg hcount] at h; split at h <;> cases h
  | caution =>
    unfold portStateAfter at h; dsimp only at h
    rw [if_neg hcount] at h; split at h <;> cases h

theorem setErrors_breaksKept (p : Fin 4) (n : Nat) (s : State) (hn : n ≠ 192) : BreaksKept s (setErrors p n s) := by
  have hcount := updPort_breaksKept p (fun P => { P with errors := n, state := portStateAfter (s.port p).state n }) s
    (detached_of_portStateAfter hn)
  exact .ite hcount (hcount.trans (raise_breaksKept ..))

theorem takeBytes_breaksKept (p : Fin 4) (bytes : List Byte) (s : State) : BreaksKept s (takeBytes p bytes s) := by
  have hselect : BreaksKept s (s.updPort p fun P => { P with chosen := none }) := updPort_breaksKept _ _ _ id
  unfold takeBytes; split
  · refine hselect.trans ?_
    unfold takeMalformedFrame; dsimp only; split
    · exact updPort_breaksKept _ _ _ id
    · split
      · exact detach_breaksKept ..
      · rename_i hcount
        exact (updPort_breaksKept _ _ _ id).trans (setErrors_breaksKept _ _ _ fun h => hcount h.ge)
  · exact .refl s
  · exact .refl s

theorem takeQuietExpiry_breaksKept (p : Fin 4) (s : State) : BreaksKept s (takeQuietExpiry p s) :=
  .ite ((updPort_breaksKept p (fun P => { P with quiet := none, errors := 0, state := .normal }) s fun h => nomatch h).trans
    (raise_breaksKept ..)) (.refl s)

end Sys2Proof.Machine
end

section
/-! SUPPORT. Every command keeps the invariants of the avails and their claims, from the state after its request's form step (R188). -/

namespace Sys2Proof.Machine

/-! ## The form step of a request (R188, step 1) -/

/-- The state after the form step of a command that carries a well-formed request, and the state itself for any other command. -/
def afterForm (c : Instr) (s : State) : State :=
  match requestOf c with
  | some (p, _) => goodFrame p s
  | none => s

theorem afterForm_ports (c : Instr) (s : State) : PortsOnly s (afterForm c s) := by
  unfold afterForm; split
  · exact goodFrame_ports ..
  · rfl

theorem afterForm_availsSound {c : Instr} {s : State} (hs : AvailsSound s) : AvailsSound (afterForm c s) := by
  have h := afterForm_ports c s
  obtain ⟨hrun, halone⟩ := (availsSound_iff s).mp hs
  refine ⟨fun i => ?_, fun i j => ?_⟩
  · rw [h.avail, h.avails.lane]; exact hrun i
  · rw [h.avail, h.avail]; exact halone i j

theorem afterForm_claimsSound {c : Instr} {s : State} (hs : ClaimsSound s) : ClaimsSound (afterForm c s) := fun i => by
  rw [(afterForm_ports c s).avail]; exact hs i

/-- A well-formed frame detaches no port (R189). -/
theorem goodFrame_detachedHoldsNothing {p : Fin 4} {s : State} (hp : PortsSound s) (hs : DetachedHoldsNothing s) :
    DetachedHoldsNothing (goodFrame p s) := fun q hq => by
  have hbefore : (s.port q).state = .detached := by
    by_cases h : q = p
    · obtain ⟨herrors, -⟩ := hp p
      subst h; exact (goodFrame_detached_iff q s herrors).mp hq
    · rwa [goodFrame_state_other p q s h] at hq
  simpa only [goodFrame_place, goodFrame_avail] using hs q hbefore

theorem afterForm_detachedHoldsNothing {c : Instr} {s : State} (hp : PortsSound s) (hs : DetachedHoldsNothing s) :
    DetachedHoldsNothing (afterForm c s) := by
  unfold afterForm; split
  · exact goodFrame_detachedHoldsNothing hp hs
  · exact hs

/-- After its form step, a request does to breaks what its block does; the port of one that needs an attached port is not DETACHED
(R188). -/
theorem takeRequest_breaksKept (p : Fin 4) (r : Req) (act : State → Answer)
    (hact : ∀ x, (x.port p).state ≠ .detached ∨ takenDetached r = true → BreaksKept x (act x).state) (s : State) :
    BreaksKept (goodFrame p s) (takeRequest p r act s) := by
  have hanswer (c : ReplyCode) (b : ReplyBody) (x : State) : BreaksKept x (answer p r c b x) := updPort_breaksKept _ _ _ id
  rcases takeRequest_cases p r act s with h | h | h | ⟨-, hattached, -, h⟩ <;> rw [h]
  · exact .refl _
  · exact hanswer ..
  · exact hanswer ..
  · exact (hact _ hattached).trans (hanswer ..)

/-- The block of a read leaves the state that it found. -/
theorem takeRead_breaksKept (p : Fin 4) (r : Req) (act : State → Answer) (hact : ∀ x, (act x).state = x) (s : State) :
    BreaksKept (goodFrame p s) (takeRequest p r act s) :=
  takeRequest_breaksKept p r act (fun x _ => by rw [hact]; exact .refl x) s

theorem takeFetch_breaksKept (p : Fin 4) (through : Bool) (s : State) : BreaksKept (goodFrame p s) (takeFetch p through s) := by
  have hdelivered (P : Port) (x : Item) : (P.delivered x).state = P.state := by cases x <;> rfl
  exact .ite (updPort_breaksKept _ _ _ (by rw [hdelivered]; exact id)) (.refl _)

/-! ## Requests that write neither avails nor claims -/

theorem writePairAct_breaksKept (r : RawPair) (s : State) : BreaksKept s (writePairAct r s).state := by
  unfold writePairAct; split
  · exact .refl s
  · dsimp only; split
    · exact .refl s
    · split
      · exact .refl s
      · exact .of_eq rfl rfl rfl rfl

theorem updPair_breaksKept (k : Fin 6) (f : Pair → Pair) (s : State) : BreaksKept s (s.updPair k f) := .of_eq rfl rfl rfl rfl
theorem primeCell_breaksKept (n : Fin 12) (s : State) : BreaksKept s (primeCell n s) := .of_eq rfl rfl rfl rfl
theorem forceCell_breaksKept (n : Fin 12) (s : State) : BreaksKept s (forceCell n s) := .of_eq rfl rfl rfl rfl

theorem enablePairAct_breaksKept (r : RawEnable) (s : State) : BreaksKept s (enablePairAct r s).state := by
  have hprime (k : Fin 6) (x : State) : BreaksKept x (primePair k x) := by
    unfold primePair; dsimp only
    exact (((updPair_breaksKept ..).trans (primeCell_breaksKept ..)).trans (primeCell_breaksKept ..)).trans (updPair_breaksKept ..)
  have hforce (k : Fin 6) (x : State) : BreaksKept x (forcePair k x) :=
    ((forceCell_breaksKept ..).trans (forceCell_breaksKept ..)).trans (updPair_breaksKept ..)
  unfold enablePairAct; split
  · exact .refl s
  · dsimp only; split
    · exact .refl s
    · dsimp only; split
      · exact (updPair_breaksKept ..).trans (hprime ..)
      · exact (updPair_breaksKept ..).trans (hforce ..)
      all_goals exact updPair_breaksKept ..

theorem writeFilterAct_breaksKept (r : RawFilter) (s : State) : BreaksKept s (writeFilterAct r s).state := by
  unfold writeFilterAct; split
  · exact .refl s
  · dsimp only; split
    · exact .refl s
    · exact .of_eq rfl rfl rfl rfl

/-! ## The clock and every command -/

theorem sweep_breaksKept {n : Nat} (take : Fin n → State → State) (h : ∀ i s, BreaksKept s (take i s)) (s : State) :
    BreaksKept s (sweep take s) := sweep_keeps BreaksKept .refl (fun _ _ _ => .trans) take h s

theorem settleTick_breaksKept (s : State) : BreaksKept s (settleTick s) := by
  unfold settleTick
  refine .trans ?_ (startSend_breaksKept _)
  refine .trans ?_ (sweep_breaksKept _ takeInCommit_breaksKept _)
  refine .trans ?_ (sweep_breaksKept _ takeFillCommit_breaksKept _)
  refine .trans ?_ (sweep_breaksKept _ takeOutCommit_breaksKept _)
  refine .trans ?_ (sweep_breaksKept _ takeClaimClose_breaksKept _)
  refine .trans ?_ (sweep_breaksKept _ takeAckExpiry_breaksKept _)
  refine .trans ?_ (sweep_breaksKept _ takeQuietExpiry_breaksKept _)
  refine .trans ?_ (sweep_breaksKept _ takeAlertExpiry_breaksKept _)
  exact (takeBoundary_breaksKept s).trans (sweep_breaksKept _ takeSettle_breaksKept _)

theorem advanceTick_breaksKept (s : State) : BreaksKept s (advanceTick s) := .of_eq rfl rfl rfl rfl

/-- At reset no avail is live, no claim stands and no port is DETACHED (R115, R144, R184). -/
theorem released_breaksKept (s : State) (roles : Vector Role 4) (lines : BitVec 24) (q : List Instr) :
    BreaksKept s (State.released roles lines q) where
  run := fun _ i hi => by rw [released_avail] at hi; cases hi
  alone := fun _ i j hi => by rw [released_avail] at hi; cases hi
  claims := fun _ i => by rw [released_avail]; exact ⟨.nil, fun _ => rfl⟩
  detached := fun _ _ p hp => by rw [released_port] at hp; cases hp

theorem exec_breaksKept (c : Instr) (s t : State) (h : exec c s = .next t) : BreaksKept (afterForm c s) t := by
  cases c <;> (have ht := Host.Outcome.next.inj h; subst ht)
  case powerOnReset => exact released_breaksKept ..
  case secondBoundary => exact takeBoundary_breaksKept s
  case chipSelectAssert => exact updPort_breaksKept _ _ _ id
  case malformedFrame => exact takeBytes_breaksKept ..
  case fetch => exact takeFetch_breaksKept ..
  case fetchCheckByte => exact updPort_breaksKept _ _ _ id
  case quietExpiry => exact takeQuietExpiry_breaksKept ..
  case orderSendStart => exact startSend_breaksKept s
  case orderSendEnd => exact endSend_breaksKept s
  case done => exact takeDone_breaksKept ..
  case fault => exact takeFault_breaksKept ..
  case fabricMessageMalformed bytes =>
    show BreaksKept s (takeMalformed bytes s)
    unfold takeMalformed; split
    · exact .of_eq rfl rfl rfl rfl
    · exact .refl s
  case ackTimerExpiry => exact takeAckExpiry_breaksKept ..
  case recordArrival => exact .ite (.of_eq rfl rfl rfl rfl) (.of_eq rfl rfl rfl rfl)
  case intakeTaking => exact takeIntake_breaksKept s
  case lineChange => exact takeLineChange_breaksKept ..
  case settleExpiry => exact takeSettle_breaksKept ..
  case claimClose => exact takeClaimClose_breaksKept ..
  case outCommitPoint => exact takeOutCommit_breaksKept ..
  case fillCommitPoint => exact takeFillCommit_breaksKept ..
  case inCommitPoint => exact takeInCommit_breaksKept ..
  case alertExpiry => exact takeAlertExpiry_breaksKept ..
  case stationTick => exact (settleTick_breaksKept s).trans (advanceTick_breaksKept _)
  case readTime => exact takeRead_breaksKept _ _ _ (fun _ => rfl) s
  case readLane => exact takeRead_breaksKept _ _ _ (readLaneAct_state _) s
  case readOrderLink => exact takeRead_breaksKept _ _ _ (fun _ => rfl) s
  case readIntake => exact takeRead_breaksKept _ _ _ (fun _ => rfl) s
  case readFeed => exact takeRead_breaksKept _ _ _ (readFeedAct_state _) s
  case readCueLogic => exact takeRead_breaksKept _ _ _ (fun _ => rfl) s
  case readPair => exact takeRead_breaksKept _ _ _ (readPairAct_state _) s
  case readFilter => exact takeRead_breaksKept _ _ _ (readFilterAct_state _) s
  case readStrays => exact takeRead_breaksKept _ _ _ (fun _ => rfl) s
  case readAvail => exact takeRead_breaksKept _ _ _ (readAvailAct_state _) s
  case readLaneAvails => exact takeRead_breaksKept _ _ _ (readLaneAvailsAct_state _) s
  case readStanding => exact takeRead_breaksKept _ _ _ (readStandingAct_state _) s
  case readWindow => exact takeRead_breaksKept _ _ _ (readWindowAct_state _) s
  case readAlerts => exact takeRead_breaksKept _ _ _ (fun _ => rfl) s
  all_goals refine takeRequest_breaksKept _ _ _ (fun x hattached => ?_) s
  case status =>
    unfold statusAct; dsimp only
    exact updPort_breaksKept _ _ _ id
  case subscribe =>
    unfold subscribeAct; split
    · exact .refl x
    · dsimp only; exact updPort_breaksKept _ _ _ id
  case rejoin =>
    unfold rejoinAct; dsimp only; split
    · dsimp only; exact updPort_breaksKept _ _ _ id
    · exact .refl x
  case setCalendar =>
    unfold setCalendarAct; split
    · exact .refl x
    · refine .trans ?_ (raise_breaksKept ..)
      exact .of_eq rfl rfl rfl rfl
  case writeLane => exact writeLaneAct_breaksKept ..
  case laneReset => exact laneResetAct_breaksKept ..
  case writePair => exact writePairAct_breaksKept ..
  case enablePair => exact enablePairAct_breaksKept ..
  case setCueOutput =>
    unfold setCueOutputAct; split
    · exact .refl x
    · exact .of_eq rfl rfl rfl rfl
  case writeFilter => exact writeFilterAct_breaksKept ..
  case readHit =>
    unfold readHitAct; split
    · exact .refl x
    · exact .of_eq rfl rfl rfl rfl
  case takeStray =>
    unfold takeStrayAct; split
    · exact .refl x
    · exact .of_eq rfl rfl rfl rfl
  case bookAvail => exact bookAct_breaksKept ..
  case cancelAvail => exact cancelAct_breaksKept ..
  case release => exact releaseAct_breaksKept ..
  case claim => exact claimAct_breaksKept _ _ _ (hattached.resolve_right (by decide))
  case withdraw => exact withdrawAct_breaksKept ..
  case stand => exact standAct_breaksKept _ _ _ (hattached.resolve_right (by decide))
  case standClear => exact standClearAct_breaksKept ..
  case standPause => exact setPaused_breaksKept ..
  case standResume => exact setPaused_breaksKept ..
  case writeWindow => exact writeWindowAct_breaksKept ..
  case alertStart => exact alertStartAct_breaksKept ..
  case alertEnd => exact alertEndAct_breaksKept ..

/-- A form step detaches no port, and what the command does next keeps what DETACHED ports hold (R155, R189, R190). -/
theorem exec_detachedHoldsNothing {c : Instr} {s t : State} (hports : PortsSound s) (hclaims : ClaimsSound s)
    (hs : DetachedHoldsNothing s) (h : exec c s = .next t) : DetachedHoldsNothing t :=
  (exec_breaksKept c s t h).detached (afterForm_claimsSound hclaims) (afterForm_detachedHoldsNothing hports hs)

end Sys2Proof.Machine
end

section
/-! Every command keeps the avails, their claims lists and what DETACHED ports hold. -/

namespace Sys2Proof.Certificates

open Sys2Proof.Machine

/-- Settles O56: from the state after its form step, every command keeps avails on lanes in RUN, airing avails alone, and claims sound. -/
theorem availsSoundKept : Obligations.AvailsSoundKept :=
  ⟨step_keeps AvailsSound (fun _ _ hs => hs) fun c s t h hs => (exec_breaksKept c s t h).sound (afterForm_availsSound hs),
    step_keeps ClaimsSound (fun _ _ hs => hs) fun c s t h hs => (exec_breaksKept c s t h).claims (afterForm_claimsSound hs)⟩

/-- Settles O22: a command keeps what DETACHED ports hold, and an empty queue leaves the state. -/
theorem detachedHoldsNothingKept : Obligations.DetachedHoldsNothingKept := by
  intro s t hports hclaims hs hstep
  unfold step at hstep; split at hstep
  · cases hstep; exact hs
  · rename_i c rest _
    exact exec_detachedHoldsNothing (s := { s with pending := rest }) hports hclaims hs hstep

end Sys2Proof.Certificates
end

section
/-! SUPPORT. A detach as a state (R155, R190): what becomes of each avail, each place and each port. -/

namespace Sys2Proof.Machine

/-! ## What a detach can write -/

/-- Only port records, standing claims and avail records differ. -/
def ClaimsOnly (s t : State) : Prop := t = { s with ports := t.ports, standing := t.standing, avails := t.avails }

theorem ClaimsOnly.trans {s t u : State} (h : ClaimsOnly s t) (g : ClaimsOnly t u) : ClaimsOnly s u := by
  unfold ClaimsOnly at *; rw [h] at g; exact g

theorem ClaimsOnly.of_availsOnly {s t : State} (h : AvailsOnly s t) : ClaimsOnly s t := by
  unfold AvailsOnly ClaimsOnly at *; rw [h]

/-! ## The avails (R155, steps 1 and 3) -/

/-- An avail's record after the detach of port p (R155, steps 1 and 3). -/
def Avail.withoutPort (p : Fin 4) (a : Avail) : Avail :=
  if a.state = .armed then { a with claims := a.claims.filter fun c => decide (c.port ≠ p) }
  else if a.state = .closed ∧ a.holder.map Claim.port = some p then { a with holder := none, fillTick := none }
  else a

theorem detachAvail_eq (p : Fin 4) (s : State) (i : Fin 64) : detachAvail p s i = s.updAvail i (Avail.withoutPort p) := by
  have hsame (h : (s.avail i).withoutPort p = s.avail i) : s = s.updAvail i (Avail.withoutPort p) := by
    conv_lhs => rw [← updAvail_self i s, ← h]
    rfl
  have hset (f : Avail → Avail) (h : (s.avail i).withoutPort p = f (s.avail i)) :
      s.updAvail i f = s.updAvail i (Avail.withoutPort p) := by
    unfold State.updAvail; rw [h]
  unfold detachAvail; dsimp only; split
  · rename_i hst; exact hset _ (if_pos hst)
  · rename_i hst
    have harmed : (s.avail i).state ≠ .armed := by rw [hst]; decide
    split
    · rename_i hheld
      exact hset _ ((if_neg harmed).trans (if_pos ⟨hst, (Avail.heldBy_iff ..).mp hheld⟩))
    · rename_i hheld
      exact hsame ((if_neg harmed).trans (if_neg fun ⟨_, h⟩ => hheld ((Avail.heldBy_iff ..).mpr h)))
  all_goals
    rename_i hst
    refine hsame ((if_neg ?_).trans (if_neg fun ⟨h, _⟩ => ?_))
    · rw [hst]; decide
    · rw [hst] at h; cases h

/-- One change made to each avail of a list, in turn. -/
theorem foldl_updAvail_avail (f : Avail → Avail) {xs : List (Fin 64)} (hxs : xs.Nodup) (s : State) (i : Fin 64) :
    (xs.foldl (fun s j => s.updAvail j f) s).avail i = if i ∈ xs then f (s.avail i) else s.avail i := by
  induction xs generalizing s with
  | nil => rfl
  | cons j xs ih =>
    obtain ⟨hj, hxs⟩ := List.nodup_cons.mp hxs
    rw [List.foldl_cons, ih hxs, State.updAvail_avail]
    by_cases hi : i = j
    · subst hi; simp [hj]
    · simp [hi]

theorem detachAvails_avail (p : Fin 4) (s : State) (i : Fin 64) :
    ((List.finRange 64).foldl (detachAvail p) s).avail i = (s.avail i).withoutPort p := by
  have hstep : detachAvail p = fun s j => s.updAvail j (Avail.withoutPort p) := by
    funext s j; exact detachAvail_eq p s j
  rw [hstep, foldl_updAvail_avail _ (List.nodup_finRange 64), if_pos (List.mem_finRange i)]

/-! ## The places (R155, step 2) -/

theorem clearPlaces_claimsOnly (p : Fin 4) (s : State) : ClaimsOnly s (clearPlaces p s) :=
  foldl_keeps ClaimsOnly (fun _ => rfl) (fun _ _ _ => .trans) (fun s l => s.setPlace l p none) (fun _ _ => rfl) _ s

theorem clearPlaces_place_other {p q : Fin 4} (h : q ≠ p) (s : State) (l : Fin 32) : (clearPlaces p s).place l q = s.place l q :=
  foldl_keeps (fun s t : State => t.place l q = s.place l q) (fun _ => rfl) (fun _ _ _ h g => g.trans h)
    (fun s l => s.setPlace l p none) (fun _ _ => by rw [State.setPlace_place, if_neg fun ⟨_, e⟩ => h e]) _ s

/-! ## The whole detach (R155, R190) -/

theorem detachClaims_claimsOnly (p : Fin 4) (s : State) : ClaimsOnly s (detachClaims p s) :=
  (clearPlaces_claimsOnly p s).trans
    (ClaimsOnly.of_availsOnly (foldl_keeps AvailsOnly .refl (fun _ _ _ => .trans) _ (detachAvail_avails p) _ _))

theorem detachClaims_avail (p : Fin 4) (s : State) (i : Fin 64) : (detachClaims p s).avail i = (s.avail i).withoutPort p := by
  rw [detachClaims_eq, detachAvails_avail, clearPlaces_avail]

theorem detachClaims_place (p : Fin 4) (s : State) (l : Fin 32) (q : Fin 4) :
    (detachClaims p s).place l q = if q = p then none else s.place l q := by
  rw [detachClaims_eq, place_of_standing (detachAvails_standing p _)]
  split
  · rename_i h; subst h; exact clearPlaces_place ..
  · rename_i h; exact clearPlaces_place_other h s l

theorem detach_claimsOnly (p : Fin 4) (s : State) : ClaimsOnly s (detach p s) := by
  have hport : ClaimsOnly s (s.updPort p Port.detached) := rfl
  unfold detach; dsimp only
  exact (hport.trans (detachClaims_claimsOnly ..)).trans (.of_availsOnly (raise_ports ..).avails)

theorem detach_avail (p : Fin 4) (s : State) (i : Fin 64) : (detach p s).avail i = (s.avail i).withoutPort p := by
  unfold detach; dsimp only
  rw [raise_avail, detachClaims_avail, State.updPort_avail]

theorem detach_place (p : Fin 4) (s : State) (l : Fin 32) (q : Fin 4) :
    (detach p s).place l q = if q = p then none else s.place l q := by
  unfold detach; dsimp only
  rw [raise_place, detachClaims_place, State.updPort_place]

/-- A port in DETACHED is passed over, addressed or not (R192). -/
theorem Port.receive_detached {P : Port} (h : P.state = .detached) (n : Notice) (a : Bool) : P.receive n a = P := by
  unfold Port.receive; rw [if_pos h]; exact ite_self _

/-- The port that is detached hears nothing of it (R190, R192). -/
theorem detach_port_self (p : Fin 4) (s : State) : (detach p s).port p = (s.port p).detached := by
  unfold detach; dsimp only
  rw [raise_port, detachClaims_port, State.updPort_port, if_pos rfl]
  exact Port.receive_detached rfl _ _

/-- Every other port hears PORT_STATE and nothing else (R190, R196). -/
theorem detach_port_other {p q : Fin 4} (h : q ≠ p) (s : State) :
    (detach p s).port q = (s.port q).receive (.portState p (s.port p).state .detached 192 .frame s.tick) false := by
  have haddr : [p].contains q = false := by simpa using h
  unfold detach; dsimp only
  rw [raise_port, detachClaims_port, State.updPort_port, if_neg h, haddr]; rfl

/-- The malformed frame that raises the count to 192 detaches its port, its select ended (R189, R190). -/
theorem takeBytes_detaching {p : Fin 4} {bytes : List Byte} {cause : FormCause} {code : Byte} {s : State}
    (hbytes : decodeFrame p true bytes = .malformed cause code) (hst : (s.port p).state ≠ .detached)
    (hcount : 192 ≤ (s.port p).errors + 8) : takeBytes p bytes s = detach p (s.updPort p fun P => { P with chosen := none }) := by
  have hport : (s.updPort p fun P => { P with chosen := none }).port p = { s.port p with chosen := none } := by
    rw [State.updPort_port, if_pos rfl]
  unfold takeBytes; rw [hbytes]; dsimp only
  unfold takeMalformedFrame; dsimp only
  rw [hport]
  exact (if_neg hst).trans (if_pos hcount)

end Sys2Proof.Machine
end

section
/-! Claims: the malformed frame that detaches a port. -/

namespace Sys2Proof.Certificates

open Sys2Proof.Machine

/-- Settles O19: the frame is a detach with the select ended, and a detach is known field by field. -/
theorem detachingFrame : Obligations.DetachingFrame := by
  intro p bytes cause code s hbytes hst hcount
  have hport : (s.updPort p fun P => { P with chosen := none }).port p = { s.port p with chosen := none } := by
    rw [State.updPort_port, if_pos rfl]
  refine ⟨_, congrArg Host.Outcome.next (takeBytes_detaching hbytes hst hcount), ?_, fun q hq => ?_, ?_,
    fun l q => ?_, fun i => ?_⟩
  · have hselect : ClaimsOnly s (s.updPort p fun P => { P with chosen := none }) := rfl
    exact hselect.trans (detach_claimsOnly ..)
  · rw [detach_port_other hq, hport, State.updPort_port, if_neg hq]; rfl
  · rw [detach_port_self, hport]; rfl
  · rw [detach_place, State.updPort_place]
  · rw [detach_avail, State.updPort_avail]; rfl

end Sys2Proof.Certificates
end

section
/-! SUPPORT. The fields of STAND (R145), and what STAND, STAND CLEAR, STAND PAUSE and STAND RESUME answer (R145 to R147). -/

namespace Sys2Proof.Machine

/-! ## The fields of STAND (R145) -/

theorem standOf_eq_none (r : RawStand) :
    standOf r = none ↔ 31 < r.lane.toNat ∨ 15 < r.rank.toNat ∨ SpotSourceOut r.source ∨ SpotOut r.spot := by
  rw [← or_false (SpotOut r.spot)]
  exact bind_eq_none_or toFin_eq_none fun _ _ => bind_eq_none_or within_zero_eq_none fun _ _ =>
    bind_eq_none_or spotSourceOf_eq_none fun _ _ => bind_eq_none_or spotOf_eq_none fun _ _ => ⟨fun h => (nomatch h), False.elim⟩

theorem standOf_eq_some {r : RawStand} {l : Fin 32} {x : Standing} (h : standOf r = some (l, x)) :
    (l.val = r.lane.toNat ∧ x.rank = r.rank.toNat ∧ SpotSourceSpells r.source x.source ∧ SpotSpells r.spot x.spot) ∧
      x.paused = false := by
  unfold standOf at h
  simp only [Option.bind_eq_bind, Option.bind_eq_some_iff, Option.pure_def, Option.some.injEq, Prod.mk.injEq] at h
  obtain ⟨lane, hlane, rank, hrank, source, hsource, spot, hspot, rfl, rfl⟩ := h
  obtain ⟨rfl, -⟩ := within_eq_some hrank
  exact ⟨⟨(toFin_eq_some.mp hlane).symm, rfl, spotSourceOf_eq_some hsource, spotOf_eq_some hspot⟩, rfl⟩

/-! ## Requests by what their block answers (R188) -/

section Answers

variable {p : Fin 4} {r : RawStand} {b : Byte} {s t : State} {code : ReplyCode} {body : ReplyBody}

theorem exec_stand (ha : Accepts p .stand s) (heq : standAct p r (goodFrame p s) = { code, body, state := t }) :
    exec (.stand p r) s = .next (answer p .stand code body t) := congrArg Host.Outcome.next (takeRequest_eq ha heq)

theorem exec_standClear (ha : Accepts p .standClear s) (heq : standClearAct p b (goodFrame p s) = { code, body, state := t }) :
    exec (.standClear p b) s = .next (answer p .standClear code body t) := congrArg Host.Outcome.next (takeRequest_eq ha heq)

theorem exec_standPause (ha : Accepts p .standPause s) (heq : setPaused p b true (goodFrame p s) = { code, body, state := t }) :
    exec (.standPause p b) s = .next (answer p .standPause code body t) := congrArg Host.Outcome.next (takeRequest_eq ha heq)

theorem exec_standResume (ha : Accepts p .standResume s) (heq : setPaused p b false (goodFrame p s) = { code, body, state := t }) :
    exec (.standResume p b) s = .next (answer p .standResume code body t) := congrArg Host.Outcome.next (takeRequest_eq ha heq)

end Answers

/-! ## What each block answers (R145 to R147) -/

theorem standAct_range {r : RawStand} (h : standOf r = none) (p : Fin 4) (s : State) : standAct p r s = refuse .range s := by
  unfold standAct; rw [h]

theorem standAct_ok {r : RawStand} {l : Fin 32} {x : Standing} (h : standOf r = some (l, x)) (p : Fin 4) (s : State) :
    standAct p r s = { code := .ok, body := .flag (s.place l p).isSome, state := s.setPlace l p (some x) } := by
  unfold standAct; rw [h]

theorem standClearAct_range {b : Byte} (h : 32 ≤ b.toNat) (p : Fin 4) (s : State) : standClearAct p b s = refuse .range s := by
  unfold standClearAct; rw [toFin_eq_none.mpr h]

theorem setPaused_range {b : Byte} (h : 32 ≤ b.toNat) (p : Fin 4) (paused : Bool) (s : State) :
    setPaused p b paused s = refuse .range s := by
  unfold setPaused; rw [toFin_eq_none.mpr h]

section Named

variable {b : Byte} {l : Fin 32} {p : Fin 4} {s : State} (hb : b.toNat = l.val)

include hb

theorem standClearAct_unknown (h : s.place l p = none) : standClearAct p b s = refuse .unknown s := by
  unfold standClearAct; rw [toFin_eq_some.mpr hb]; exact if_neg (by rw [h]; exact Bool.false_ne_true)

theorem standClearAct_ok (h : s.place l p ≠ none) :
    standClearAct p b s = { code := .ok, body := .none, state := s.setPlace l p none } := by
  unfold standClearAct; rw [toFin_eq_some.mpr hb]; exact if_pos (Option.isSome_iff_ne_none.mpr h)

theorem setPaused_unknown (h : s.place l p = none) (paused : Bool) : setPaused p b paused s = refuse .unknown s := by
  unfold setPaused; rw [toFin_eq_some.mpr hb]; dsimp only; rw [h]

theorem setPaused_ok {x : Standing} (h : s.place l p = some x) (paused : Bool) : setPaused p b paused s =
    { code := .ok, body := .flag x.paused, state := s.setPlace l p (some { x with paused }) } := by
  unfold setPaused; rw [toFin_eq_some.mpr hb]; dsimp only; rw [h]

end Named

end Sys2Proof.Machine
end

section
/-! Claims: the requests on a port's own standing claims. -/

namespace Sys2Proof.Certificates

open Sys2Proof.Machine

/-- Settles O52: the fields of STAND, the lanes that name no place, and each request by what stands in the requester's place. -/
theorem standingRequests : Obligations.StandingRequests := by
  refine ⟨fun r => ⟨standOf_eq_none r, fun l x h => (standOf_eq_some h).1⟩,
    fun p s => ⟨fun r ha => ⟨fun h => ?_, fun l x h => ⟨(standOf_eq_some h).2, ?_⟩⟩,
      fun b hb => ⟨fun ha => ?_, fun ha => ?_, fun ha => ?_⟩,
      fun b l hb => ?_⟩⟩
  · exact exec_stand ha (standAct_range h ..)
  · rw [← goodFrame_place p s l p]; exact exec_stand ha (standAct_ok h ..)
  · exact exec_standClear ha (standClearAct_range hb ..)
  · exact exec_standPause ha (setPaused_range hb ..)
  · exact exec_standResume ha (setPaused_range hb ..)
  · rw [← goodFrame_place p s l p]
    exact ⟨fun ha => ⟨fun h => exec_standClear ha (standClearAct_unknown hb h), fun h => exec_standClear ha (standClearAct_ok hb h)⟩,
      fun ha => ⟨fun h => exec_standPause ha (setPaused_unknown hb h true), fun x h => exec_standPause ha (setPaused_ok hb h true)⟩,
      fun ha => ⟨fun h => exec_standResume ha (setPaused_unknown hb h false), fun x h => exec_standResume ha (setPaused_ok hb h false)⟩⟩

end Sys2Proof.Certificates
end

section
/-! SUPPORT. Arbitration (R150 to R154): the candidates of an avail and their order, the winner, and the notices of a claim close. -/

namespace Sys2Proof.Machine

/-! ## The order of candidates (R152) -/

theorem Candidate.precedes_iff (a b : Candidate) : a.precedes b = true ↔
    a.effective < b.effective ∨ (a.effective = b.effective ∧ a.kind = .specific ∧ b.kind = .standing) ∨
      (a.effective = b.effective ∧ a.kind = b.kind ∧ a.claim.port < b.claim.port) := by
  unfold Candidate.precedes
  by_cases he : a.effective = b.effective
  · rw [if_neg (not_not.mpr he)]
    cases ha : a.kind <;> cases hb : b.kind <;> simp [he]
  · simp [he]

/-- The place that a candidate's kind and port give it among candidates of one effective rank (R152). -/
def Candidate.seat (c : Candidate) : Fin 8 :=
  match c.kind with
  | .specific => c.claim.port.castLE (by decide)
  | .standing => c.claim.port.natAdd 4

theorem Candidate.seat_specific {c : Candidate} (h : c.kind = .specific) : c.seat.val = c.claim.port.val := by
  unfold Candidate.seat; rw [h]; rfl

theorem Candidate.seat_standing {c : Candidate} (h : c.kind = .standing) : c.seat.val = 4 + c.claim.port.val := by
  unfold Candidate.seat; rw [h]; rfl

/-- R152's order is that of the effective ranks, and of the seats among equal ranks. -/
theorem Candidate.precedes_iff_seat (a b : Candidate) :
    a.precedes b = true ↔ 8 * a.effective + a.seat.val < 8 * b.effective + b.seat.val := by
  rw [a.precedes_iff]
  cases ha : a.kind with
  | specific =>
    rw [a.seat_specific ha]
    cases hb : b.kind with
    | specific => rw [b.seat_specific hb]; simp; omega
    | standing => rw [b.seat_standing hb]; simp; omega
  | standing =>
    rw [a.seat_standing ha]
    cases hb : b.kind with
    | specific => rw [b.seat_specific hb]; simp; omega
    | standing => rw [b.seat_standing hb]; simp; omega

theorem Candidate.precedes_trans {a b c : Candidate} (h : a.precedes b = true) (g : b.precedes c = true) : a.precedes c = true := by
  rw [Candidate.precedes_iff_seat] at h g ⊢; omega

theorem Candidate.precedes_asymm {a b : Candidate} (h : a.precedes b = true) : ¬b.precedes a = true := by
  rw [Candidate.precedes_iff_seat] at h ⊢; omega

/-- Of two candidates with different seats, one precedes the other. -/
theorem Candidate.precedes_total {a b : Candidate} (h : a.seat ≠ b.seat) : a.precedes b = true ∨ b.precedes a = true := by
  rw [Candidate.precedes_iff_seat, Candidate.precedes_iff_seat]; omega

/-! ## The winner (R152) -/

/-- The candidate w precedes every other one of a list. -/
def Candidate.Leads (w : Candidate) (cs : List Candidate) : Prop := ∀ c ∈ cs, c ≠ w → w.precedes c = true

theorem winner_eq_none {cs : List Candidate} : winner cs = none ↔ cs = [] := by
  cases cs with
  | nil => exact ⟨fun _ => rfl, fun _ => rfl⟩
  | cons c cs => unfold winner; split <;> [skip; split] <;> simp

/-- The winner leads where each two candidates have different seats. -/
theorem winner_leads {cs : List Candidate} (hcs : (cs.map Candidate.seat).Nodup) {w : Candidate} (h : winner cs = some w) :
    w.Leads cs := by
  induction cs generalizing w with
  | nil => cases h
  | cons c cs ih =>
    rw [List.map_cons, List.nodup_cons] at hcs
    obtain ⟨hc, hcs⟩ := hcs
    unfold winner at h; split at h
    · rename_i hnone
      cases h; rw [winner_eq_none.mp hnone]
      intro d hd hne; exact absurd (List.mem_singleton.mp hd) hne
    · rename_i d hd
      have hlead := ih hcs hd
      have hseat : d.seat ≠ c.seat := fun e => hc (e ▸ List.mem_map_of_mem (winner_mem hd))
      split at h
      · rename_i hdc
        cases h
        intro e he hne
        rcases List.mem_cons.mp he with rfl | he
        · exact hdc
        · exact hlead e he hne
      · rename_i hdc
        cases h
        have hcd : c.precedes d = true := (Candidate.precedes_total hseat).resolve_left hdc
        intro e he hne
        rcases List.mem_cons.mp he with rfl | he
        · exact absurd rfl hne
        · by_cases hed : e = d
          · subst hed; exact hcd
          · exact Candidate.precedes_trans hcd (hlead e he hed)

/-- A candidate that precedes every other one is the winner. -/
theorem winner_of_leads {cs : List Candidate} {w : Candidate} (hw : w ∈ cs) (h : w.Leads cs) : winner cs = some w := by
  induction cs with
  | nil => cases hw
  | cons c cs ih =>
    unfold winner
    by_cases hcs : w ∈ cs
    · rw [ih hcs fun d hd => h d (.tail _ hd)]; dsimp only
      by_cases hcw : c = w
      · subst hcw; exact ite_self _
      · exact if_pos (h c (.head _) hcw)
    · obtain rfl : w = c := (List.mem_cons.mp hw).resolve_right hcs
      cases hd : winner cs with
      | none => rfl
      | some d =>
        have hdw : d ≠ w := fun e => hcs (e ▸ winner_mem hd)
        exact if_neg (Candidate.precedes_asymm (h d (.tail _ (winner_mem hd)) hdw))

/-! ## The candidates (R150, R151) -/

theorem effectiveRank_eq {st : PortState} (h : st ≠ .detached) (n : Nat) :
    effectiveRank st n = if st = .caution then min (n + 4) 15 else n := by
  cases st with
  | detached => exact absurd rfl h
  | normal | caution => rfl

/-- The claim that a port's standing claim makes in an arbitration (R150). -/
def Standing.claim (p : Fin 4) (x : Standing) : Claim := { port := p, rank := x.rank, source := x.source, spot := x.spot }

/-- The claim that a port's standing claim on a lane makes, where there is one and it is not paused (R150). -/
def standingClaim (s : State) (l : Fin 32) (p : Fin 4) : Option Claim :=
  (s.place l p).bind fun x => if x.paused then none else some (x.claim p)

theorem standingClaims_eq (s : State) (l : Fin 32) : standingClaims s l = (List.finRange 4).filterMap (standingClaim s l) := by
  unfold standingClaims
  congr 1; funext p
  unfold standingClaim
  cases s.place l p <;> rfl

theorem standingClaim_eq_some {s : State} {l : Fin 32} {p : Fin 4} {c : Claim} :
    standingClaim s l p = some c ↔ ∃ x, s.place l p = some x ∧ x.paused = false ∧ c = x.claim p := by
  unfold standingClaim
  rw [Option.bind_eq_some_iff]
  refine exists_congr fun x => and_congr_right fun _ => ?_
  cases x.paused <;> simp [eq_comm]

theorem standingClaim_port {s : State} {l : Fin 32} {p : Fin 4} {c : Claim} (h : standingClaim s l p = some c) : c.port = p := by
  obtain ⟨x, -, -, rfl⟩ := standingClaim_eq_some.mp h; rfl

theorem mem_standingClaims {s : State} {l : Fin 32} {c : Claim} :
    c ∈ standingClaims s l ↔ standingClaim s l c.port = some c := by
  rw [standingClaims_eq, List.mem_filterMap]
  constructor
  · rintro ⟨p, -, h⟩; rwa [standingClaim_port h]
  · exact fun h => ⟨c.port, List.mem_finRange _, h⟩

theorem mem_candidates {i : Fin 64} {s : State} {c : Candidate} : c ∈ candidates s i ↔
    (s.port c.claim.port).state ≠ .detached ∧ c.effective = effectiveRank (s.port c.claim.port).state c.claim.rank ∧
      ((c.kind = .specific ∧ c.claim ∈ (s.avail i).claims) ∨
        (c.kind = .standing ∧ c.claim ∈ standingClaims s (s.avail i).lane)) := by
  have hmade (k : ClaimKind) (cs : List Claim) : c ∈ cs.map (candidateOf s k) ↔
      c.effective = effectiveRank (s.port c.claim.port).state c.claim.rank ∧ c.kind = k ∧ c.claim ∈ cs := by
    rw [List.mem_map]
    constructor
    · rintro ⟨x, hx, rfl⟩; exact ⟨rfl, rfl, hx⟩
    · rintro ⟨he, hk, hx⟩; exact ⟨c.claim, hx, by unfold candidateOf; rw [← he, ← hk]⟩
  unfold candidates
  rw [List.mem_filter, List.mem_append, hmade, hmade, ← and_or_left, decide_eq_true_eq, and_comm]

/-- One port has one standing claim on a lane (R144). -/
theorem standingClaims_ports_nodup (s : State) (l : Fin 32) : ((standingClaims s l).map Claim.port).Nodup := by
  have hnodup : (standingClaims s l).Nodup := by
    rw [standingClaims_eq]
    exact (List.nodup_finRange 4).filterMap fun p q c hp hq => (standingClaim_port hp).symm.trans (standingClaim_port hq)
  refine hnodup.map_on fun c hc d hd hcd => ?_
  rw [mem_standingClaims] at hc hd
  rw [hcd, hd] at hc
  exact (Option.some.inj hc).symm

/-- Each two candidates differ in their kind or their port, where an avail's claims are of different ports (R141, R144). -/
theorem candidates_seats_nodup {s : State} (h : ClaimsSound s) (i : Fin 64) : ((candidates s i).map Candidate.seat).Nodup := by
  obtain ⟨hclaims, -⟩ := h i
  refine (List.Sublist.map _ List.filter_sublist).nodup ?_
  rw [List.map_append, List.map_map, List.map_map, List.nodup_append]
  have hspecific : ((s.avail i).claims.map (Candidate.seat ∘ candidateOf s .specific)).Nodup := by
    have := hclaims.map (Fin.castLE_injective (show 4 ≤ 8 by decide))
    rwa [List.map_map] at this
  have hstanding : ((standingClaims s (s.avail i).lane).map (Candidate.seat ∘ candidateOf s .standing)).Nodup := by
    have := (standingClaims_ports_nodup s (s.avail i).lane).map (Fin.natAdd_injective 4 4)
    rwa [List.map_map] at this
  refine ⟨hspecific, hstanding, fun a ha b hb hab => ?_⟩
  obtain ⟨c, -, rfl⟩ := List.mem_map.mp ha
  obtain ⟨d, -, rfl⟩ := List.mem_map.mp hb
  have hval : c.port.val = 4 + d.port.val := congrArg Fin.val hab
  omega

/-! ## The notices (R154) -/

/-- What an arbitration's notices read of a state t is what they read of s, with the avail's record a (R154). -/
structure SameRound (i : Fin 64) (a : Avail) (s t : State) : Prop where
  avail : t.avail i = a
  tick : t.tick = s.tick
  port : ∀ p, (t.port p).state = (s.port p).state

theorem SameRound.of_notices {i : Fin 64} {a : Avail} {s t u : State} (h : SameRound i a s t) (hports : PortsOnly t u)
    (hhear : PortsHear t u) : SameRound i a s u where
  avail := (hports.avail i).trans h.avail
  tick := by unfold PortsOnly at hports; rw [hports]; exact h.tick
  port p := by
    obtain ⟨-, hstate, -⟩ := (hhear p).keeps
    exact hstate.trans (h.port p)

/-- CLAIM_WON, with the fields of the avail's record a and of the state s (R154). -/
def wonNotice (i : Fin 64) (w : Candidate) (cs : List Candidate) (a : Avail) (s : State) : Notice :=
  .claimWon (headOf i a s.tick) w.claim.port w.kind w.claim.port w.claim.source w.effective
    (decide ((s.port w.claim.port).state = .caution)) a.outTick a.inTick a.frames w.claim.spot a.fillTick cs.length

/-- CLAIM_LOST to one port in the state x, with the fields of the avail's record a and of the state s (R154). -/
def raiseLostAs (i : Fin 64) (w : Candidate) (cs : List Candidate) (a : Avail) (s x : State) (p : Fin 4) : State :=
  if p = w.claim.port then x
  else
    match bestRank p cs with
    | none => x
    | some best =>
      raise (.claimLost (headOf i a s.tick) p w.kind w.claim.port w.claim.source w.effective best
        (decide ((s.port p).state = .caution)) a.outTick a.inTick a.frames cs.length) [p] x

theorem raiseLost_eq {i : Fin 64} {a : Avail} {s x : State} (h : SameRound i a s x) (w : Candidate) (cs : List Candidate) (p : Fin 4) :
    raiseLost i w cs x p = raiseLostAs i w cs a s x p := by
  unfold raiseLost; dsimp only
  rw [head_eq, h.avail, h.tick, h.port]; rfl

/-- No CLAIM_LOST changes a field of the next one. -/
theorem foldl_raiseLost_eq {i : Fin 64} {a : Avail} {s x : State} (h : SameRound i a s x) (w : Candidate) (cs : List Candidate)
    (ps : List (Fin 4)) : ps.foldl (raiseLost i w cs) x = ps.foldl (raiseLostAs i w cs a s) x := by
  induction ps generalizing x with
  | nil => rfl
  | cons p ps ih =>
    have hnext := h.of_notices (raiseLost_ports i w cs x p) (raiseLost_resolves i w cs x p).hears
    rw [List.foldl_cons, List.foldl_cons, ih hnext, raiseLost_eq h]

/-- The notices of an arbitration: CLAIM_WON, then CLAIM_LOST port by port, all with the fields of one record (R154). -/
theorem raiseClaims_eq {i : Fin 64} {a : Avail} {s x : State} (h : SameRound i a s x) (w : Candidate) (cs : List Candidate) :
    raiseClaims i w cs x = (List.finRange 4).foldl (raiseLostAs i w cs a s) (raise (wonNotice i w cs a s) [w.claim.port] x) := by
  unfold raiseClaims; dsimp only
  rw [foldl_raiseLost_eq (h.of_notices (raise_ports ..) (raise_resolves ..).hears), head_eq, h.avail, h.tick, h.port]; rfl

/-! ## The close (R123, R153) -/

/-- An avail's record as its claim close leaves it (R122, R153). -/
def Avail.closedFor (h : Option Claim) (L : Lane) (a : Avail) : Avail :=
  { a with
    state := .closed, holder := h, claims := []
    fillTick := match h.bind Claim.spot with
      | none => none
      | some n => if n < a.frames then some (addPeriods L.period L.cfg.phase a.outTick n) else none }

theorem closeAvail_eq (i : Fin 64) (h : Option Claim) (s : State) :
    closeAvail i h s = s.updAvail i (Avail.closedFor h (s.lane (s.avail i).lane)) := by
  unfold closeAvail State.updAvail; dsimp only; rw [deriveFill_eq]; rfl

theorem arbitrate_none {i : Fin 64} {s : State} (h : candidates s i = []) : arbitrate i s = closeAvail i none s := by
  unfold arbitrate; dsimp only; rw [h]; rfl

/-- The winner's close, with the notices' fields read from the record as it is closed (R153, R154). -/
theorem arbitrate_some {i : Fin 64} {s : State} {w : Candidate} (h : winner (candidates s i) = some w) :
    let close := Avail.closedFor (some w.claim) (s.lane (s.avail i).lane)
    arbitrate i s = (List.finRange 4).foldl (raiseLostAs i w (candidates s i) (close (s.avail i)) s)
      (raise (wonNotice i w (candidates s i) (close (s.avail i)) s) [w.claim.port] (s.updAvail i close)) := by
  unfold arbitrate; dsimp only
  rw [h, closeAvail_eq]; dsimp only
  exact raiseClaims_eq ⟨State.updAvail_avail_self .., rfl, fun _ => rfl⟩ w _

theorem arbitrate_avail_self {i : Fin 64} {s : State} {w : Candidate} (h : winner (candidates s i) = some w) :
    (arbitrate i s).avail i = (s.avail i).closedFor (some w.claim) (s.lane (s.avail i).lane) := by
  unfold arbitrate; dsimp only
  rw [h]; dsimp only
  rw [(raiseClaims_ports ..).avail, closeAvail_eq, State.updAvail_avail_self]

theorem takeClaimClose_due {i : Fin 64} {s : State} (hst : (s.avail i).state = .armed) (hdue : (s.avail i).claimClose = s.tick) :
    takeClaimClose i s = arbitrate i s := by
  have : claimCloseDue i s = true := by unfold claimCloseDue; rw [hst, hdue]; simp
  exact if_pos this

end Sys2Proof.Machine
end

section
/-! Claims: arbitration and the claim close. -/

namespace Sys2Proof.Certificates

open Sys2Proof.Machine

/-- The clauses on who is a candidate, and with which effective rank (R150, R151). -/
theorem candidate_clauses (i : Fin 64) (s : State) (c : Candidate) : c ∈ candidates s i ↔
    (s.port c.claim.port).state ≠ .detached ∧
    c.effective = (if (s.port c.claim.port).state = .caution then min (c.claim.rank + 4) 15 else c.claim.rank) ∧
    ((c.kind = .specific ∧ c.claim ∈ (s.avail i).claims) ∨
      (c.kind = .standing ∧ ∃ x, s.place (s.avail i).lane c.claim.port = some x ∧ x.paused = false ∧ c.claim = x.claim c.claim.port)) := by
  rw [mem_candidates, mem_standingClaims, standingClaim_eq_some]
  exact and_congr_right fun hst => by rw [effectiveRank_eq hst]

/-- The clauses on the winner (R152). -/
theorem winner_clauses (i : Fin 64) (s : State) (h : ClaimsSound s) (hne : candidates s i ≠ []) :
    (candidates s i).Nodup ∧ (candidates s i).length ≤ 8 ∧
      ∃ w ∈ candidates s i, ∀ c ∈ candidates s i, c ≠ w → w.precedes c = true := by
  have hseats := candidates_seats_nodup h i
  have hlen := hseats.length_le_card
  rw [List.length_map, Fintype.card_fin] at hlen
  obtain ⟨w, hw⟩ := Option.ne_none_iff_exists'.mp (winner_eq_none.not.mpr hne)
  exact ⟨hseats.of_map _, hlen, w, winner_mem hw, winner_leads hseats hw⟩

/-- Settles O53: the order of candidates as a numerical one, the candidates and their winner, and the close with the notices' fields read
once, from the record as it is closed. -/
theorem claimClose : Obligations.ClaimClose := by
  refine ⟨Candidate.precedes_iff, candidate_clauses, winner_clauses,
    fun i s hst hdue => congrArg Host.Outcome.next (takeClaimClose_due hst hdue), fun i s => ⟨fun hnone => ?_, fun w hw hlead => ?_⟩⟩
  · rw [arbitrate_none hnone, closeAvail_eq]; rfl
  · have hwin := winner_of_leads hw hlead
    have hrec := arbitrate_avail_self hwin
    refine ⟨arbitrate_avails i s, fun j hj => (arbitrate_avail i s j).1 hj, ?_, ?_, ?_, ?_, ?_, ?_⟩
    iterate 5 rw [hrec]; rfl
    exact arbitrate_some hwin

end Sys2Proof.Certificates
end

section
/-! SUPPORT. The alert table and its recency order (R171): what fills or empties a slot keeps them sound, and nothing else writes them. -/

namespace Sys2Proof

open Sys2Proof.Machine

/-- The alert table and its recency order stay sound. -/
structure AlertsKept (s t : State) : Prop where
  sound : AlertsSound s → AlertsSound t

theorem AlertsKept.refl (s : State) : AlertsKept s s := ⟨id⟩
theorem AlertsKept.trans {s t u : State} (h : AlertsKept s t) (g : AlertsKept t u) : AlertsKept s u := ⟨g.sound ∘ h.sound⟩

theorem AlertsKept.ite {s t u : State} {c : Prop} [Decidable c] (h : AlertsKept s t) (g : AlertsKept s u) :
    AlertsKept s (if c then t else u) := by
  split
  · exact h
  · exact g

theorem AlertsKept.of_tables {s t : State} (ha : t.alerts = s.alerts) (hr : t.recency = s.recency) : AlertsKept s t := by
  have hsame : t.alert = s.alert := by unfold State.alert; rw [ha]
  exact ⟨fun hs => by rw [AlertsSound, hr, hsame]; exact hs⟩

theorem BreakOnly.alertsKept {s t : State} (h : BreakOnly s t) : AlertsKept s t := .of_tables h.alerts h.recency
theorem AvailsOnly.alertsKept {s t : State} (h : AvailsOnly s t) : AlertsKept s t := h.break.alertsKept
theorem PortsOnly.alertsKept {s t : State} (h : PortsOnly s t) : AlertsKept s t := h.break.alertsKept

theorem ScheduleKept.alertsKept {s t : State} (h : ScheduleKept s t) : AlertsKept s t := by
  obtain ⟨-, -, -, -, -, ha, hr⟩ := scheduleKept_iff.mp h
  exact .of_tables ha hr

end Sys2Proof

namespace Sys2Proof.Machine

/-! ## One slot (R171) -/

/-- At most one slot holds the alert with an id. -/
theorem holdsId_unique {s : State} (hs : AlertsSound s) {id : Byte} {a b : Fin 4} (ha : HoldsId s id a) (hb : HoldsId s id b) :
    b = a := by
  obtain ⟨-, -, hids⟩ := hs
  obtain ⟨A, hA, rfl⟩ := ha
  obtain ⟨B, hB, hid⟩ := hb
  exact hids b a B hB A hA hid

/-- A slot may be written where the new order lists it exactly if it is occupied, the others as before, and no other slot holds its id. -/
theorem seat_alertsSound {a : Fin 4} {x : Option Alert} {order : List (Fin 4)} {s : State} (hs : AlertsSound s) (hnodup : order.Nodup)
    (hself : a ∈ order ↔ x.isSome = true) (hothers : ∀ b, b ≠ a → (b ∈ order ↔ b ∈ s.recency))
    (hid : ∀ A ∈ x, ∀ b, HoldsId s A.id b → b = a) : AlertsSound (seat a x order s) := by
  obtain ⟨-, hlists, hids⟩ := hs
  refine ⟨hnodup, fun b => ?_, fun b c B hB C hC hBC => ?_⟩
  · rw [seat_alert]; split
    · rename_i hb; rw [hb]; exact hself
    · rename_i hb; exact (hothers b hb).trans (hlists b)
  · rw [seat_alert] at hB hC
    split at hB <;> split at hC
    · rename_i hb hc; exact hb.trans hc.symm
    · rename_i hb _; exact hb.trans (hid B hB c ⟨C, hC, hBC.symm⟩).symm
    · rename_i _ hc; exact (hid C hC b ⟨B, hB, hBC⟩).trans hc.symm
    · exact hids b c B hB C hC hBC

/-- An alert's end empties its slot and drops it from the order (R177). -/
theorem endAlert_alertsKept (a : Fin 4) (A : Alert) (r : EndReason) (e : Option (Fin 4)) (s : State) :
    AlertsKept s (endAlert a A r e s) := by
  rw [endAlert_eq]
  refine .trans ⟨fun hs => ?_⟩ (raise_ports ..).alertsKept
  have hnodup : s.recency.Nodup := hs.1
  exact seat_alertsSound hs (hnodup.filter _) (by simp) (fun b hb => by simp [hb]) (by simp)

/-- An alert's beginning fills its slot and lists it last (R173, R174), where no other slot holds its id. -/
theorem beginAlert_alertsKept {a : Fin 4} {A : Alert} {s : State} (c : BeginCause) (hid : ∀ b, HoldsId s A.id b → b = a) :
    AlertsKept s (beginAlert a A c s) := by
  rw [beginAlert_eq]
  refine .trans ⟨fun hs => ?_⟩ (raise_ports ..).alertsKept
  have hnodup : s.recency.Nodup := hs.1
  have hfresh : (s.recency.filter (fun b => decide (b ≠ a)) ++ [a]).Nodup :=
    List.nodup_append_comm.mp (List.nodup_cons.mpr ⟨by simp, hnodup.filter _⟩)
  refine seat_alertsSound hs hfresh (by simp) (fun b hb => by simp [hb]) fun B hB => ?_
  cases hB; exact hid

/-- An alert's end brings no id to any slot. -/
theorem holdsId_of_endAlert {a b : Fin 4} {A : Alert} {r : EndReason} {e : Option (Fin 4)} {s : State} {id : Byte}
    (h : HoldsId (endAlert a A r e s) id b) : HoldsId s id b := by
  obtain ⟨B, hB, hid⟩ := h
  rw [endAlert_eq, (raise_ports ..).break.alert, seat_alert] at hB
  split at hB
  · cases hB
  · exact ⟨B, hB, hid⟩

theorem holdsId_of_findAlert {s : State} {id : Byte} {a : Fin 4} (h : findAlert s id = some a) : HoldsId s id a := by
  have hfound := List.find?_some h
  exact holdsId_iff.mp hfound

theorem not_holdsId_of_findAlert {s : State} {id : Byte} (h : findAlert s id = none) (a : Fin 4) : ¬HoldsId s id a := fun ha =>
  List.find?_eq_none.mp h a (List.mem_finRange a) (holdsId_iff.mpr ha)

/-! ## Starting, ending and expiry (R173 to R178) -/

theorem alertChange_alertsKept (z : ZoneSet) (s : State) : AlertsKept s (alertChange z s) := (alertChange_break z s).alertsKept

/-- An update writes the one slot that holds the id (R173); a new alert's id is held by none, nor after a displacement (R174, R175). -/
theorem startAlert_alertsKept (A : Alert) (s : State) : AlertsKept s (startAlert A s).state := by
  unfold startAlert; split
  · rename_i a hfind
    refine .trans ⟨fun hs => ?_⟩ (alertChange_alertsKept ..)
    exact (beginAlert_alertsKept _ fun b => holdsId_unique hs (holdsId_of_findAlert hfind)).sound hs
  · rename_i hfind
    have hnew := not_holdsId_of_findAlert hfind
    split
    · exact (beginAlert_alertsKept _ fun b hb => (hnew b hb).elim).trans (alertChange_alertsKept ..)
    · split
      · exact .refl s
      · split
        · exact .refl s
        · refine ((endAlert_alertsKept ..).trans (beginAlert_alertsKept _ fun b hb => ?_)).trans (alertChange_alertsKept ..)
          exact (hnew b (holdsId_of_endAlert hb)).elim

theorem alertStartAct_alertsKept (p : Fin 4) (r : RawAlert) (s : State) : AlertsKept s (alertStartAct p r s).state := by
  unfold alertStartAct; split
  · exact .refl s
  · exact startAlert_alertsKept ..

theorem alertEndAct_alertsKept (p : Fin 4) (b : Byte) (s : State) : AlertsKept s (alertEndAct p b s).state := by
  unfold alertEndAct; split
  · exact .refl s
  · split
    · exact .refl s
    · split
      · exact .refl s
      · exact (endAlert_alertsKept ..).trans (alertChange_alertsKept ..)

theorem takeAlertExpiry_alertsKept (a : Fin 4) (s : State) : AlertsKept s (takeAlertExpiry a s) := by
  unfold takeAlertExpiry; split
  · exact .ite ((endAlert_alertsKept ..).trans (alertChange_alertsKept ..)) (.refl s)
  · exact .refl s

/-! ## Orders, lanes and windows -/

theorem takeDone_alertsKept (l : Fin 32) (seq : Byte) (s : State) : AlertsKept s (takeDone l seq s) := by
  unfold takeDone; split
  · exact (orderDone_break ..).alertsKept
  · exact .of_tables rfl rfl

theorem takeFault_alertsKept (l : Fin 32) (seq : Byte) (c : FabricCode) (s : State) : AlertsKept s (takeFault l seq c s) := by
  unfold takeFault; split
  · exact ((setOrder_break ..).trans (laneFault_break ..)).alertsKept
  · exact .of_tables rfl rfl

theorem takeAckExpiry_alertsKept (l : Fin 32) (s : State) : AlertsKept s (takeAckExpiry l s) := by
  have hdrop : AlertsKept s (dropOrder l s) := by
    unfold dropOrder
    exact .ite (.of_tables rfl rfl) (.of_tables rfl rfl)
  unfold takeAckExpiry; split
  · exact .ite (.trans (.ite (.refl s) hdrop) ((setOrder_break ..).trans (laneFault_break ..)).alertsKept) (.refl s)
  · exact .refl s

theorem startSend_alertsKept (s : State) : AlertsKept s (startSend s) := by
  unfold startSend; split
  · exact .of_tables rfl rfl
  · exact .refl s

theorem endSend_alertsKept (s : State) : AlertsKept s (endSend s) := by
  rcases endSend_cases s with h | ⟨_, _, _, _, _, _, h⟩ <;> rw [h] <;> exact .of_tables rfl rfl

theorem takeBoundary_alertsKept (s : State) : AlertsKept s (takeBoundary s) := by
  unfold takeBoundary
  refine .ite (.trans ?_ (windowBoundary_frame _).alertsKept) (.refl s)
  exact .of_tables rfl rfl

theorem writeWindowAct_alertsKept (r : RawWindow) (s : State) : AlertsKept s (writeWindowAct r s).state := by
  have hwrite (w : Fin 16) (f : Window → Window) : AlertsKept s (s.updWindow w f) := .of_tables rfl rfl
  unfold writeWindowAct; split
  · exact .refl s
  · dsimp only; split
    · exact .refl s
    · exact (hwrite ..).trans (acceptWindow_break ..).alertsKept

/-! ## The clock and every command -/

theorem sweep_alertsKept {n : Nat} (take : Fin n → State → State) (h : ∀ i s, AlertsKept s (take i s)) (s : State) :
    AlertsKept s (sweep take s) := sweep_keeps AlertsKept .refl (fun _ _ _ => .trans) take h s

theorem settleTick_alertsKept (s : State) : AlertsKept s (settleTick s) := by
  unfold settleTick
  refine .trans ?_ (startSend_alertsKept _)
  refine .trans ?_ (sweep_alertsKept _ (fun i s => (takeInCommit_break i s).alertsKept) _)
  refine .trans ?_ (sweep_alertsKept _ (fun i s => (takeFillCommit_break i s).alertsKept) _)
  refine .trans ?_ (sweep_alertsKept _ (fun i s => (takeOutCommit_break i s).alertsKept) _)
  refine .trans ?_ (sweep_alertsKept _ (fun i s => (takeClaimClose_avails i s).alertsKept) _)
  refine .trans ?_ (sweep_alertsKept _ takeAckExpiry_alertsKept _)
  refine .trans ?_ (sweep_alertsKept _ (fun p s => (takeQuietExpiry_ports p s).alertsKept) _)
  refine .trans ?_ (sweep_alertsKept _ takeAlertExpiry_alertsKept _)
  exact (takeBoundary_alertsKept s).trans (sweep_alertsKept _ (fun n s => (takeSettle_array n s).scheduleKept.alertsKept) _)

theorem advanceTick_alertsKept (s : State) : AlertsKept s (advanceTick s) := .of_tables rfl rfl

/-- At reset no alert is active and the order lists none (R171). -/
theorem released_alertsSound (roles : Vector Role 4) (lines : BitVec 24) (q : List Instr) :
    AlertsSound (State.released roles lines q) := by
  simp [AlertsSound]

theorem takeRequest_alertsKept (p : Fin 4) (r : Req) (act : State → Answer) (hact : ∀ x, AlertsKept x (act x).state) (s : State) :
    AlertsKept s (takeRequest p r act s) :=
  takeRequest_keeps AlertsKept (fun _ _ => PortsOnly.alertsKept) (fun _ _ _ => .trans) p r act hact s

theorem exec_alertsKept (c : Instr) (s t : State) (h : exec c s = .next t) : AlertsKept s t := by
  cases hc : setsSchedule c
  · exact (exec_scheduleKept c s t hc h).alertsKept
  · cases c <;> first | (cases hc; done) | (have ht := Host.Outcome.next.inj h; subst ht)
    case powerOnReset => exact ⟨fun _ => released_alertsSound ..⟩
    case secondBoundary => exact takeBoundary_alertsKept s
    case writeLane => exact takeRequest_alertsKept _ _ _ (fun x => (writeLaneAct_break _ x).alertsKept) s
    case laneReset => exact takeRequest_alertsKept _ _ _ (fun x => (laneResetAct_break _ x).alertsKept) s
    case orderSendStart => exact startSend_alertsKept s
    case orderSendEnd => exact endSend_alertsKept s
    case done => exact takeDone_alertsKept _ _ s
    case fault => exact takeFault_alertsKept _ _ _ s
    case ackTimerExpiry => exact takeAckExpiry_alertsKept _ s
    case outCommitPoint => exact (takeOutCommit_break _ s).alertsKept
    case fillCommitPoint => exact (takeFillCommit_break _ s).alertsKept
    case inCommitPoint => exact (takeInCommit_break _ s).alertsKept
    case writeWindow => exact takeRequest_alertsKept _ _ _ (writeWindowAct_alertsKept _) s
    case alertStart => exact takeRequest_alertsKept _ _ _ (alertStartAct_alertsKept _ _) s
    case alertEnd => exact takeRequest_alertsKept _ _ _ (alertEndAct_alertsKept _ _) s
    case alertExpiry => exact takeAlertExpiry_alertsKept _ s
    case stationTick => exact (settleTick_alertsKept s).trans (advanceTick_alertsKept _)

end Sys2Proof.Machine
end

section
/-! Alerts: every command keeps the alert table and its recency order sound. -/

namespace Sys2Proof.Certificates

open Sys2Proof.Machine

/-- Settles O60: slots are filled and emptied with their places in the recency order, and an id that is held is updated where it stands. -/
theorem alertsSoundKept : Obligations.AlertsSoundKept :=
  step_keeps AlertsSound (fun _ _ => (AlertsKept.of_tables rfl rfl).sound) fun c s t h => (exec_alertsKept c s t h).sound

end Sys2Proof.Certificates
end

section
/-! SUPPORT. The port records (R184, R189, R190, R192, R195): notices, frames, detaches and rejoins keep every one of them sound. -/

namespace Sys2Proof

open Sys2Proof.Machine

/-- A notice fits the queue or is counted as dropped, and a DETACHED port's queue stays empty (R192). -/
theorem Machine.Port.receive_portSound {P : Port} (h : PortSound P) (n : Notice) (a : Bool) : PortSound (P.receive n a) := by
  obtain ⟨herrors, hdetached, hnormal, hcaution, hqueue, hdropped, hempty, hquiet⟩ := h
  rcases P.receive_cases n a with e | ⟨hst, hfull, e⟩ | ⟨hst, hroom, e⟩ <;> rw [e]
  · exact ⟨herrors, hdetached, hnormal, hcaution, hqueue, hdropped, hempty, hquiet⟩
  · exact ⟨herrors, hdetached, hnormal, hcaution, hqueue, Nat.min_le_right .., hempty, hquiet⟩
  · refine ⟨herrors, hdetached, hnormal, hcaution, ?_, hdropped, fun hd => absurd hd hst, hquiet⟩
    rw [List.length_append]; exact hroom

theorem Machine.Port.Hears.portSound {P Q : Port} (h : P.Hears Q) (hP : PortSound P) : PortSound Q := by
  induction h with
  | refl => exact hP
  | tail _ hstep ih => obtain ⟨n, a, rfl⟩ := hstep; exact Port.receive_portSound ih n a

/-- The port records stay sound. -/
structure PortsKept (s t : State) : Prop where
  sound : PortsSound s → PortsSound t

theorem PortsKept.refl (s : State) : PortsKept s s := ⟨id⟩
theorem PortsKept.trans {s t u : State} (h : PortsKept s t) (g : PortsKept t u) : PortsKept s u := ⟨g.sound ∘ h.sound⟩

theorem PortsKept.ite {s t u : State} {c : Prop} [Decidable c] (h : PortsKept s t) (g : PortsKept s u) :
    PortsKept s (if c then t else u) := by
  split
  · exact h
  · exact g

theorem PortsKept.of_ports {s t : State} (h : t.ports = s.ports) : PortsKept s t :=
  ⟨fun hs p => by unfold State.port; rw [h]; exact hs p⟩

theorem PortsHear.portsKept {s t : State} (h : PortsHear s t) : PortsKept s t := ⟨fun hs p => (h p).portSound (hs p)⟩

theorem OnlyPair.portsKept {k : Fin 6} {s t : State} (h : OnlyPair k s t) : PortsKept s t := .of_ports (by rw [h.frame])

theorem foldl_portsKept {α : Type} (f : State → α → State) (hf : ∀ s a, PortsKept s (f s a)) (xs : List α) (s : State) :
    PortsKept s (xs.foldl f s) := foldl_keeps PortsKept .refl (fun _ _ _ => .trans) f hf xs s

end Sys2Proof

namespace Sys2Proof.Machine

theorem raise_portsKept (n : Notice) (a : List (Fin 4)) (s : State) : PortsKept s (raise n a s) := (raise_resolves n a s).hears.portsKept

theorem updPort_portsKept (p : Fin 4) (f : Port → Port) (s : State) (hf : PortSound (s.port p) → PortSound (f (s.port p))) :
    PortsKept s (s.updPort p f) := ⟨fun hs q => by
  rw [State.updPort_port]; split
  · exact hf (hs p)
  · exact hs q⟩

theorem answer_portsKept (p : Fin 4) (r : Req) (c : ReplyCode) (b : ReplyBody) (s : State) : PortsKept s (answer p r c b s) :=
  updPort_portsKept _ _ _ id

/-! ## Frames (R188, R189, R190) -/

/-- NORMAL below 96, and CAUTION from 64 upward: the state that R189 gives with a count. -/
theorem portStateAfter_bounds (st : PortState) (n : Nat) :
    (portStateAfter st n = .normal → n < 96) ∧ (portStateAfter st n = .caution → 64 ≤ n) := by
  unfold portStateAfter
  cases st <;> simp only [Config.detachCount, Config.cautionCount, Config.normalCount] <;> grind

/-- A sound port that is not in DETACHED is sound with any count below 192 and the state that R189 gives with it. -/
theorem Port.counted_portSound {P : Port} (h : PortSound P) (hst : P.state ≠ .detached) {n : Nat} (hn : n < 192) :
    PortSound { P with errors := n, state := portStateAfter P.state n } := by
  obtain ⟨-, -, -, -, hqueue, hdropped, -, hquiet⟩ := h
  obtain ⟨hnormal, hcaution⟩ := portStateAfter_bounds P.state n
  have hafter : portStateAfter P.state n ≠ .detached := fun hd => hst (detached_of_portStateAfter hn.ne hd)
  exact ⟨hn.le, ⟨fun hd => absurd hd hafter, fun hd => absurd hd hn.ne⟩, hnormal, hcaution, hqueue, hdropped,
    fun hd => absurd hd hafter, fun hq => absurd (hquiet hq) hst⟩

theorem setErrors_portsKept (p : Fin 4) {n : Nat} (s : State) (hst : (s.port p).state ≠ .detached) (hn : n < 192) :
    PortsKept s (setErrors p n s) := by
  have hcounted : PortsKept s (s.updPort p fun P => { P with errors := n, state := portStateAfter (s.port p).state n }) :=
    updPort_portsKept _ _ _ fun h => Port.counted_portSound h hst hn
  exact .ite hcounted (hcounted.trans (raise_portsKept ..))

/-- The count of a port that is not in DETACHED is below 192. -/
theorem Port.errors_lt {P : Port} (h : PortSound P) (hst : P.state ≠ .detached) : P.errors < 192 := by
  obtain ⟨herrors, hdetached, -⟩ := h
  exact herrors.lt_of_ne fun h => hst (hdetached.mpr h)

theorem goodFrame_portsKept (p : Fin 4) (s : State) : PortsKept s (goodFrame p s) := by
  have hselect : PortsKept s (s.updPort p fun P => { P with chosen := none }) := updPort_portsKept _ _ _ id
  refine ⟨fun hs => ?_⟩
  have hselected := hselect.sound hs
  unfold goodFrame; dsimp only; split
  · exact hselected
  · rename_i hst
    have hcount := Port.errors_lt (hselected p) hst
    exact (setErrors_portsKept p _ hst (by omega)).sound hselected

/-- A port that enters DETACHED has the count 192, an empty queue and no quiet interval (R190). -/
theorem detach_portsKept (p : Fin 4) (s : State) : PortsKept s (detach p s) := by
  refine ⟨fun hs q => ?_⟩
  by_cases h : q = p
  · obtain ⟨-, -, -, -, -, hdropped, -, -⟩ := hs p
    rw [h, detach_port_self]
    exact ⟨le_rfl, iff_of_true rfl rfl, nofun, nofun, Nat.zero_le _, hdropped, fun _ => rfl, fun _ => rfl⟩
  · rw [detach_port_other h]
    exact Port.receive_portSound (hs q) ..

/-- A malformed frame detaches its port or adds 8 to a count that stays below 192; a DETACHED port's count stays (R188, R189). -/
theorem takeMalformedFrame_portsKept (p : Fin 4) (cause : FormCause) (code : Byte) (s : State) :
    PortsKept s (takeMalformedFrame p cause code s) := by
  have hselect : PortsKept s (s.updPort p fun P => { P with chosen := none }) := updPort_portsKept _ _ _ id
  unfold takeMalformedFrame; dsimp only; split
  · rename_i hst
    refine hselect.trans (updPort_portsKept _ _ _ fun h => ?_)
    obtain ⟨herrors, hdetached, hnormal, hcaution, hqueue, hdropped, hempty, -⟩ := h
    exact ⟨herrors, hdetached, hnormal, hcaution, hqueue, hdropped, hempty, fun _ => hst⟩
  · rename_i hst
    split
    · exact hselect.trans (detach_portsKept ..)
    · rename_i hcount
      have hform : PortsKept (s.updPort p fun P => { P with chosen := none })
          ((s.updPort p fun P => { P with chosen := none }).updPort p fun P => P.placeForm cause code) := updPort_portsKept _ _ _ id
      refine (hselect.trans hform).trans (setErrors_portsKept p _ ?_ (Nat.lt_of_not_le hcount))
      rw [State.updPort_port_self]; exact hst

theorem takeBytes_portsKept (p : Fin 4) (bytes : List Byte) (s : State) : PortsKept s (takeBytes p bytes s) := by
  unfold takeBytes; split
  · exact takeMalformedFrame_portsKept ..
  · exact .refl s
  · exact .refl s

theorem takeFetch_portsKept (p : Fin 4) (through : Bool) (s : State) : PortsKept s (takeFetch p through s) := by
  have hdelivered (P : Port) (x : Item) (h : PortSound P) : PortSound (P.delivered x) := by
    obtain ⟨herrors, hdetached, hnormal, hcaution, hqueue, hdropped, hempty, hquiet⟩ := h
    cases x with
    | reply => exact ⟨herrors, hdetached, hnormal, hcaution, hqueue, hdropped, hempty, hquiet⟩
    | notice =>
      refine ⟨herrors, hdetached, hnormal, hcaution, ?_, hdropped, fun hd => ?_, hquiet⟩
      · exact (List.length_tail ▸ Nat.sub_le _ _).trans hqueue
      · exact congrArg List.tail (hempty hd)
    | empty => exact ⟨herrors, hdetached, hnormal, hcaution, hqueue, hdropped, hempty, hquiet⟩
  have hgood := goodFrame_portsKept p s
  exact .ite (hgood.trans (updPort_portsKept _ _ _ (hdelivered _ _))) hgood

/-! ## STATUS, SUBSCRIBE and rejoins (R194, R195, R197) -/

theorem statusAct_portsKept (p : Fin 4) (s : State) : PortsKept s (statusAct p s).state := by
  unfold statusAct; dsimp only
  refine updPort_portsKept _ _ _ fun h => ?_
  obtain ⟨herrors, hdetached, hnormal, hcaution, hqueue, -, hempty, hquiet⟩ := h
  exact ⟨herrors, hdetached, hnormal, hcaution, hqueue, Nat.zero_le _, hempty, hquiet⟩

theorem subscribeAct_portsKept (p : Fin 4) (m : BitVec 24) (s : State) : PortsKept s (subscribeAct p m s).state := by
  unfold subscribeAct; split
  · exact .refl s
  · dsimp only; exact updPort_portsKept _ _ _ id

theorem rejoinAct_portsKept (p : Fin 4) (s : State) : PortsKept s (rejoinAct p s).state := by
  unfold rejoinAct; dsimp only; split
  · rename_i hst
    dsimp only
    refine updPort_portsKept _ _ _ fun h => ?_
    obtain ⟨herrors, hdetached, hnormal, hcaution, hqueue, hdropped, hempty, -⟩ := h
    exact ⟨herrors, hdetached, hnormal, hcaution, hqueue, hdropped, hempty, fun _ => hst⟩
  · exact .refl s

/-- A completed rejoin leaves the port in NORMAL with the count 0 and no quiet interval (R195). -/
theorem takeQuietExpiry_portsKept (p : Fin 4) (s : State) : PortsKept s (takeQuietExpiry p s) := by
  have hrejoined : PortsKept s (s.updPort p fun P => { P with quiet := none, errors := 0, state := .normal }) := by
    refine updPort_portsKept _ _ _ fun h => ?_
    obtain ⟨-, -, -, -, hqueue, hdropped, -, -⟩ := h
    exact ⟨Nat.zero_le _, iff_of_false nofun nofun, fun _ => Nat.succ_pos _, nofun, hqueue, hdropped, nofun, nofun⟩
  exact .ite (hrejoined.trans (raise_portsKept ..)) (.refl s)

/-- A request keeps the port records sound where its block does (R188). -/
theorem takeRequest_portsKept (p : Fin 4) (r : Req) (act : State → Answer) (hact : ∀ x, PortsKept x (act x).state) (s : State) :
    PortsKept s (takeRequest p r act s) := by
  have hgood := goodFrame_portsKept p s
  rcases takeRequest_cases p r act s with h | h | h | ⟨-, -, -, h⟩ <;> rw [h]
  · exact hgood
  · exact hgood.trans (answer_portsKept ..)
  · exact hgood.trans (answer_portsKept ..)
  · exact (hgood.trans (hact _)).trans (answer_portsKept ..)

/-- A read keeps the port records sound: its block leaves the state that it found. -/
theorem takeRead_portsKept (p : Fin 4) (r : Req) (act : State → Answer) (hact : ∀ x, (act x).state = x) (s : State) :
    PortsKept s (takeRequest p r act s) := takeRequest_portsKept p r act (fun x => by rw [hact]; exact .refl x) s

end Sys2Proof.Machine
end

section
/-! SUPPORT. What each block does to the port records: every event and every request's block that writes none of them itself lets the ports
hear notices (R192), which keeps them sound. -/

namespace Sys2Proof.Machine

theorem updAvail_portsKept (i : Fin 64) (f : Avail → Avail) (s : State) : PortsKept s (s.updAvail i f) := .of_ports rfl

/-! ## Orders (R39, R45, R47) -/

theorem updLane_portsKept (l : Fin 32) (f : Lane → Lane) (s : State) : PortsKept s (s.updLane l f) := .of_ports rfl

theorem commit_portsKept (l : Fin 32) (k : StepKind) (x : Source) (e : Tick) (a : Option Handle) (s : State) :
    PortsKept s (commit l k x e a s) := .of_ports rfl

theorem stepDone_portsKept (k : StepKind) (h : Handle) (x : Source) (s : State) : PortsKept s (stepDone k h x s) := by
  unfold stepDone; dsimp only
  refine .ite (.refl s) ?_
  cases k with
  | out => exact .ite (raise_portsKept ..) (.refl s)
  | fill => exact .ite (updAvail_portsKept ..) (.refl s)
  | inStep => exact .ite ((raise_portsKept ..).trans (finish_resolves _ _ _ _ rfl).hears.portsKept) (.refl s)
  | owner => exact .refl s
  | stop => exact .refl s

theorem handlePlanned_portsKept (l : Fin 32) (s : State) : PortsKept s (handlePlanned l s) := by
  unfold handlePlanned; dsimp only; split
  · exact .refl s
  · split
    · exact .ite (updLane_portsKept ..) (commit_portsKept ..)
    · exact commit_portsKept ..
    all_goals
      split
      · exact (commit_portsKept ..).trans (reportCommitted_runKept ..).hears.portsKept
      · exact commit_portsKept ..

theorem settleOrder_portsKept (l : Fin 32) (o : Outstanding) (s : State) : PortsKept s (settleOrder l o s) := by
  have hsettled : PortsKept s ((s.setOrder l none).updLane l fun L => L.settled o.target) := .of_ports rfl
  exact hsettled.trans (.ite (.refl _) (raise_portsKept ..))

theorem endStop_portsKept (l : Fin 32) (k : StepKind) (s : State) : PortsKept s (endStop l k s) :=
  .ite ((updLane_portsKept ..).trans (setLaneState_onlyLane ..).hears.portsKept) (.refl s)

theorem orderDone_portsKept (l : Fin 32) (o : Outstanding) (s : State) : PortsKept s (orderDone l o s) := by
  have hstop := (settleOrder_portsKept l o s).trans (endStop_portsKept l o.kind _)
  rw [orderDone_eq]
  refine .trans ?_ (handlePlanned_portsKept ..)
  split
  · exact hstop.trans (stepDone_portsKept ..)
  · exact hstop

theorem takeDone_portsKept (l : Fin 32) (seq : Byte) (s : State) : PortsKept s (takeDone l seq s) := by
  unfold takeDone; split
  · exact orderDone_portsKept ..
  · exact .of_ports rfl

theorem takeFault_portsKept (l : Fin 32) (seq : Byte) (c : FabricCode) (s : State) : PortsKept s (takeFault l seq c s) := by
  unfold takeFault; split
  · exact (setOrder_resolves ..).hears.portsKept.trans (laneFault_runKept ..).hears.portsKept
  · exact .of_ports rfl

theorem endSend_portsKept (s : State) : PortsKept s (endSend s) := by
  rcases endSend_cases s with h | ⟨_, _, _, _, _, _, h⟩ <;> rw [h]
  · exact .refl s
  · exact .of_ports rfl

theorem takeMalformed_portsKept (bytes : List Byte) (s : State) : PortsKept s (takeMalformed bytes s) := by
  unfold takeMalformed; split
  · exact .of_ports rfl
  · exact .refl s

/-! ## The intake and the cue logic (R57, R61, R67) -/

theorem raiseDiscontinuity_portsKept (f : Fin 32) (s : State) : PortsKept s (raiseDiscontinuity f s) :=
  foldl_portsKept _ (fun s _ => .ite (raise_portsKept ..) (.refl s)) _ s

theorem takeTimeref_portsKept (f : Fin 32) (stamp : Stamp) (a : Tick) (d : Bool) (s : State) : PortsKept s (takeTimeref f stamp a d s) := by
  have href : PortsKept s (s.setFeedRef f { valid := true, stamp, station := a }) := .of_ports rfl
  exact .ite (href.trans (raiseDiscontinuity_portsKept ..)) href

theorem takeIntake_portsKept (s : State) : PortsKept s (takeIntake s) := by
  unfold takeIntake; split
  · exact .refl s
  · rename_i e rest _
    have htaken : PortsKept s { s with fifo := rest } := .of_ports rfl
    refine htaken.trans ?_
    unfold takeRecord; split
    · exact .of_ports rfl
    · exact (deliverCue_runKept ..).hears.portsKept
    · exact takeTimeref_portsKept ..

theorem takeLineChange_portsKept (k : Fin 24) (b : Bool) (s : State) : PortsKept s (takeLineChange k b s) := by
  refine .ite (.refl s) (.trans ?_ (runPass_runKept _).hears.portsKept)
  exact .of_ports rfl

theorem writePairAct_portsKept (r : RawPair) (s : State) : PortsKept s (writePairAct r s).state := by
  unfold writePairAct; split
  · exact .refl s
  · dsimp only; split
    · exact .refl s
    · split
      · exact .refl s
      · exact .of_ports rfl

theorem enablePairAct_portsKept (r : RawEnable) (s : State) : PortsKept s (enablePairAct r s).state := by
  unfold enablePairAct; split
  · exact .refl s
  · dsimp only; split
    · exact .refl s
    · dsimp only; split
      · exact ((updPair_onlyPair ..).trans (primePair_onlyPair ..)).portsKept
      · exact ((updPair_onlyPair ..).trans (forcePair_onlyPair ..)).portsKept
      all_goals exact (updPair_onlyPair ..).portsKept

theorem setCueOutputAct_portsKept (r : RawOutput) (s : State) : PortsKept s (setCueOutputAct r s).state := by
  unfold setCueOutputAct; split <;> exact .of_ports rfl

/-! ## Filters (R88, R97, R100) -/

theorem writeFilterAct_portsKept (r : RawFilter) (s : State) : PortsKept s (writeFilterAct r s).state := by
  unfold writeFilterAct; split
  · exact .refl s
  · dsimp only; split <;> exact .of_ports rfl

theorem readHitAct_portsKept (b : Byte) (s : State) : PortsKept s (readHitAct b s).state := by
  unfold readHitAct; split <;> exact .of_ports rfl

theorem takeStrayAct_portsKept (s : State) : PortsKept s (takeStrayAct s).state := by
  unfold takeStrayAct; split <;> exact .of_ports rfl

/-! ## Requests on avails and claims (R120, R133, R134, R142, R145 to R149) -/

theorem bookAct_portsKept (p : Fin 4) (r : RawBooking) (s : State) : PortsKept s (bookAct p r s).state := by
  unfold bookAct; split
  · exact .refl s
  · split
    · exact .refl s
    · rename_i hrun
      dsimp only; split <;> exact (acceptBreak_runKept _ _ _ _ _ _ (not_not.mp hrun)).hears.portsKept

theorem cancelAct_portsKept (h : RawHandle) (s : State) : PortsKept s (cancelAct h s).state := by
  unfold cancelAct; split
  · exact .refl s
  · dsimp only; split
    · exact (finish_resolves _ _ _ _ rfl).hears.portsKept
    · exact (finish_resolves _ _ _ _ rfl).hears.portsKept
    · exact (pullIn_runKept ..).hears.portsKept
    all_goals exact .refl s

theorem releaseAvail_portsKept (i : Fin 64) (s : State) : PortsKept s (releaseAvail i s) :=
  (updAvail_portsKept ..).trans (pullIn_runKept ..).hears.portsKept

theorem releaseAct_portsKept (p : Fin 4) (h : RawHandle) (s : State) : PortsKept s (releaseAct p h s).state := by
  unfold releaseAct; split
  · exact .refl s
  · split
    · split
      · exact releaseAvail_portsKept ..
      · exact .refl s
    all_goals exact .refl s

theorem claimAct_portsKept (p : Fin 4) (r : RawClaim) (s : State) : PortsKept s (claimAct p r s).state := by
  unfold claimAct; split
  · exact .refl s
  · split
    · exact .refl s
    · dsimp only; split
      · exact .refl s
      · exact .of_ports rfl

theorem withdrawAct_portsKept (p : Fin 4) (h : RawHandle) (s : State) : PortsKept s (withdrawAct p h s).state := by
  unfold withdrawAct; split
  · exact .refl s
  · dsimp only; split
    · split
      · exact .of_ports rfl
      · exact .refl s
    · split
      · exact .of_ports rfl
      · exact .refl s
    · split
      · exact releaseAvail_portsKept ..
      · exact .refl s
    · split <;> exact .refl s
    all_goals exact .refl s

theorem standAct_portsKept (p : Fin 4) (r : RawStand) (s : State) : PortsKept s (standAct p r s).state := by
  unfold standAct; split <;> exact .of_ports rfl

theorem standClearAct_portsKept (p : Fin 4) (b : Byte) (s : State) : PortsKept s (standClearAct p b s).state := by
  unfold standClearAct; split
  · exact .refl s
  · split <;> exact .of_ports rfl

theorem setPaused_portsKept (p : Fin 4) (b : Byte) (x : Bool) (s : State) : PortsKept s (setPaused p b x s).state := by
  unfold setPaused; split
  · exact .refl s
  · split <;> exact .of_ports rfl

/-! ## Lanes (R18, R21, R22, R25) -/

theorem enableLane_portsKept (l : Fin 32) (s : State) : PortsKept s (enableLane l s) :=
  (((updLane_portsKept ..).trans (setLaneState_onlyLane ..).hears.portsKept).trans (commit_portsKept ..)).trans (reresolve_resolves ..).hears.portsKept

theorem prepareStop_portsKept (l : Fin 32) (s : State) : PortsKept s (prepareStop l s) := by
  unfold prepareStop; dsimp only; split
  · exact commit_portsKept ..
  · exact updLane_portsKept ..

theorem disableLane_portsKept (l : Fin 32) (s : State) : PortsKept s (disableLane l s) := by
  have hstop : PortsKept s (prepareStop l (cancelAvails l s)) :=
    ((stopLane_onlyLane l s).hears.portsKept.trans (finishLane_resolves _ _ _ _ rfl).hears.portsKept).trans (prepareStop_portsKept ..)
  rw [disableLane_eq]
  exact .ite (hstop.trans (reresolve_resolves ..).hears.portsKept) hstop

theorem enableConsequence_portsKept (l : Fin 32) (a b : Bool) (s : State) : PortsKept s (enableConsequence l a b s) := by
  unfold enableConsequence; split
  · exact enableLane_portsKept ..
  · exact disableLane_portsKept ..
  · exact disableLane_portsKept ..
  · exact .refl s

theorem acceptLane_portsKept (l : Fin 32) (cfg : LaneConfig) (s : State) : PortsKept s (acceptLane l cfg s) := by
  have hwritten (a b : Bool) : PortsKept s (enableConsequence l a b (s.updLane l fun L => { L with cfg, revision := L.revision + 1 })) :=
    (updLane_portsKept ..).trans (enableConsequence_portsKept ..)
  exact .ite (hwritten ..) ((hwritten ..).trans (reresolve_resolves ..).hears.portsKept)

theorem writeLaneAct_portsKept (r : RawLane) (s : State) : PortsKept s (writeLaneAct r s).state := by
  unfold writeLaneAct; split
  · exact .refl s
  · split
    · exact .refl s
    · exact .refl s
    · exact acceptLane_portsKept ..

theorem resetLane_portsKept (l : Fin 32) (s : State) : PortsKept s (resetLane l s) :=
  ((updLane_portsKept ..).trans (setLaneState_onlyLane ..).hears.portsKept).trans (reresolve_resolves ..).hears.portsKept

theorem laneResetAct_portsKept (b : Byte) (s : State) : PortsKept s (laneResetAct b s).state := by
  unfold laneResetAct; split
  · exact .refl s
  · split
    · exact resetLane_portsKept ..
    · exact .refl s

/-! ## Windows, alerts and the calendar (R14, R166, R173 to R177) -/

theorem windowConsequence_portsKept (w : Fin 16) (old : Window) (s : State) : PortsKept s (windowConsequence w old s) :=
  .ite ((raise_portsKept ..).trans (windowChange_resolves ..).hears.portsKept)
    (.ite ((raise_portsKept ..).trans (windowChange_resolves ..).hears.portsKept) (.ite (raise_portsKept ..) (.refl s)))

theorem writeWindowAct_portsKept (r : RawWindow) (s : State) : PortsKept s (writeWindowAct r s).state := by
  have hwrite (w : Fin 16) (f : Window → Window) : PortsKept s (s.updWindow w f) := .of_ports rfl
  unfold writeWindowAct; split
  · exact .refl s
  · dsimp only; split
    · exact .refl s
    · exact .ite ((hwrite ..).trans (windowConsequence_portsKept ..)) (hwrite ..)

theorem beginAlert_portsKept (a : Fin 4) (A : Alert) (c : BeginCause) (s : State) : PortsKept s (beginAlert a A c s) := by
  have hseated : PortsKept s (touch a (s.setAlert a (some A))) := .of_ports rfl
  exact hseated.trans (raise_portsKept ..)

theorem startAlert_portsKept (A : Alert) (s : State) : PortsKept s (startAlert A s).state := by
  have hbegun (a : Fin 4) (c : BeginCause) (z : ZoneSet) (x : State) : PortsKept x (alertChange z (beginAlert a A c x)) :=
    (beginAlert_portsKept ..).trans (alertChange_resolves ..).hears.portsKept
  unfold startAlert; split
  · exact hbegun ..
  · split
    · exact hbegun ..
    · split
      · exact .refl s
      · split
        · exact .refl s
        · exact (endAlert_resolves ..).hears.portsKept.trans (hbegun ..)

theorem alertStartAct_portsKept (p : Fin 4) (r : RawAlert) (s : State) : PortsKept s (alertStartAct p r s).state := by
  unfold alertStartAct; split
  · exact .refl s
  · exact startAlert_portsKept ..

theorem alertEndAct_portsKept (p : Fin 4) (b : Byte) (s : State) : PortsKept s (alertEndAct p b s).state := by
  unfold alertEndAct; split
  · exact .refl s
  · split
    · exact .refl s
    · split
      · exact .refl s
      · exact (endAlert_resolves ..).hears.portsKept.trans (alertChange_resolves ..).hears.portsKept

theorem setCalendarAct_portsKept (p : Fin 4) (r : RawCalendar) (s : State) : PortsKept s (setCalendarAct p r s).state := by
  unfold setCalendarAct; split
  · exact .refl s
  · refine .trans ?_ (raise_portsKept ..)
    exact .of_ports rfl

end Sys2Proof.Machine
end


section
/-! SUPPORT. Every command keeps the port records sound. -/

namespace Sys2Proof.Machine

theorem sweep_portsKept {n : Nat} (take : Fin n → State → State) (h : ∀ i s, PortsKept s (take i s)) (s : State) :
    PortsKept s (sweep take s) := sweep_keeps PortsKept .refl (fun _ _ _ => .trans) take h s

/-- Of the events of a tick only a completed rejoin writes a port record other than by a notice (R195). -/
theorem settleTick_portsKept (s : State) : PortsKept s (settleTick s) := by
  have hsettled := (sweepSettle_runKept s).hears.portsKept
  have halerts := hsettled.trans (sweepAlert_runKept _).hears.portsKept
  have hrejoined : PortsKept s (earlyEvents s) := halerts.trans (sweep_portsKept _ takeQuietExpiry_portsKept _)
  exact hrejoined.trans (lateEvents_rest _).runKept.hears.portsKept

theorem advanceTick_portsKept (s : State) : PortsKept s (advanceTick s) := .of_ports rfl

theorem exec_portsKept (c : Instr) (s t : State) (h : exec c s = .next t) : PortsKept s t := by
  cases c <;> (have ht := Host.Outcome.next.inj h; subst ht)
  case powerOnReset => exact ⟨fun _ => released_portsSound _ _ _⟩
  case secondBoundary => exact (takeBoundary_resolves s).hears.portsKept
  case chipSelectAssert => exact updPort_portsKept _ _ _ id
  case malformedFrame => exact takeBytes_portsKept ..
  case fetch => exact takeFetch_portsKept ..
  case fetchCheckByte => exact updPort_portsKept _ _ _ id
  case quietExpiry => exact takeQuietExpiry_portsKept ..
  case orderSendStart => exact (startSend_rest s).runKept.hears.portsKept
  case orderSendEnd => exact endSend_portsKept s
  case done => exact takeDone_portsKept ..
  case fault => exact takeFault_portsKept ..
  case fabricMessageMalformed => exact takeMalformed_portsKept ..
  case ackTimerExpiry => exact (takeAckExpiry_rest ..).runKept.hears.portsKept
  case recordArrival => exact .ite (.of_ports rfl) (.of_ports rfl)
  case intakeTaking => exact takeIntake_portsKept s
  case lineChange => exact takeLineChange_portsKept ..
  case settleExpiry => exact (takeSettle_runKept ..).hears.portsKept
  case claimClose => exact (takeClaimClose_runKept ..).hears.portsKept
  case outCommitPoint => exact (takeOutCommit_rest ..).runKept.hears.portsKept
  case fillCommitPoint => exact (takeFillCommit_rest ..).runKept.hears.portsKept
  case inCommitPoint => exact (takeInCommit_rest ..).runKept.hears.portsKept
  case alertExpiry => exact (takeAlertExpiry_resolves ..).hears.portsKept
  case stationTick => exact (settleTick_portsKept s).trans (advanceTick_portsKept _)
  case readTime => exact takeRead_portsKept _ _ _ (fun _ => rfl) s
  case readLane => exact takeRead_portsKept _ _ _ (readLaneAct_state _) s
  case readOrderLink => exact takeRead_portsKept _ _ _ (fun _ => rfl) s
  case readIntake => exact takeRead_portsKept _ _ _ (fun _ => rfl) s
  case readFeed => exact takeRead_portsKept _ _ _ (readFeedAct_state _) s
  case readCueLogic => exact takeRead_portsKept _ _ _ (fun _ => rfl) s
  case readPair => exact takeRead_portsKept _ _ _ (readPairAct_state _) s
  case readFilter => exact takeRead_portsKept _ _ _ (readFilterAct_state _) s
  case readStrays => exact takeRead_portsKept _ _ _ (fun _ => rfl) s
  case readAvail => exact takeRead_portsKept _ _ _ (readAvailAct_state _) s
  case readLaneAvails => exact takeRead_portsKept _ _ _ (readLaneAvailsAct_state _) s
  case readStanding => exact takeRead_portsKept _ _ _ (readStandingAct_state _) s
  case readWindow => exact takeRead_portsKept _ _ _ (readWindowAct_state _) s
  case readAlerts => exact takeRead_portsKept _ _ _ (fun _ => rfl) s
  all_goals refine takeRequest_portsKept _ _ _ (fun x => ?_) s
  case status => exact statusAct_portsKept ..
  case subscribe => exact subscribeAct_portsKept ..
  case rejoin => exact rejoinAct_portsKept ..
  case setCalendar => exact setCalendarAct_portsKept ..
  case writeLane => exact writeLaneAct_portsKept ..
  case laneReset => exact laneResetAct_portsKept ..
  case writePair => exact writePairAct_portsKept ..
  case enablePair => exact enablePairAct_portsKept ..
  case setCueOutput => exact setCueOutputAct_portsKept ..
  case writeFilter => exact writeFilterAct_portsKept ..
  case readHit => exact readHitAct_portsKept ..
  case takeStray => exact takeStrayAct_portsKept x
  case bookAvail => exact bookAct_portsKept ..
  case cancelAvail => exact cancelAct_portsKept ..
  case release => exact releaseAct_portsKept ..
  case claim => exact claimAct_portsKept ..
  case withdraw => exact withdrawAct_portsKept ..
  case stand => exact standAct_portsKept ..
  case standClear => exact standClearAct_portsKept ..
  case standPause => exact setPaused_portsKept ..
  case standResume => exact setPaused_portsKept ..
  case writeWindow => exact writeWindowAct_portsKept ..
  case alertStart => exact alertStartAct_portsKept ..
  case alertEnd => exact alertEndAct_portsKept ..

end Sys2Proof.Machine
end

section
/-! Client ports: every command keeps the port records sound. -/

namespace Sys2Proof.Certificates

open Sys2Proof.Machine

/-- Settles O21: notices, frames, detaches and rejoins keep each port record sound, and nothing else writes one. -/
theorem portsSoundKept : Obligations.PortsSoundKept :=
  step_keeps PortsSound (fun _ _ => (PortsKept.of_ports rfl).sound) fun c s t h => (exec_portsKept c s t h).sound

end Sys2Proof.Certificates
end

section
/-! SUPPORT. A port's part in a notice (R192) and the form step of a well-formed frame (R188, R189), case by case. -/

namespace Sys2Proof.Machine

/-! ## A port's part in a notice (R192) -/

theorem Port.receive_of_not {P : Port} {n : Notice} {a : Bool} (h : ¬(a = true ∨ P.subscribed n = true)) : P.receive n a = P := by
  unfold Port.receive
  rw [if_pos (by simpa using h)]

/-- A port that is subscribed to a notice or addressed by it, and not in DETACHED. -/
theorem Port.receive_of {P : Port} {n : Notice} {a : Bool} (h : a = true ∨ P.subscribed n = true) (hst : P.state ≠ .detached) :
    P.receive n a =
      if 16 ≤ P.queue.length then { P with dropped := min (P.dropped + 1) 255 } else { P with queue := P.queue ++ [n] } := by
  have hreceives : (a || P.subscribed n) = true := Bool.or_eq_true_iff.mpr h
  unfold Port.receive
  rw [hreceives]
  exact (if_neg nofun).trans (if_neg hst)

theorem Port.receive_queued {P : Port} {n : Notice} {a : Bool} (h : a = true ∨ P.subscribed n = true) (hst : P.state ≠ .detached)
    (hroom : P.queue.length < 16) : P.receive n a = { P with queue := P.queue ++ [n] } :=
  (receive_of h hst).trans (if_neg (Nat.not_le_of_lt hroom))

theorem Port.receive_dropped {P : Port} {n : Notice} {a : Bool} (h : a = true ∨ P.subscribed n = true) (hst : P.state ≠ .detached)
    (hfull : 16 ≤ P.queue.length) : P.receive n a = { P with dropped := min (P.dropped + 1) 255 } :=
  (receive_of h hst).trans (if_pos hfull)

/-- A port that a notice is addressed to queues it, or counts it as dropped where its queue is full. -/
theorem Port.receive_addressed {P : Port} (n : Notice) (hst : P.state ≠ .detached) : P.receive n true =
    { P with
      queue := if P.queue.length < 16 then P.queue ++ [n] else P.queue
      dropped := if P.queue.length < 16 then P.dropped else min (P.dropped + 1) 255 } := by
  split
  · rename_i hroom; exact receive_queued (.inl rfl) hst hroom
  · rename_i hfull; exact receive_dropped (.inl rfl) hst (Nat.le_of_not_lt hfull)

end Sys2Proof.Machine
end

section
/-! Client ports: where a notice goes. -/

namespace Sys2Proof.Certificates

open Sys2Proof.Machine

/-- Settles O14: a notice's part at each port, by what the port is subscribed to, its state and its queue. -/
theorem noticeReaches : Obligations.NoticeReaches := by
  refine ⟨fun n => by cases n <;> rfl, fun n a s p => ?_⟩
  have hreceives : (p ∈ a ∨ (s.port p).mask.getLsbD (n.kind - 1) = true) ↔
      (a.contains p = true ∨ (s.port p).subscribed n = true) := by rw [List.contains_iff_mem]; rfl
  dsimp only
  rw [raise_port, hreceives]
  exact ⟨raise_ports n a s, Port.receive_of_not, fun hst => Port.receive_detached hst n _, Port.receive_queued, Port.receive_dropped⟩

end Sys2Proof.Certificates
end

section
/-! SUPPORT. A port's error count that is set, with the state that R189 gives with it and the PORT_STATE of a change (R189, R192, R196). -/

namespace Sys2Proof.Machine

/-! ## The state after a count (R189) -/

theorem portStateAfter_normal {n : Nat} (hn : n ≠ 192) : portStateAfter .normal n = if 96 ≤ n then .caution else .normal := if_neg hn

theorem portStateAfter_caution {n : Nat} (hn : n ≠ 192) : portStateAfter .caution n = if n < 64 then .normal else .caution := if_neg hn

/-! ## The port whose count is set -/

/-- The PORT_STATE of a port whose error count is set to n at a tick (R196). -/
def Port.countNotice (p : Fin 4) (P : Port) (n : Nat) (now : Tick) : Notice :=
  .portState p P.state (portStateAfter P.state n) n .frame now

/-- A port's record after its error count was set to n and, where that changes its state, a notice was addressed to it. -/
def Port.counted (P : Port) (n : Nat) (x : Notice) : Port :=
  let after := portStateAfter P.state n
  { P with
    errors := n
    state := after
    queue := if after = P.state then P.queue else if P.queue.length < 16 then P.queue ++ [x] else P.queue
    dropped := if after = P.state then P.dropped else if P.queue.length < 16 then P.dropped else min (P.dropped + 1) 255 }

/-- The select of port p has ended with the reply r in its slot, and no other port record differs: what a frame's count starts from. -/
structure SelectEnds (p : Fin 4) (r : Option Reply) (s x : State) : Prop where
  ports : PortsOnly s x
  self : x.port p = { s.port p with reply := r, chosen := none }
  other : ∀ q, q ≠ p → x.port q = s.port q

theorem SelectEnds.of_updPort (p : Fin 4) (s : State) :
    SelectEnds p (s.port p).reply s (s.updPort p fun P => { P with chosen := none }) where
  ports := updPort_ports ..
  self := State.updPort_port_self ..
  other _ hq := (State.updPort_port ..).trans (if_neg hq)

section Counted

variable {p : Fin 4} {r : Option Reply} {n : Nat} {s x : State} (h : SelectEnds p r s x)

include h in
theorem SelectEnds.setErrors_self (hst : (s.port p).state ≠ .detached) (hn : n ≠ 192) : (setErrors p n x).port p =
    { (s.port p).counted n ((s.port p).countNotice p n s.tick) with reply := r, chosen := none } := by
  have hafter : portStateAfter (s.port p).state n ≠ .detached := fun h => hst (detached_of_portStateAfter hn h)
  rw [setErrors_port_self, h.self, h.ports.timeKept.tick]; unfold Port.counted; dsimp only
  split
  · rfl
  · rw [Port.receive_addressed _ hafter]; rfl

include h in
theorem SelectEnds.setErrors_steady {q : Fin 4} (hq : q ≠ p) (hst : portStateAfter (s.port p).state n = (s.port p).state) :
    (setErrors p n x).port q = s.port q := by
  rw [setErrors_port_other p q n x hq, h.self, h.other q hq]
  exact if_pos hst

include h in
/-- Where the state changes, every other port hears what it would hear of PORT_STATE alone (R196). -/
theorem SelectEnds.setErrors_changed {q : Fin 4} (hq : q ≠ p) (hst : portStateAfter (s.port p).state n ≠ (s.port p).state) :
    (setErrors p n x).port q = (raise ((s.port p).countNotice p n s.tick) [p] s).port q := by
  have haddr : [p].contains q = false := by simpa using hq
  rw [setErrors_port_other p q n x hq, h.self, h.other q hq, h.ports.timeKept.tick, raise_port, haddr]
  exact if_neg hst

end Counted

theorem goodFrame_attached {p : Fin 4} {s : State} (hst : (s.port p).state ≠ .detached) :
    goodFrame p s = setErrors p ((s.port p).errors - 1) (s.updPort p fun P => { P with chosen := none }) := by
  have hport := State.updPort_port_self s p fun P => { P with chosen := none }
  unfold goodFrame; dsimp only
  rw [hport, if_neg hst]

end Sys2Proof.Machine
end

section
/-! Client ports: a well-formed frame's count. -/

namespace Sys2Proof.Certificates

open Sys2Proof.Machine

/-- Settles O13: in DETACHED only the select ends; elsewhere the count is set to one less. -/
theorem goodFrameCounts : Obligations.GoodFrameCounts := by
  intro p s herrors
  have hends := SelectEnds.of_updPort p s
  by_cases hst : (s.port p).state = .detached
  · dsimp only
    rw [goodFrame_detached p s hst, hends.self]
    exact ⟨rfl, rfl, rfl, rfl, rfl, rfl, rfl, fun _ => rfl, fun h => absurd hst h, fun h => absurd (hst.symm.trans h) nofun,
      fun h => absurd (hst.symm.trans h) nofun, fun h => absurd (hst.symm.trans h) nofun, fun _ => ⟨rfl, rfl, hends.other⟩,
      fun h => absurd rfl h⟩
  · have hports := goodFrame_ports p s
    have hcount : (s.port p).errors - 1 ≠ 192 := by omega
    rw [goodFrame_attached hst] at hports ⊢
    rw [hends.setErrors_self hst hcount]
    refine ⟨hports, rfl, rfl, rfl, rfl, rfl, rfl, fun h => absurd h hst, fun _ => rfl, fun h hle => ?_, fun h hlt => ?_, fun h hle => ?_,
      fun hsame => ⟨if_pos hsame, if_pos hsame, fun q hq => hends.setErrors_steady hq hsame⟩,
      fun hchange => ⟨if_neg hchange, if_neg hchange, fun q hq => hends.setErrors_changed hq hchange⟩⟩
    all_goals
      unfold Port.counted; dsimp only; rw [h]
    · rw [portStateAfter_normal hcount, if_neg (by omega)]
    · rw [portStateAfter_caution hcount, if_neg (by omega)]
    · rw [portStateAfter_caution hcount, if_pos (by omega)]

end Sys2Proof.Certificates
end

section
/-! SUPPORT. The requests on a port: the table of who may send what (R185), what stops a request before its block (R188), and the preamble
(R199). -/

namespace Sys2Proof.Machine

/-- Every client request but FETCH is taken as R188 says, with its block's answer. -/
theorem exec_eq_takeRequest {c : Instr} {p : Fin 4} {r : Req} (h : requestOf c = some (p, r)) (hfetch : r ≠ .fetch) :
    ∃ act, ∀ s, exec c s = .next (takeRequest p r act s) := by
  cases c <;> cases h <;> first | exact absurd rfl hfetch | exact ⟨_, fun _ => rfl⟩

section Gates

variable {p : Fin 4} {r : Req} {s : State} (act : State → Answer)

/-- A full reply slot discards a request (R188, step 2). -/
theorem takeRequest_discarded (h : (s.port p).reply.isSome = true) : takeRequest p r act s = goodFrame p s :=
  if_pos (by rw [goodFrame_reply]; exact h)

/-- A DETACHED port has only some requests executed (R188, step 3). -/
theorem takeRequest_detached (hreply : (s.port p).reply = none) (hst : ((goodFrame p s).port p).state = .detached)
    (htaken : takenDetached r = false) : takeRequest p r act s = answer p r .detached .none (goodFrame p s) := by
  have hslot : ((goodFrame p s).port p).reply.isSome ≠ true := by rw [goodFrame_reply, hreply]; nofun
  exact (if_neg hslot).trans (if_pos ⟨hst, htaken⟩)

/-- A role that may not send a request is refused (R188, step 4). -/
theorem takeRequest_role (hreply : (s.port p).reply = none) (hst : ((goodFrame p s).port p).state ≠ .detached)
    (hrole : permitted (s.port p).role r = false) : takeRequest p r act s = answer p r .role .none (goodFrame p s) := by
  have hslot : ((goodFrame p s).port p).reply.isSome ≠ true := by rw [goodFrame_reply, hreply]; nofun
  exact (if_neg hslot).trans ((if_neg fun h => hst h.1).trans (if_pos (by rw [goodFrame_role]; exact hrole)))

end Gates

/-! ## Items and the preamble (R191, R193, R199) -/

theorem updPort_self (p : Fin 4) (s : State) : (s.updPort p fun P => P) = s := by simp [State.updPort, State.port]

theorem takeFetch_of_item {p : Fin 4} {through : Bool} {s : State} {x : Item} (hx : (s.port p).item = x) :
    takeFetch p through s = if through = true then (goodFrame p s).updPort p fun P => P.delivered x else goodFrame p s := by
  rw [← hx]; rfl

theorem attention_iff (s : State) (p : Fin 4) : s.attention p = true ↔ (s.port p).reply ≠ none ∨ (s.port p).queue ≠ [] := by
  unfold State.attention
  rw [Bool.or_eq_true, Option.isSome_iff_ne_none, Bool.not_eq_true', List.isEmpty_eq_false_iff]

/-- The first preamble byte, field by field (R199). -/
theorem Port.preambleBytes_fst (P : Port) :
    P.preambleBytes.1.toNat / 64 = (match P.state with | .normal => 0 | .caution => 1 | .detached => 2) ∧
      P.preambleBytes.1.getLsbD 5 = P.reply.isSome ∧ P.preambleBytes.1.getLsbD 4 = (!P.queue.isEmpty) ∧
      P.preambleBytes.1.getLsbD 3 = P.quiet.isSome ∧ P.preambleBytes.1.toNat % 8 = 0 := by
  unfold preambleBytes; dsimp only
  generalize P.state = st, P.reply.isSome = full, P.queue.isEmpty = idle, P.quiet.isSome = waits
  cases st <;> revert full idle waits <;> decide

/-- The second preamble byte is the queue's length (R199). -/
theorem Port.preambleBytes_snd {P : Port} (h : P.queue.length ≤ 16) : P.preambleBytes.2.toNat = P.queue.length :=
  (BitVec.toNat_ofNat ..).trans (Nat.mod_eq_of_lt (by omega))

/-! ## The port after a well-formed frame (R188), and the quiet interval (R195) -/

theorem goodFrame_mask {p : Fin 4} {s : State} (herrors : (s.port p).errors ≤ 192) :
    ((goodFrame p s).port p).mask = (s.port p).mask := by
  have hends := SelectEnds.of_updPort p s
  by_cases hst : (s.port p).state = .detached
  · rw [goodFrame_detached p s hst, hends.self]
  · rw [goodFrame_attached hst, hends.setErrors_self hst (by omega)]; rfl

theorem accepts_errors {p : Fin 4} {r : Req} {s : State} : Accepts p r s → (s.port p).errors ≤ 192 := fun ⟨_, _, _, h⟩ => h

section Requests

variable {p : Fin 4} {m : BitVec 24} {s : State}

theorem subscribeAct_of_lt (h : m.toNat < 2 ^ 19) : subscribeAct p m s =
    { code := .ok, body := .mask (s.port p).mask, state := s.updPort p fun P => { P with mask := m.setWidth 19 } } := by
  unfold subscribeAct maskOf
  rw [if_pos h, BitVec.ofNat_toNat]

theorem subscribeAct_of_le (h : 2 ^ 19 ≤ m.toNat) : subscribeAct p m s = refuse .range s := by
  unfold subscribeAct maskOf
  rw [if_neg (Nat.not_lt.mpr h)]

theorem rejoinAct_detached (h : (s.port p).state = .detached) : rejoinAct p s =
    { code := .ok, body := .quiet (some (s.tick + 360000)),
      state := s.updPort p fun P => { P with quiet := some (s.tick + 360000) } } := if_pos h

theorem rejoinAct_attached (h : (s.port p).state ≠ .detached) : rejoinAct p s = { code := .ok, body := .quiet none, state := s } :=
  if_neg h

theorem takeQuietExpiry_due (hst : (s.port p).state = .detached) (hquiet : (s.port p).quiet = some s.tick) :
    takeQuietExpiry p s = completeRejoin p s :=
  if_pos (by unfold quietDue; rw [decide_eq_true hst, decide_eq_true hquiet]; rfl)

end Requests

end Sys2Proof.Machine
end

section
/-! Client ports: what stops a request, selects, FETCH, and the requests on the port itself. -/

namespace Sys2Proof.Certificates

open Sys2Proof.Machine

/-- Settles O15: the codes and the table of R185 request by request, then the three gates of R188. -/
theorem requestGates : Obligations.RequestGates := by
  refine ⟨fun r => by cases r <;> rfl, fun _ _ _ _ _ => rfl, fun role r => ?_, fun c p r s hc hfetch herrors => ?_⟩
  · cases r <;> cases role <;> decide
  · obtain ⟨act, hexec⟩ := exec_eq_takeRequest hc hfetch
    have hst := goodFrame_detached_iff p s herrors
    rw [hexec]
    refine ⟨fun hfull => ?_, fun hreply hdetached hstatus hrejoin => ?_, fun hreply hattached hrole => ?_⟩
    · rw [takeRequest_discarded act hfull]
    · have htaken : takenDetached r = false := by cases r <;> first | rfl | contradiction
      rw [takeRequest_detached act hreply (hst.mpr hdetached) htaken]
    · rw [takeRequest_role act hreply (mt hst.mp hattached) hrole]

/-- Settles O16: the item that a port offers is chosen at the check byte, or else at the taking, and removed where it was clocked through. -/
theorem fetchDelivers : Obligations.FetchDelivers := by
  intro p through s P item
  have hitem : item = P.choose := by unfold item Port.choose; cases P.reply <;> [cases P.queue; skip] <;> rfl
  rw [hitem]
  refine ⟨rfl, congrArg Host.Outcome.next ?_⟩
  rw [takeFetch_of_item (x := P.chosen.getD P.choose) rfl]
  cases P.chosen.getD P.choose with
  | reply r => rfl
  | notice n => rfl
  | empty => exact congrArg (if through = true then · else _) (updPort_self ..)

/-- Settles O17: the preamble's bytes by the port's state, slot, queue and quiet interval. -/
theorem selectSnapshot : Obligations.SelectSnapshot := by
  intro p s
  obtain ⟨hstate, hslot, hqueue, hquiet, hlow⟩ := (s.port p).preambleBytes_fst
  exact ⟨attention_iff s p, _, _, rfl, hstate, hslot, hqueue, hquiet, hlow, Port.preambleBytes_snd⟩

/-- Settles O20: each request's block on the port after its form step, and the completion of a rejoin. -/
theorem portRequests : Obligations.PortRequests := by
  intro p m s
  have hdetached (h : (s.port p).errors ≤ 192) := goodFrame_detached_iff p s h
  refine ⟨fun h => ?_, fun h hm => ?_, fun h hm => ?_, fun h hst => ?_, fun h hst => ?_, fun hst hquiet => ?_⟩
  · exact congrArg Host.Outcome.next (takeRequest_of_accepts h (statusAct p))
  · refine congrArg Host.Outcome.next ((takeRequest_of_accepts h (subscribeAct p m)).trans ?_)
    rw [subscribeAct_of_lt hm, goodFrame_mask (accepts_errors h)]
  · refine congrArg Host.Outcome.next ((takeRequest_of_accepts h (subscribeAct p m)).trans ?_)
    rw [subscribeAct_of_le hm]; rfl
  · refine congrArg Host.Outcome.next ((takeRequest_of_accepts h (rejoinAct p)).trans ?_)
    rw [rejoinAct_detached ((hdetached (accepts_errors h)).mpr hst), goodFrame_tick]
  · refine congrArg Host.Outcome.next ((takeRequest_of_accepts h (rejoinAct p)).trans ?_)
    rw [rejoinAct_attached (mt (hdetached (accepts_errors h)).mp hst)]
  · refine congrArg Host.Outcome.next ((takeQuietExpiry_due hst hquiet).trans ?_)
    unfold completeRejoin; rw [hst]

end Sys2Proof.Certificates
end

section
/-! SUPPORT. The form of a client frame, cause by cause (R186), the bodies read back from the bytes that spell them (R198), and the lengths of
what the part sends (R199, R201). -/

namespace Sys2Proof

/-! ## The form of a frame (R186) -/

section FrameForm

variable {p : Fin 4} {through : Bool} {code len : Byte} {rest : List Byte}

theorem frameForm_size (hsize : frameSizeOk code len (rest.length + 2) = false) :
    frameForm p through (code :: len :: rest) = .malformed .size code := if_pos hsize

theorem frameForm_check (hsize : frameSizeOk code len (rest.length + 2) = true) (hsum : byteSum (code :: len :: rest) ≠ 0) :
    frameForm p through (code :: len :: rest) = .malformed .check code :=
  (if_neg (by rw [List.length_cons, List.length_cons, hsize]; nofun)).trans (if_pos hsum)

section Sound

variable (hsize : frameSizeOk code len (rest.length + 2) = true) (hsum : byteSum (code :: len :: rest) = 0)

include hsize hsum

theorem frameForm_code (hreq : reqOf code = none) : frameForm p through (code :: len :: rest) = .malformed .code code := by
  simp [frameForm, hsize, hsum, hreq]

/-- A FETCH that has a body (log entry 25). -/
theorem frameForm_fetchBody (hcode : code = 2) (hlen : len ≠ 0) :
    frameForm p through (code :: len :: rest) = .malformed .length code := by
  have hreq : reqOf code = some .fetch := by rw [hcode]; rfl
  simp only [frameForm, List.length_cons, hsize, hsum, hreq, if_pos (And.intro hcode hlen)]
  rfl

theorem frameForm_length {r : Req} (hreq : reqOf code = some r) (hbody : decodeBody p through r (rest.take len.toNat) = none) :
    frameForm p through (code :: len :: rest) = .malformed .length code := by
  simp [frameForm, hsize, hsum, hreq, hbody]

theorem frameForm_wellFormed {r : Req} {i : Instr} (hreq : reqOf code = some r) (hfetch : code = 2 → len = 0)
    (hbody : decodeBody p through r (rest.take len.toNat) = some i) :
    frameForm p through (code :: len :: rest) = .wellFormed i := by
  simpa [frameForm, hsize, hsum, hreq, hbody] using hfetch

end Sound

end FrameForm

/-- Bytes that do not begin with a well-formed FETCH are all of them the frame. -/
theorem frameBytes_of_ne {bytes : List Byte} (h : bytes.take 3 ≠ [2, 0, 254]) : frameBytes bytes = bytes := if_neg h

/-- A well-formed FETCH and the bytes during its item (R191). -/
theorem decodeFrame_fetch (p : Fin 4) (through : Bool) (item : List Byte) :
    decodeFrame p through ([2, 0, 254] ++ item) = .wellFormed (.fetch p through) := by
  have hframe : frameBytes ([2, 0, 254] ++ item) = [2, 0, 254] := if_pos rfl
  unfold decodeFrame
  rw [hframe]
  exact frameForm_wellFormed rfl rfl rfl (by decide) rfl

/-! ## Bodies read back (R198) -/

@[simp] theorem get8_cons (b : Byte) (r : List Byte) : get8 (b :: r) = some (b, r) := rfl

/-- One field read, and the fields after it. -/
theorem bind_of {α β : Type} {x : Option α} {k : α → Option β} {a : α} {y : Option β} (hx : x = some a) (hk : k a = y) :
    (x >>= k) = y := by
  rw [hx]; exact hk

theorem getSelector_put (x : RawSelector) (r : List Byte) : getSelector (putSelector x ++ r) = some (x, r) := rfl

theorem getHandle_put (h : RawHandle) (r : List Byte) : getHandle (putHandle h ++ r) = some (h, r) := rfl

theorem getCell_put (c : RawCell) (r : List Byte) : getCell (putCell c ++ r) = some (c, r) := by
  unfold getCell putCell
  simp only [List.append_assoc, List.cons_append, List.nil_append]
  iterate 3 refine bind_of (getSelector_put _ _) ?_
  iterate 7 refine bind_of (get8_cons _ _) ?_
  exact bind_of (get32_bytes32 _ _) rfl

/-- The optional byte that ends a body. -/
theorem getOpt_put8_last {x : OptField Byte} (h : x.wellFormed = true) : getOpt get8 (putOpt put8 x) = some (x, []) := by
  simpa using getOpt_put8 x h []

/-- The optional 32-bit field that ends a body. -/
theorem getOpt_bytes32_last {x : OptField (BitVec 32)} (h : x.wellFormed = true) : getOpt get32 (putOpt bytes32 x) = some (x, []) := by
  simpa using getOpt_bytes32 x h []

theorem get32_bytes32_last (x : BitVec 32) : get32 (bytes32 x) = some (x, []) := by simpa using get32_bytes32 x []

theorem get16_bytes16_last (x : BitVec 16) : get16 (bytes16 x) = some (x, []) := by simpa using get16_bytes16 x []

theorem get24_bytes24_last (x : BitVec 24) : get24 (bytes24 x) = some (x, []) := by simpa using get24_bytes24 x []

theorem whole_of {α : Type} {f : Parser α} {mk : α → Instr} {bs : List Byte} {a : α} (h : f bs = some (a, [])) :
    whole f mk bs = some (mk a) := by
  unfold whole; rw [h]

/-! Each body of several fields is read back field by field, in the order of its layout. -/

theorem getCalendar_body (r : RawCalendar) :
    getCalendar (bytes16 r.year ++ [r.month, r.day, r.hour, r.minute, r.second, r.dow]) = some (r, []) :=
  bind_of (get16_bytes16 _ _) rfl

theorem getLane_body {r : RawLane} (h : r.expected.wellFormed = true) :
    getLane ([r.lane, r.enable, r.feed, r.zone, r.cadence] ++ bytes16 r.phase ++ bytes32 r.pathDelay ++ bytes32 r.claimLead ++
      bytes32 r.lateGrace ++ bytes16 r.ceiling ++ bytes32 r.ackGrace ++ putOpt put8 r.expected) = some (r, []) := by
  unfold getLane
  simp only [List.append_assoc, List.cons_append, List.nil_append]
  iterate 5 refine bind_of (get8_cons _ _) ?_
  refine bind_of (get16_bytes16 _ _) ?_
  iterate 3 refine bind_of (get32_bytes32 _ _) ?_
  refine bind_of (get16_bytes16 _ _) (bind_of (get32_bytes32 _ _) ?_)
  exact bind_of (getOpt_put8_last h) rfl

theorem getPair_body {r : RawPair} (h : r.expected.wellFormed = true) :
    getPair ([r.pair, r.mode] ++ putCell r.even ++ putCell r.odd ++ putOpt put8 r.expected) = some (r, []) := by
  unfold getPair
  simp only [List.append_assoc, List.cons_append, List.nil_append]
  iterate 2 refine bind_of (get8_cons _ _) ?_
  iterate 2 refine bind_of (getCell_put _ _) ?_
  exact bind_of (getOpt_put8_last h) rfl

theorem getEnable_body {r : RawEnable} (h : r.expected.wellFormed = true) :
    getEnable ([r.pair, r.enable] ++ putOpt put8 r.expected) = some (r, []) :=
  bind_of (get8_cons _ _) (bind_of (get8_cons _ _) (bind_of (getOpt_put8_last h) rfl))

theorem getFilter_body {r : RawFilter} (h : r.expected.wellFormed = true) :
    getFilter ([r.filter, r.enable, r.feed, r.kinds] ++ bytes32 r.idValue ++ bytes32 r.idMask ++
      [r.classLow, r.classHigh, r.origin, r.action, r.notify] ++ bytes32 r.lanes ++ putOpt put8 r.expected) = some (r, []) := by
  unfold getFilter
  simp only [List.append_assoc, List.cons_append, List.nil_append]
  iterate 4 refine bind_of (get8_cons _ _) ?_
  iterate 2 refine bind_of (get32_bytes32 _ _) ?_
  iterate 5 refine bind_of (get8_cons _ _) ?_
  exact bind_of (get32_bytes32 _ _) (bind_of (getOpt_put8_last h) rfl)

theorem getBooking_body (r : RawBooking) :
    getBooking ([r.lane] ++ bytes32 r.eventId ++ [r.cls] ++ bytes48 r.outTick ++ bytes32 r.frames) = some (r, []) := by
  unfold getBooking
  simp only [List.append_assoc, List.cons_append, List.nil_append]
  refine bind_of (get8_cons _ _) (bind_of (get32_bytes32 _ _) (bind_of (get8_cons _ _) ?_))
  exact bind_of (get48_bytes48 _ _) (bind_of (get32_bytes32_last _) rfl)

theorem getClaim_body {r : RawClaim} (h : r.spot.wellFormed = true) :
    getClaim (putHandle r.handle ++ [r.rank, r.source] ++ putOpt bytes32 r.spot) = some (r, []) := by
  unfold getClaim
  simp only [List.append_assoc, List.cons_append, List.nil_append]
  refine bind_of (getHandle_put _ _) ?_
  iterate 2 refine bind_of (get8_cons _ _) ?_
  exact bind_of (getOpt_bytes32_last h) rfl

theorem getStand_body {r : RawStand} (h : r.spot.wellFormed = true) :
    getStand ([r.lane, r.rank, r.source] ++ putOpt bytes32 r.spot) = some (r, []) := by
  iterate 3 refine bind_of (get8_cons _ _) ?_
  exact bind_of (getOpt_bytes32_last h) rfl

theorem getWindow_body {r : RawWindow} (h : r.expected.wellFormed = true) :
    getWindow ([r.window, r.enable, r.type, r.days, r.hour, r.minute, r.second] ++ bytes32 r.duration ++ bytes32 r.lanes ++
      [r.source] ++ putOpt put8 r.expected) = some (r, []) := by
  unfold getWindow
  simp only [List.append_assoc, List.cons_append, List.nil_append]
  iterate 7 refine bind_of (get8_cons _ _) ?_
  iterate 2 refine bind_of (get32_bytes32 _ _) ?_
  exact bind_of (get8_cons _ _) (bind_of (getOpt_put8_last h) rfl)

theorem getAlert_body (r : RawAlert) :
    getAlert ([r.id, r.level] ++ bytes16 r.zones ++ [r.source] ++ bytes16 r.duration) = some (r, []) := by
  unfold getAlert
  simp only [List.append_assoc, List.cons_append, List.nil_append]
  iterate 2 refine bind_of (get8_cons _ _) ?_
  exact bind_of (get16_bytes16 _ _) (bind_of (get8_cons _ _) (bind_of (get16_bytes16_last _) rfl))

/-- The body of a well-formed client command spells it. -/
theorem decodeBody_encodeBody {i : Instr} {r : Req} {body : List Byte} (hwf : i.wellFormed = true)
    (h : encodeBody i = some (r, body)) : ∃ p through, decodeBody p through r body = some i := by
  cases i <;> cases h
  case fetch p through => exact ⟨p, through, rfl⟩
  case subscribe p m => exact ⟨p, true, whole_of (get24_bytes24_last m)⟩
  case setCalendar p r => exact ⟨p, true, whole_of (getCalendar_body r)⟩
  case writeLane p r => exact ⟨p, true, whole_of (getLane_body hwf)⟩
  case writePair p r => exact ⟨p, true, whole_of (getPair_body hwf)⟩
  case enablePair p r => exact ⟨p, true, whole_of (getEnable_body hwf)⟩
  case writeFilter p r => exact ⟨p, true, whole_of (getFilter_body hwf)⟩
  case bookAvail p r => exact ⟨p, true, whole_of (getBooking_body r)⟩
  case claim p r => exact ⟨p, true, whole_of (getClaim_body hwf)⟩
  case stand p r => exact ⟨p, true, whole_of (getStand_body hwf)⟩
  case writeWindow p r => exact ⟨p, true, whole_of (getWindow_body hwf)⟩
  case alertStart p r => exact ⟨p, true, whole_of (getAlert_body r)⟩
  all_goals exact ⟨_, true, rfl⟩

theorem putOpt_length_le {α : Type} {f : α → List Byte} {n : Nat} (hf : ∀ a, (f a).length = n) (x : OptField α) :
    (putOpt f x).length ≤ 1 + n := by
  cases x with
  | absent => exact Nat.le_add_right 1 n
  | given a => exact (Nat.add_comm ..).trans (congrArg (1 + ·) (hf a)) |>.le
  | undefinedPresence b => exact Nat.le_add_right 1 n

/-- No body that a client command spells is longer than 48 bytes (R186). -/
theorem encodeBody_length {i : Instr} {r : Req} {body : List Byte} (h : encodeBody i = some (r, body)) : body.length ≤ 48 := by
  have hopt8 := putOpt_length_le (f := put8) (n := 1) fun _ => rfl
  have hopt32 := putOpt_length_le bytes32_length
  cases i <;> cases h
  case writeLane p r => have := hopt8 r.expected; simp; omega
  case writePair p r => have := hopt8 r.expected; simp [putCell, putSelector]; omega
  case enablePair p r => have := hopt8 r.expected; simp; omega
  case writeFilter p r => have := hopt8 r.expected; simp; omega
  case claim p r => have := hopt32 r.spot; simp [putHandle]; omega
  case stand p r => have := hopt32 r.spot; simp; omega
  case writeWindow p r => have := hopt8 r.expected; simp; omega
  all_goals exact of_decide_eq_true rfl

theorem encodeBody_fetch {i : Instr} {body : List Byte} (h : encodeBody i = some (.fetch, body)) : body = [] := by
  cases i <;> cases h; rfl

theorem reqOf_codeOf (r : Req) : reqOf (codeOf r) = some r := by cases r <;> rfl

theorem codeOf_eq_two {r : Req} (h : codeOf r = 2) : r = .fetch := by
  have hr := reqOf_codeOf r
  rw [h] at hr; exact (Option.some.inj hr).symm

/-- A frame of code, length, body and check byte decodes to what its body spells (R186, R199). -/
theorem decodeFrame_encoded {p : Fin 4} {through : Bool} {i : Instr} {r : Req} {body : List Byte} (hlen : body.length ≤ 48)
    (hfetch : r = .fetch → body = []) (hbody : decodeBody p through r body = some i) :
    let front := codeOf r :: BitVec.ofNat 8 body.length :: body
    decodeFrame p through (front ++ [checkByte front]) = .wellFormed i := by
  intro front
  have hlenByte : (BitVec.ofNat 8 body.length).toNat = body.length := (BitVec.toNat_ofNat ..).trans (Nat.mod_eq_of_lt (by omega))
  have hempty (h : codeOf r = 2) : body = [] := hfetch (codeOf_eq_two h)
  have hframe : frameBytes (front ++ [checkByte front]) = front ++ [checkByte front] := by
    unfold frameBytes; split
    · rename_i h
      obtain rfl := hempty (List.cons.inj h).1
      rfl
    · rfl
  unfold decodeFrame
  rw [hframe]
  refine frameForm_wellFormed (r := r) (rest := body ++ [checkByte front]) ?_ (byteSum_checkByte front) (reqOf_codeOf r)
    (fun h => by rw [hempty h]; rfl) ?_
  · unfold frameSizeOk
    rw [hlenByte, List.length_append, Bool.and_eq_true]
    refine ⟨decide_eq_true hlen, ?_⟩
    split
    · rename_i h; rw [hempty h]; rfl
    · exact decide_eq_true rfl
  · rw [hlenByte, List.take_left]; exact hbody

end Sys2Proof
end

section
/-! SUPPORT. What the part sends sums to 0 (R199, R201). -/

namespace Sys2Proof.Machine

theorem Item.front_length (x : Item) : 5 ≤ x.front.length := by
  cases x <;> exact Nat.le_add_left ..

theorem outSource_length (x : Source) : (outSource x).length = 1 := by cases x <;> rfl

end Sys2Proof.Machine
end

section
/-! Client ports: frames and what the part sends. -/

namespace Sys2Proof.Certificates

open Sys2Proof.Machine

/-- Settles O2: the frame passes each check of R186 and its body spells the command; the bytes during a FETCH's item are cut off. -/
theorem frameRoundTrip : Obligations.FrameRoundTrip := by
  refine ⟨fun i bytes hwf hbytes => ?_, fun p through item => ⟨decodeFrame_fetch p through item, fun s => ?_⟩⟩
  · obtain ⟨⟨r, body⟩, hbody, rfl⟩ := Option.map_eq_some_iff.mp hbytes
    obtain ⟨p, through, hdecode⟩ := decodeBody_encodeBody hwf hbody
    refine ⟨p, through, decodeFrame_encoded (encodeBody_length hbody) (fun hr => encodeBody_fetch (hbody.trans ?_)) hdecode⟩
    exact congrArg (fun x => some (x, body)) hr
  · have htaken : takeBytes p ([2, 0, 254] ++ item) s = s := by unfold takeBytes; rw [decodeFrame_fetch]
    exact congrArg Host.Outcome.next htaken

/-- Settles O4: what is sent ends in its check byte, after at least five bytes of an item or eight of an ORDER. -/
theorem sentBytesSum : Obligations.SentBytesSum := by
  refine ⟨fun x => ⟨byteSum_checkByte x.front, ?_⟩, fun m => ⟨byteSum_checkByte _, ?_⟩⟩
  · unfold Item.bytes; rw [List.length_append]; exact Nat.succ_le_succ x.front_length
  · unfold OrderMsg.bytes; simp [outSource_length]

end Sys2Proof.Certificates
end

section
/-! SUPPORT. The lengths that a request's body can have (R186, LENGTH; R198): what each parser takes off the front of a body, and how long a
body with an optional field at its end is. -/

namespace Sys2Proof

/-! ## Fields of fixed length -/

/-- A parser's result x on bs takes n bytes off the front, where there are as many. -/
def ReadsAt {α : Type} (n : Nat) (bs : List Byte) (x : Option (α × List Byte)) : Prop :=
  x.map Prod.snd = if n ≤ bs.length then some (bs.drop n) else none

theorem ReadsAt.cases {α : Type} {n : Nat} {bs : List Byte} {x : Option (α × List Byte)} (h : ReadsAt n bs x) :
    (n ≤ bs.length ∧ ∃ a, x = some (a, bs.drop n)) ∨ (bs.length < n ∧ x = none) := by
  unfold ReadsAt at h
  split at h
  · rename_i hle
    obtain ⟨⟨a, r⟩, hx, rfl⟩ := Option.map_eq_some_iff.mp h
    exact .inl ⟨hle, a, hx⟩
  · rename_i hlt
    exact .inr ⟨Nat.lt_of_not_le hlt, Option.map_eq_none_iff.mp h⟩

theorem ReadsAt.pure {α : Type} (a : α) (bs : List Byte) : ReadsAt 0 bs (some (a, bs)) := rfl

/-- The fields after a field of m bytes. -/
theorem ReadsAt.bind {α β : Type} {m n : Nat} {bs : List Byte} {x : Option (α × List Byte)} {k : α × List Byte → Option (β × List Byte)}
    (hx : ReadsAt m bs x) (hk : ∀ a r, ReadsAt n r (k (a, r))) : ReadsAt (n + m) bs (x >>= k) := by
  rcases hx.cases with ⟨hle, a, rfl⟩ | ⟨hlt, rfl⟩
  · refine (hk a (bs.drop m)).trans ?_
    rw [List.length_drop, List.drop_drop, Nat.add_comm m n]
    exact if_congr (by omega) rfl rfl
  · exact (if_neg (by omega)).symm

theorem get8_reads (bs : List Byte) : ReadsAt 1 bs (get8 bs) := by cases bs <;> rfl

theorem get16_reads : ∀ bs : List Byte, ReadsAt 2 bs (get16 bs)
  | [] | [_] | _ :: _ :: _ => rfl

theorem get24_reads : ∀ bs : List Byte, ReadsAt 3 bs (get24 bs)
  | [] | [_] | [_, _] | _ :: _ :: _ :: _ => rfl

theorem get32_reads : ∀ bs : List Byte, ReadsAt 4 bs (get32 bs)
  | [] | [_] | [_, _] | [_, _, _] | _ :: _ :: _ :: _ :: _ => rfl

theorem get48_reads : ∀ bs : List Byte, ReadsAt 6 bs (get48 bs)
  | [] | [_] | [_, _] | [_, _, _] | [_, _, _, _] | [_, _, _, _, _] | _ :: _ :: _ :: _ :: _ :: _ :: _ => rfl

theorem getNone_reads (bs : List Byte) : ReadsAt 0 bs (getNone bs) := rfl

theorem getHandle_reads (bs : List Byte) : ReadsAt 2 bs (getHandle bs) :=
  (get8_reads _).bind fun _ _ => (get8_reads _).bind fun _ _ => .pure _ _

theorem getSelector_reads (bs : List Byte) : ReadsAt 2 bs (getSelector bs) :=
  (get8_reads _).bind fun _ _ => (get8_reads _).bind fun _ _ => .pure _ _

theorem getOutput_reads (bs : List Byte) : ReadsAt 3 bs (getOutput bs) :=
  (get8_reads _).bind fun _ _ => (getSelector_reads _).bind fun _ _ => .pure _ _

theorem getCalendar_reads (bs : List Byte) : ReadsAt 8 bs (getCalendar bs) := by
  refine (get16_reads _).bind fun _ _ => ?_
  iterate 6 refine (get8_reads _).bind fun _ _ => ?_
  exact .pure _ _

theorem getCell_reads (bs : List Byte) : ReadsAt 17 bs (getCell bs) := by
  iterate 3 refine (getSelector_reads _).bind fun _ _ => ?_
  iterate 7 refine (get8_reads _).bind fun _ _ => ?_
  exact (get32_reads _).bind fun _ _ => .pure _ _

theorem getBooking_reads (bs : List Byte) : ReadsAt 16 bs (getBooking bs) :=
  (get8_reads _).bind fun _ _ => (get32_reads _).bind fun _ _ => (get8_reads _).bind fun _ _ => (get48_reads _).bind fun _ _ =>
    (get32_reads _).bind fun _ _ => .pure _ _

theorem getAlert_reads (bs : List Byte) : ReadsAt 7 bs (getAlert bs) :=
  (get8_reads _).bind fun _ _ => (get8_reads _).bind fun _ _ => (get16_reads _).bind fun _ _ => (get8_reads _).bind fun _ _ =>
    (get16_reads _).bind fun _ _ => .pure _ _

/-! ## An optional field at the end -/

/-- The length of a body of n bytes, or of n bytes, a presence byte and the k bytes that follow it where it is 1 (R198). -/
def fullLength (n : Nat) (optional : Option Nat) (bs : List Byte) : Nat :=
  match optional with
  | none => n
  | some k => if bs[n]? = some 1 then n + 1 + k else n + 1

/-- A parser's result x on bs is a whole body exactly where bs has the length that its presence byte asks for. -/
def WholeAt {α : Type} (n : Nat) (optional : Option Nat) (bs : List Byte) (x : Option (α × List Byte)) : Prop :=
  (∃ a, x = some (a, [])) ↔ bs.length = fullLength n optional bs

theorem ReadsAt.whole {α : Type} {n : Nat} {bs : List Byte} {x : Option (α × List Byte)} (h : ReadsAt n bs x) : WholeAt n none bs x := by
  rcases h.cases with ⟨hle, a, rfl⟩ | ⟨hlt, rfl⟩
  · refine ⟨fun ⟨b, hb⟩ => ?_, fun hlen => ⟨a, ?_⟩⟩
    · have hdrop : bs.drop n = [] := congrArg Prod.snd (Option.some.inj hb)
      exact Nat.le_antisymm (List.drop_eq_nil_iff.mp hdrop) hle
    · rw [List.drop_eq_nil_of_le (show bs.length ≤ n from Nat.le_of_eq hlen)]
  · exact iff_of_false nofun (Nat.ne_of_lt hlt)

/-- A field of m bytes in front of a body that ends in an optional field. -/
theorem ReadsAt.bindWhole {α β : Type} {m n k : Nat} {bs : List Byte} {x : Option (α × List Byte)}
    {f : α × List Byte → Option (β × List Byte)} (hx : ReadsAt m bs x) (hf : ∀ a r, WholeAt n (some k) r (f (a, r))) :
    WholeAt (n + m) (some k) bs (x >>= f) := by
  rcases hx.cases with ⟨hle, a, rfl⟩ | ⟨hlt, rfl⟩
  · refine (hf a (bs.drop m)).trans ?_
    unfold fullLength; dsimp only
    rw [List.length_drop, List.getElem?_drop, Nat.add_comm m n]
    split <;> omega
  · refine iff_of_false nofun ?_
    unfold fullLength; dsimp only
    split <;> omega

theorem getOpt_absent {α : Type} {f : Parser α} {b : Byte} (r : List Byte) (hb : b ≠ 1) : ∃ o, getOpt f (b :: r) = some (o, r) := by
  unfold getOpt; dsimp only
  rw [if_neg hb]
  split <;> exact ⟨_, rfl⟩

/-- The optional field that ends a body. -/
theorem getOpt_whole {α β : Type} {k : Nat} {f : Parser α} {g : OptField α × List Byte → Option (β × List Byte)}
    (hf : ∀ bs, ReadsAt k bs (f bs)) (bs : List Byte)
    (hg : ∀ o, ∃ a, ∀ r, g (o, r) = some (a, r) := by exact fun _ => ⟨_, fun _ => rfl⟩) :
    WholeAt 0 (some k) bs (getOpt f bs >>= g) := by
  choose mk hmk using hg
  cases bs with
  | nil => exact iff_of_false nofun nofun
  | cons b r =>
    by_cases hb : b = 1
    · subst hb
      have hlen : (1 :: r).length = fullLength 0 (some k) (1 :: r) ↔ r.length = k := by
        unfold fullLength; simp; omega
      have hfield : (∃ a, (getOpt f (1 :: r) >>= g) = some (a, [])) ↔ ∃ a, f r = some (a, []) := by
        have hopt : getOpt f (1 :: r) = (f r).map fun x => (.given x.1, x.2) := rfl
        rw [hopt]
        cases f r with
        | none => exact iff_of_false nofun nofun
        | some x => simp [hmk, Prod.ext_iff]
      exact hfield.trans ((hf r).whole.trans hlen.symm)
    · obtain ⟨o, ho⟩ := getOpt_absent (f := f) r hb
      have hlen : fullLength 0 (some k) (b :: r) = 1 := if_neg fun h => hb (Option.some.inj h)
      unfold WholeAt
      rw [ho, hlen]
      simp [hmk]

theorem getLane_whole (bs : List Byte) : WholeAt 25 (some 1) bs (getLane bs) := by
  iterate 5 refine (get8_reads _).bindWhole fun _ _ => ?_
  refine (get16_reads _).bindWhole fun _ _ => ?_
  iterate 3 refine (get32_reads _).bindWhole fun _ _ => ?_
  refine (get16_reads _).bindWhole fun _ _ => (get32_reads _).bindWhole fun _ _ => ?_
  exact getOpt_whole get8_reads _

theorem getPair_whole (bs : List Byte) : WholeAt 36 (some 1) bs (getPair bs) := by
  iterate 2 refine (get8_reads _).bindWhole fun _ _ => ?_
  iterate 2 refine (getCell_reads _).bindWhole fun _ _ => ?_
  exact getOpt_whole get8_reads _

theorem getEnable_whole (bs : List Byte) : WholeAt 2 (some 1) bs (getEnable bs) :=
  (get8_reads _).bindWhole fun _ _ => (get8_reads _).bindWhole fun _ _ => getOpt_whole get8_reads _

theorem getFilter_whole (bs : List Byte) : WholeAt 21 (some 1) bs (getFilter bs) := by
  iterate 4 refine (get8_reads _).bindWhole fun _ _ => ?_
  iterate 2 refine (get32_reads _).bindWhole fun _ _ => ?_
  iterate 5 refine (get8_reads _).bindWhole fun _ _ => ?_
  exact (get32_reads _).bindWhole fun _ _ => getOpt_whole get8_reads _

theorem getClaim_whole (bs : List Byte) : WholeAt 4 (some 4) bs (getClaim bs) :=
  (getHandle_reads _).bindWhole fun _ _ => (get8_reads _).bindWhole fun _ _ => (get8_reads _).bindWhole fun _ _ =>
    getOpt_whole get32_reads _

theorem getStand_whole (bs : List Byte) : WholeAt 3 (some 4) bs (getStand bs) := by
  iterate 3 refine (get8_reads _).bindWhole fun _ _ => ?_
  exact getOpt_whole get32_reads _

theorem getWindow_whole (bs : List Byte) : WholeAt 16 (some 1) bs (getWindow bs) := by
  iterate 7 refine (get8_reads _).bindWhole fun _ _ => ?_
  iterate 2 refine (get32_reads _).bindWhole fun _ _ => ?_
  exact (get8_reads _).bindWhole fun _ _ => getOpt_whole get8_reads _

/-! ## The requests' bodies -/

/-- The body of a request (R198): its bytes before an optional field, and the size of the optional field where it has one. -/
def bodyShape : Req → Nat × Option Nat
  | .status | .fetch | .rejoin | .readTime | .readOrderLink | .readIntake | .readCueLogic | .readStrays | .takeStray | .readAlerts => (0, none)
  | .readLane | .laneReset | .readFeed | .readPair | .readFilter | .readHit | .readLaneAvails | .standClear | .standPause | .standResume
  | .readStanding | .readWindow | .alertEnd => (1, none)
  | .readAvail | .cancelAvail | .release | .withdraw => (2, none)
  | .subscribe | .setCueOutput => (3, none)
  | .alertStart => (7, none)
  | .setCalendar => (8, none)
  | .bookAvail => (16, none)
  | .writeLane => (25, some 1)
  | .writePair => (36, some 1)
  | .enablePair => (2, some 1)
  | .writeFilter => (21, some 1)
  | .writeWindow => (16, some 1)
  | .claim => (4, some 4)
  | .stand => (3, some 4)

theorem whole_eq_none_iff {α : Type} {f : Parser α} {mk : α → Instr} {n : Nat} {optional : Option Nat} {bs : List Byte}
    (h : WholeAt n optional bs (f bs)) : whole f mk bs = none ↔ bs.length ≠ fullLength n optional bs := by
  refine Iff.trans ?_ (not_congr h)
  unfold whole
  split
  · rename_i a ha; exact iff_of_false nofun fun hnot => hnot ⟨a, ha⟩
  · rename_i hno; exact iff_of_true rfl fun ⟨a, ha⟩ => hno a ha

/-- A body spells no command of its request exactly where its length is not one that the request's fields give. -/
theorem decodeBody_eq_none_iff (p : Fin 4) (through : Bool) (r : Req) (bs : List Byte) :
    decodeBody p through r bs = none ↔ bs.length ≠ fullLength (bodyShape r).1 (bodyShape r).2 bs := by
  cases r
  case subscribe => exact whole_eq_none_iff (get24_reads bs).whole
  case setCalendar => exact whole_eq_none_iff (getCalendar_reads bs).whole
  case writeLane => exact whole_eq_none_iff (getLane_whole bs)
  case writePair => exact whole_eq_none_iff (getPair_whole bs)
  case enablePair => exact whole_eq_none_iff (getEnable_whole bs)
  case setCueOutput => exact whole_eq_none_iff (getOutput_reads bs).whole
  case writeFilter => exact whole_eq_none_iff (getFilter_whole bs)
  case bookAvail => exact whole_eq_none_iff (getBooking_reads bs).whole
  case claim => exact whole_eq_none_iff (getClaim_whole bs)
  case stand => exact whole_eq_none_iff (getStand_whole bs)
  case writeWindow => exact whole_eq_none_iff (getWindow_whole bs)
  case alertStart => exact whole_eq_none_iff (getAlert_reads bs).whole
  case readAvail | cancelAvail | release | withdraw => exact whole_eq_none_iff (getHandle_reads bs).whole
  case status | fetch | rejoin | readTime | readOrderLink | readIntake | readCueLogic | readStrays | takeStray | readAlerts =>
    exact whole_eq_none_iff (getNone_reads bs).whole
  all_goals exact whole_eq_none_iff (get8_reads bs).whole

end Sys2Proof
end

section
/-! SUPPORT. The causes of a malformed frame (R186), in terms of its bytes, and what a malformed frame that does not detach its port does (R188,
R189, R195). -/

namespace Sys2Proof

theorem frameSizeOk_iff (code len : Byte) (n : Nat) :
    frameSizeOk code len (n + 2) = true ↔ len.toNat ≤ 48 ∧ n = if code = 2 then 1 else len.toNat + 1 := by
  unfold frameSizeOk
  rw [Bool.and_eq_true, decide_eq_true_eq]
  refine and_congr_right fun _ => ?_
  split <;> rw [decide_eq_true_eq] <;> omega

theorem byteSum_eq_foldl (bs : List Byte) : byteSum bs = bs.foldl (· + ·) 0 := List.foldl_eq_foldr.symm

theorem reqOf_undefined {code : Byte} (h : code.toNat < 1 ∨ 39 < code.toNat) : reqOf code = none := by
  unfold reqOf
  split
  case h_40 => rfl
  all_goals omega

theorem decodeFrame_short {p : Fin 4} {through : Bool} {bytes : List Byte} (h : bytes.length < 2) :
    decodeFrame p through bytes = .notAFrame := by
  match bytes, h with
  | [], _ => rfl
  | [x], _ => unfold decodeFrame; rw [frameBytes_of_ne (by nofun)]; rfl

/-- An entry of a table of request codes and bodies that agrees with bodyShape throughout. -/
theorem shape_of_mem {α : Type} {table : List α} {number : α → Nat} {shape : α → Nat × Option Nat} {code : Byte} {x : α}
    (htable : (table.all fun x => (reqOf (BitVec.ofNat 8 (number x))).map bodyShape == some (shape x)) = true) (hmem : x ∈ table)
    (hcode : code.toNat = number x) : (reqOf code).map bodyShape = some (shape x) := by
  have hx := List.all_eq_true.mp htable x hmem
  rwa [← hcode, BitVec.ofNat_toNat, BitVec.setWidth_eq, beq_iff_eq] at hx

/-- The presence byte of a body that reaches it is the frame's byte at the same place. -/
theorem ne_fullLength_take {m n : Nat} {optional : Option Nat} (rest : List Byte) :
    m ≠ fullLength n optional (rest.take m) ↔ m ≠ fullLength n optional rest := by
  cases optional with
  | none => rfl
  | some k =>
    unfold fullLength; dsimp only
    rw [List.getElem?_take]
    by_cases hn : n < m
    · rw [if_pos hn]
    · rw [if_neg hn]
      exact iff_of_true (by rw [if_neg nofun]; omega) (by split <;> omega)

/-- A frame whose size and sum are sound, of a request that is defined, is at fault for its length exactly where that is not the length
that the request's fields give (R186, LENGTH). -/
theorem frameForm_length_iff {p : Fin 4} {through : Bool} {code len : Byte} {rest : List Byte} {n : Nat} {optional : Option Nat}
    (hfetch : (code :: len :: rest).take 3 ≠ [2, 0, 254]) (hsize : frameSizeOk code len (rest.length + 2) = true)
    (hsum : byteSum (code :: len :: rest) = 0) (hshape : (reqOf code).map bodyShape = some (n, optional)) :
    frameForm p through (code :: len :: rest) = .malformed .length code ↔ len.toNat ≠ fullLength n optional rest := by
  obtain ⟨-, hlen⟩ := (frameSizeOk_iff ..).mp hsize
  obtain ⟨r, hreq, hr⟩ := Option.map_eq_some_iff.mp hshape
  by_cases hcode : code = 2
  · subst hcode
    obtain rfl : Req.fetch = r := Option.some.inj hreq
    obtain ⟨rfl, rfl⟩ := Prod.mk.inj hr
    by_cases hzero : len = 0
    · obtain ⟨x, rfl⟩ := List.length_eq_one_iff.mp hlen
      have hx : x = 254 := by
        have hsum : (2 : Byte) + (len + (x + 0)) = 0 := hsum
        rw [hzero] at hsum; bv_omega
      exact absurd (by rw [hzero, hx]; rfl) hfetch
    · exact iff_of_true (frameForm_fetchBody hsize hsum rfl hzero) fun h => hzero (BitVec.eq_of_toNat_eq h)
  · rw [if_neg hcode] at hlen
    have hbody : decodeBody p through r (rest.take len.toNat) = none ↔ len.toNat ≠ fullLength n optional rest := by
      rw [decodeBody_eq_none_iff, hr, List.length_take_of_le (by omega)]
      exact ne_fullLength_take rest
    rw [← hbody]
    cases hdecode : decodeBody p through r (rest.take len.toNat) with
    | none => exact iff_of_true (frameForm_length hsize hsum hreq hdecode) rfl
    | some i => exact iff_of_false (by rw [frameForm_wellFormed hsize hsum hreq (fun h => absurd h hcode) hdecode]; nofun) nofun

namespace Machine

/-! ## What a malformed frame does to its port (R188, R189, R195) -/

theorem updPort_congr {p : Fin 4} {s : State} {f g : Port → Port} (h : f (s.port p) = g (s.port p)) : s.updPort p f = s.updPort p g := by
  unfold State.updPort; rw [h]

theorem updPort_updPort (p : Fin 4) (f g : Port → Port) (s : State) : (s.updPort p f).updPort p g = s.updPort p fun P => g (f P) := by
  simp [State.updPort, State.port]

/-- The select of a malformed frame ends with FORM in a slot that was empty. -/
theorem SelectEnds.of_placeForm (p : Fin 4) (cause : FormCause) (code : Byte) (s : State) :
    SelectEnds p (some ((s.port p).reply.getD (formReply cause code))) s
      ((s.updPort p fun P => { P with chosen := none }).updPort p fun P => P.placeForm cause code) := by
  rw [updPort_updPort]
  exact ⟨updPort_ports .., State.updPort_port_self .., fun _ hq => (State.updPort_port ..).trans (if_neg hq)⟩

section TakeBytes

variable {p : Fin 4} {bytes : List Byte} {cause : FormCause} {code : Byte} {s : State}
  (hbytes : decodeFrame p true bytes = .malformed cause code)

include hbytes

/-- A malformed frame that leaves the count below 192 is counted. -/
theorem takeBytes_counted (hst : (s.port p).state ≠ .detached) (hcount : (s.port p).errors + 8 < 192) :
    takeBytes p bytes s = setErrors p ((s.port p).errors + 8)
      ((s.updPort p fun P => { P with chosen := none }).updPort p fun P => P.placeForm cause code) := by
  have hport := State.updPort_port_self s p fun P => { P with chosen := none }
  unfold takeBytes; rw [hbytes]; dsimp only
  unfold takeMalformedFrame; dsimp only
  rw [hport]
  exact (if_neg hst).trans (if_neg (Nat.not_le_of_lt hcount))

/-- In DETACHED a malformed frame starts a running quiet interval again. -/
theorem takeBytes_detached (hst : (s.port p).state = .detached) :
    takeBytes p bytes s = s.updPort p fun P => (({ P with chosen := none } : Port).placeForm cause code).restartQuiet s.tick := by
  have hport := State.updPort_port_self s p fun P => { P with chosen := none }
  unfold takeBytes; rw [hbytes]; dsimp only
  unfold takeMalformedFrame; dsimp only
  rw [hport]
  exact (if_pos hst).trans (updPort_updPort ..)

end TakeBytes

/-- A port whose count is set leaves the other ports their counts, states and replies. -/
theorem SelectEnds.setErrors_other {p : Fin 4} {r : Option Reply} {n : Nat} {s x : State} (h : SelectEnds p r s x) {q : Fin 4} (hq : q ≠ p) :
    ((setErrors p n x).port q).errors = (s.port q).errors ∧ ((setErrors p n x).port q).state = (s.port q).state ∧
      ((setErrors p n x).port q).reply = (s.port q).reply := by
  by_cases hst : portStateAfter (s.port p).state n = (s.port p).state
  · rw [h.setErrors_steady hq hst]; exact ⟨rfl, rfl, rfl⟩
  · rw [h.setErrors_changed hq hst, raise_port]
    exact ⟨Port.receive_errors .., Port.receive_state .., Port.receive_reply ..⟩

end Machine

end Sys2Proof
end

section
/-! Client ports: a malformed frame. -/

namespace Sys2Proof.Certificates

open Sys2Proof.Machine

/-- Settles O18: the causes in R186's order, LENGTH by each request's body, and the count of a malformed frame. -/
theorem malformedFrame : Obligations.MalformedFrame := by
  refine ⟨fun p through bytes hbytes => decodeFrame_short hbytes, fun p through code len rest => ?_,
    fun p bytes cause code s hbytes => ⟨fun hst hcount => ?_, fun hst => ?_⟩⟩
  · intro bytes sized sums hfetch
    have hsize : sized ↔ frameSizeOk code len (rest.length + 2) = true := (frameSizeOk_iff ..).symm
    have hsum : sums ↔ byteSum bytes = 0 := by rw [byteSum_eq_foldl]
    unfold decodeFrame
    rw [frameBytes_of_ne hfetch, hsize, hsum]
    refine ⟨fun h => frameForm_size (Bool.eq_false_iff.mpr h), frameForm_check,
      fun hs h hcode => frameForm_code hs h (reqOf_undefined hcode), fun hs h => ⟨?_, ?_⟩⟩
    · intro c n hmem hcode
      exact frameForm_length_iff hfetch hs h
        (shape_of_mem (number := Prod.fst) (shape := fun x => (x.2, none)) (by decide) hmem hcode)
    · intro c n k hmem hcode
      exact frameForm_length_iff hfetch hs h
        (shape_of_mem (number := Prod.fst) (shape := fun x => (x.2.1, some x.2.2)) (by decide) hmem hcode)
  · have hends := SelectEnds.of_placeForm p cause code s
    have hne : (s.port p).errors + 8 ≠ 192 := Nat.ne_of_lt hcount
    refine ⟨_, congrArg Host.Outcome.next (takeBytes_counted hbytes hst hcount), ?_⟩
    rw [hends.setErrors_self hst hne]
    refine ⟨hends.ports.trans (setErrors_ports ..), rfl, rfl, rfl, rfl, fun h => ?_, fun h hle => ?_, fun q hq => hends.setErrors_other hq,
      rfl, rfl, rfl, fun hsame => ⟨if_pos hsame, if_pos hsame, fun q hq => hends.setErrors_steady hq hsame⟩,
      fun hchange => ⟨if_neg hchange, if_neg hchange, fun q hq => hends.setErrors_changed hq hchange⟩⟩
    all_goals
      unfold Port.counted; dsimp only; rw [h]
    · exact portStateAfter_normal hne
    · rw [portStateAfter_caution hne, if_neg (by omega)]
  · refine congrArg Host.Outcome.next ((takeBytes_detached hbytes hst).trans (updPort_congr ?_))
    unfold Port.restartQuiet
    cases (s.port p).quiet <;> rfl

end Sys2Proof.Certificates
end
